-- ==== Sys2Proof/Word.lean ====
section
/-! DEFINITION. The word types of the host link and of the line clock. -/

namespace Sys2Proof

/-- A byte of the host link. -/
abbrev Byte := BitVec 8

/-- A reading of the line clock: 32 bits counting milliseconds, which wrap (00_scope.md, "Time of the line"). -/
abbrev Time := BitVec 32

/-- A ticket id (R1). -/
abbrev TicketId := BitVec 32

/-- A printed identity: block id or cover id (R1). -/
abbrev Identity := BitVec 64

end Sys2Proof
end

