-- ==== Sys2Proof/Config.lean ====
section
/-! DEFINITION. What the part fixes: its capacities and its time limits, each with the rule that gives it. -/

namespace Sys2Proof.Config

/-- Capacity of the ticket queue (R9). -/
def ticketCap : Nat := 64
/-- Capacity of the cooling queue (R123). -/
def coolingCap : Nat := 40
/-- Capacity of the done list (R123). -/
def doneCap : Nat := 32
/-- Most BUSY tags owed (R176). -/
def owedCap : Nat := 8
/-- Most records of one COLLECT (R133). -/
def collectMax : Nat := 8
/-- Longest payload of a host frame (R174). -/
def payloadMax : Nat := 480

/-- Overrun limit of a job, ms (R49, R51). -/
def overrunLimit : Nat := 3000
/-- Index and homing limit, ms (R54, R59). -/
def moveLimit : Nat := 1500
/-- Settling window of the pot, ms (R77). -/
def potWindow : Nat := 30000
/-- Warm timer, ms (R99, R104). -/
def warmLimit : Nat := 2400000
/-- Drop window, ms (R125). -/
def dropWindow : Nat := 300
/-- Push confirm window, ms (R130). -/
def pushWindow : Nat := 500
/-- Exit confirm window, ms (R146). -/
def exitWindow : Nat := 500
/-- Settle window of an axis, ms (R141). -/
def axisWindow : Nat := 50
/-- Settle timer of the trimmer, ms (R138). -/
def settleLimit : Nat := 2000
/-- Step timer of the trimmer, ms (R138). -/
def stepLimit : Nat := 1500
/-- Half of the flash period of a lamp, ms (R121). -/
def flashHalf : Nat := 500
/-- POLL cadence in a dwell, ms (R155). -/
def pollFast : Nat := 5
/-- POLL cadence outside a dwell, ms (R155). -/
def pollSlow : Nat := 100
/-- Wait after a BUSY answer, ms (R156). -/
def busyGap : Nat := 5
/-- Reply window of an addressed request, ms (R153). -/
def replyWindow : Nat := 2
/-- Silence of a node 7 to 9 before a NODE_STATUS, ms (R161). -/
def statusGap : Nat := 100
/-- Cadence of the recovery probes, ms (R159). -/
def probeGap : Nat := 1000
/-- Time of one complete scan, ms (R165). -/
def scanGap : Nat := 2
/-- Time the e-stop input reads high before it is released, ms (R171). -/
def estopRelease : Nat := 50
/-- Longest gap between two bytes of a frame, ms (R175). -/
def byteGap : Nat := 10

/-- The check value of a station-bus frame, over its address, kind and payload. The spec gives it no form: the value is
free, and only that it is a function of the three is known (R153; DESIGN CHOICE, log 45). -/
opaque busCheck {Content : Type} (address : Nat) (content : Content) : Nat

end Sys2Proof.Config
end

