-- ==== Sys2Proof/Syntax.lean ====
section
/-! DEFINITION. The commands of the part: one constructor of `Instr` per row of spec/opcode_table.json,
with the operands that come from outside the part (a host frame's tag and payload, a node's answer, a
contact scan, the levels of the direct lines). -/

namespace Sys2Proof

/-- The nine station nodes (09_the_station_bus.md, 9.1). -/
inductive NodeId where
  | loader | mill | glue | cover | nip | release | drive | cooling | trimmer
deriving DecidableEq, Repr

/-- The eight stations of a job list (R47). Zero learning is a job of the station `load`. -/
inductive Station where
  | load | mill | spine | side | draw | apply | nip | release
deriving DecidableEq, Repr

/-- The three positioning axes of the trimmer (R137). -/
inductive Axis where
  | front | foot | head
deriving DecidableEq, Repr

/-- The four levels of a strap (R173). -/
inductive StrapLevel where
  | low | pullDown | floating | high
deriving DecidableEq, Repr

/-- Outcome of one attempt of a draw job (R85). -/
inductive Attempt where
  | hit | mismatch (read : Identity) | unreadable
deriving DecidableEq, Repr

/-- Result data of a job's DONE (R44, R61, R85). `plain` is a DONE that carries nothing. -/
inductive JobResult where
  | plain
  | loaded (gap : BitVec 16)
  | mismatch (read : Identity)
  | unreadable
  | noBlock
  | gap (signedGap : BitVec 16)
  | draw (attempts : List Attempt)
deriving DecidableEq, Repr

/-- What a group node's slot answer says of one job (R50, R154). A FAILED draw carries the outcomes of the
attempts completed (R85); for every other job the list is empty. -/
inductive JobAnswer where
  | busy
  | done (result : JobResult)
  | failed (attempts : List Attempt)
  | noJob
deriving DecidableEq, Repr

/-- A node's answer to a request that ends DONE or FAILED (R156). -/
inductive Answer where
  | busy | done | failed
deriving DecidableEq, Repr

/-- DRIVE's answer to HOME: DONE carries the clamp-0 position q (R59). -/
inductive HomeAnswer where
  | busy | done (q : Fin 20) | failed
deriving DecidableEq, Repr

/-- TRIMMER's answer to READ_AXES: three signed position errors in micrometres (R138). -/
inductive AxesAnswer where
  | busy | errors (front foot head : Int)
deriving DecidableEq, Repr

/-- What a node's frame carries beside its answer: the mark "restarted" (R160), and whether its check value is
that of its address, kind and payload (R153; log 45). -/
structure FrameMarks where
  restarted : Bool
  checkOk   : Bool
deriving DecidableEq, Repr

/-- The commands. A host request carries its tag and its payload bytes. An answer to an addressed request
carries the sequence number it answers (R156), and every frame of a node its marks (R153, R160). -/
inductive Instr where
  -- host requests (R177)
  | ticket (tag : Byte) (payload : List Byte)
  | withdraw (tag : Byte) (payload : List Byte)
  | profilePut (tag : Byte) (payload : List Byte)
  | profileGet (tag : Byte) (payload : List Byte)
  | clampPut (tag : Byte) (payload : List Byte)
  | clampGet (tag : Byte) (payload : List Byte)
  | glueChange (tag : Byte) (payload : List Byte)
  | start (tag : Byte) (payload : List Byte)
  | halt (tag : Byte) (payload : List Byte)
  | hold (tag : Byte) (payload : List Byte)
  | resume (tag : Byte) (payload : List Byte)
  | park (tag : Byte) (payload : List Byte)
  | clearLine (tag : Byte) (payload : List Byte)
  | clearTrimmer (tag : Byte)
  | collect (tag : Byte) (payload : List Byte)
  | nodes (tag : Byte) (payload : List Byte)
  | contacts (tag : Byte) (payload : List Byte)
  | status (tag : Byte) (payload : List Byte)
  | trace (tag : Byte) (payload : List Byte)
  | settingsPut (tag : Byte) (payload : List Byte)
  | settingsGet (tag : Byte) (payload : List Byte)
  | store (tag : Byte) (payload : List Byte)
  | reset (tag : Byte) (payload : List Byte)
  | unknownKind (kind tag : Byte) (payload : List Byte)
  | overlappedRequest (kind tag : Byte) (payload : List Byte)
  -- link, store and reset events
  | badFrameDiscard (bytes : List Byte)
  | frameByteGapTimeout
  | transmitFrameEnd
  | saveEnd
  | resetBegin (estopLow : Bool)
  | powerOnReset (strapA strapB : StrapLevel) (estopLow : Bool)
  | resetLineLow
  | resetLineHigh (strapA strapB : StrapLevel) (estopLow : Bool)
  | storeLoadDone
  -- direct lines, contacts, lamp
  | estopActivated
  | estopReleased
  | scanEnd (closed : BitVec 64)
  | lampFlashToggle
  -- station bus
  | pollRoundDue
  | slotAnswer (node : NodeId) (jobs : List (Station × JobAnswer)) (temp : Option Nat) (marks : FrameMarks)
  | slotEmpty
  | pollRoundEnd
  | indexAnswer (seq : Byte) (answer : Answer) (marks : FrameMarks)
  | homeAnswer (seq : Byte) (answer : HomeAnswer) (marks : FrameMarks)
  | pushAnswer (seq : Byte) (answer : Answer) (marks : FrameMarks)
  | setAxesAnswer (seq : Byte) (answer : Answer) (marks : FrameMarks)
  | readAxesAnswer (seq : Byte) (answer : AxesAnswer) (marks : FrameMarks)
  | stepAnswer (seq : Byte) (answer : Answer) (marks : FrameMarks)
  | nodeStatusAnswer (node : NodeId) (seq : Byte) (marks : FrameMarks)
  | probeAnswer (node : NodeId) (seq : Byte) (position : Option (Fin 20)) (marks : FrameMarks)
  | replyWindowClosed
  | requestRepeatDue (node : NodeId)
  | nodeStatusDue (node : NodeId)
  | recoveryProbeDue
  -- timers
  | jobOverrun (station : Station)
  | indexTimeout
  | homingTimeout
  | glueSettlingWindow
  | warmTimeout
  | standbyTimeout
  | parkTimeout
  | dropWindowTimeout
  | headTimerExpiry
  | pushWindowTimeout
  | axisSettleWindow (axis : Axis)
  | settleTimeout
  | stepTimeout
  | exitWindowTimeout
deriving DecidableEq, Repr

end Sys2Proof
end

