-- ==== Sys2Proof/Decode.lean ====
section
/-! DEFINITION. The part has no instruction words: no row of spec/opcode_table.json gives bits, so no word
spells a command. -/

namespace Sys2Proof

/-- The command that a word spells by the table's bits: the table gives bits to no row, so none (log 32). -/
def decodeTableWord (nbits w : Nat) : Option Instr :=
  match nbits, w with
  | _, _ => none

end Sys2Proof
end

