-- ==== Sys2Proof/Machine/State.lean ====
section
/-! DEFINITION. The state of the part as plain data, block by block, and its value right after reset. -/

namespace Sys2Proof.Machine

/-! ## Books (chapters 1 and 2) -/

/-- Glue family (R19). -/
inductive Family where
  | hotmelt | pur
deriving DecidableEq, Repr

/-- Glue mode (R19). -/
inductive GlueMode where
  | fixed | twoClass | computed
deriving DecidableEq, Repr

/-- The eleven fields of a profile that a book copies at load: the snapshot (R25). -/
structure Snapshot where
  family    : Family
  mode      : GlueMode
  fixedStep : Nat
  thinStep  : Nat
  thickStep : Nat
  baseStep  : Nat
  /-- class threshold T_c, micrometres -/
  threshold : Nat
  /-- step offset o -/
  offset    : Int
  sideStep  : Nat
  /-- open time, tenths of a second -/
  openTime  : Nat
  /-- cooling dwell, tenths of a second -/
  coolDwell : Nat
deriving DecidableEq, Repr

/-- A Profile Table entry (R19): the valid flag and the eleven fields of a snapshot. -/
structure Profile where
  valid  : Bool
  fields : Snapshot
deriving DecidableEq, Repr

/-- A ticket (R1), its foot margin as stored: sent by the host or supplied (R2). Dimensions in micrometres. -/
structure Ticket where
  id          : TicketId
  blockId     : Identity
  coverId     : Option Identity
  profile     : Fin 16
  blockWidth  : Nat
  blockHeight : Nat
  nominal     : Nat
  tolerance   : Nat
  millDepth   : Nat
  trimWidth   : Nat
  trimHeight  : Nat
  footMargin  : Int
  coverStock  : Nat
  coverWidth  : Nat
  hinge       : Option Nat
  sideGlue    : Option Nat
  sample      : Bool
deriving DecidableEq, Repr

/-- Reject reasons (R17). -/
inductive RejectReason where
  | thickness | geometry | cover | openTime | station | trim | fault
deriving DecidableEq, Repr

/-- Geometry verdict (R16, R34). -/
inductive Verdict where
  | pass | fail | notChecked
deriving DecidableEq, Repr

/-- Outcome of a book that has left the line (R17). -/
inductive BookOutcome where
  | good | sample | rejected
deriving DecidableEq, Repr

/-- The load fields that are absent when the measurement is invalid (R16): glue step, flag, spine width and
the rounded scores s2, s3 and, with a hinge, s1 and s4. -/
structure Setpoints where
  glueStep    : Nat
  clamped     : Bool
  spineWidth  : Int
  s2          : Int
  s3          : Int
  outer       : Option (Int × Int)
deriving DecidableEq, Repr

/-- The book record (R16). An absent field is `none`. -/
structure Book where
  ticket      : Ticket
  clamp       : Fin 20
  jawGap      : BitVec 16
  measured    : Int
  snapshot    : Snapshot
  setpoints   : Option Setpoints
  verdict     : Verdict
  loadTime    : Time
  glueTime    : Option Time
  coverTime   : Option Time
  releaseTime : Option Time
  coolEntry   : Option Time
  /-- trim settle time, a duration in ms -/
  settleTime  : Option Nat
  revibrate   : Option Nat
  reason      : Option RejectReason
  outcome     : Option BookOutcome
  outTime     : Option Time
deriving DecidableEq, Repr

/-- The Ticket Unit (R10, R11): the queue, head first, and whether its head is RESERVED. -/
structure TicketUnit where
  queue    : List Ticket
  reserved : Bool
deriving DecidableEq, Repr

/-! ## The clamp carousel (chapters 3 and 5) -/

/-- Use mark of a clamp (R38). -/
inductive UseMark where
  | inUse | outOfUse | suspect
deriving DecidableEq, Repr

/-- A clamp record (R38). -/
structure Clamp where
  mark : UseMark
  zero : Int
  book : Option Book
deriving DecidableEq, Repr

/-- Form of a draw job (R84). -/
inductive DrawForm where
  | keep | divert
deriving DecidableEq, Repr

/-- Form of an apply job (R93). -/
inductive ApplyForm where
  | apply | divert
deriving DecidableEq, Repr

/-- Parameters of a job (R47, R61, R68, R70, R72, R84, R93, R96). A job of the station `load` with `learn` is
a zero-learning job. A mill job of depth 0 is the no-work job of R68. `draw` carries the expected identity
(none is ANY), the attempts allowed and, in KEEP form, the scores s2, s3 and the outer pair s1, s4. -/
inductive JobParams where
  | load (block : Identity) (wait : Nat)
  | learn
  | mill (depth : Nat)
  | spine (step : Option Nat)
  | side (width : Nat) (step : Nat)
  | draw (form : DrawForm) (expected : Option Identity) (attempts : Nat)
      (scores : Option (Int × Int × Option (Int × Int)))
  | apply (form : ApplyForm)
  | nip (spineWidth : Option Int)
  | release
deriving DecidableEq, Repr

/-- What a WORK broadcast carries for one job (R154). -/
structure WorkItem where
  station : Station
  clamp   : Fin 20
  ticket  : Option TicketId
  params  : JobParams
deriving DecidableEq, Repr

/-- Status of a job (R47). `built` is a job handed over in a WORK that has not been sent yet: R47 names no
status for it, and it is neither held back (PENDING) nor sent (ISSUED) (DEDUCED, log 8). -/
inductive JobStatus where
  | pending | built | issued | busy | done | failed | aborted
deriving DecidableEq, Repr

/-- Overrun limit of a job: not started, suspended, or running from a time (R47, R51, R91). -/
inductive Limit where
  | notStarted | suspended | running (start : Time)
deriving DecidableEq, Repr

/-- A job record (R47). `releaseDone`: RELEASE's DONE has been taken for this release job (R125). -/
structure Job where
  item        : WorkItem
  status      : JobStatus
  limit       : Limit
  releaseDone : Bool
deriving DecidableEq, Repr

/-- Carousel states (R46). -/
inductive CarState where
  | unhomed | homing | standing | dwelling | indexing
deriving DecidableEq, Repr

/-- Kinds of dwell (R48, R54, R57). -/
inductive DwellKind where
  | full | freshLoad | release
deriving DecidableEq, Repr

/-- The Carousel Controller. `phase` is the last known phase and `phaseKnown` says whether it is known now
(R37). -/
structure Carousel where
  phase      : Option (Fin 20)
  phaseKnown : Bool
  state      : CarState
  worked     : Bool
  clamps     : Vector Clamp 20
  jobs       : List Job
  dwell      : DwellKind
  tag        : Byte
  /-- consecutive-overrun counts, in the order of `Station` (R51) -/
  overruns   : Vector Nat 8
  diverts    : Nat
  /-- index or homing limit: the time its request was first sent (R54, R59) -/
  moveTimer  : Option Time
deriving DecidableEq, Repr

/-- A cover-line entry (R82). -/
structure CoverEntry where
  clamp  : Fin 20
  ticket : TicketId
deriving DecidableEq, Repr

/-- The Cover Unit (R82, R83). -/
structure CoverUnit where
  entries  : List CoverEntry
  mismatch : Nat
  drawMark : Bool
deriving DecidableEq, Repr

/-! ## The glue pot (chapter 4) -/

/-- Pot target: OFF, the working temperature or the standby temperature (R74, R75). -/
inductive PotTarget where
  | off | working (temp : Nat) | standby (temp : Nat)
deriving DecidableEq, Repr

/-- At-temperature condition (R74). -/
inductive PotCond where
  | notAtTemp | settling | atTemp
deriving DecidableEq, Repr

/-- The Glue Unit (R74). -/
structure GlueUnit where
  family    : Family
  target    : PotTarget
  reading   : Option Nat
  cond      : PotCond
  window    : Option Time
  outOfBand : Bool
deriving DecidableEq, Repr

/-! ## The line (chapter 6) -/

/-- Line states (R99). -/
inductive LineState where
  | starting | parked | warming | running | draining | held | standby | faulted
deriving DecidableEq, Repr

/-- Fault causes of the line (R99). -/
inductive FaultCause where
  | estop | nodeLost | indexTimeout | bookLost | heatTimeout | stationOverrun | coverJam
deriving DecidableEq, Repr

/-- Hold causes (R99). -/
inductive HoldCause where
  | host | glueTemp | guardOpen | infeedSequence | coverSequence | coverEmpty
deriving DecidableEq, Repr

/-- The set of hold causes (R99), one bit each. -/
structure Holds where
  host           : Bool
  glueTemp       : Bool
  guardOpen      : Bool
  infeedSequence : Bool
  coverSequence  : Bool
  coverEmpty     : Bool
deriving DecidableEq, Repr

/-- The empty set of hold causes. -/
def Holds.empty : Holds := ⟨false, false, false, false, false, false⟩

/-- The state HELD goes back to (R99). -/
inductive ReturnState where
  | running | draining
deriving DecidableEq, Repr

/-- The lamps as lit and the enables as on (R121). -/
structure Lamps where
  ready : Bool
  fault : Bool
  heat  : Bool
  drive : Bool
  trim  : Bool
deriving DecidableEq, Repr

/-- Every output off: the STARTING row of R121. -/
def Lamps.off : Lamps := ⟨false, false, false, false, false⟩

/-- The Line Controller (R99, R121, R186). The standby and park timers hold their start time and their length
in milliseconds. -/
structure Line where
  state        : LineState
  cause        : Option FaultCause
  holds        : Holds
  halt         : Bool
  park         : Bool
  returnState  : ReturnState
  drainRelease : Bool
  warmTimer    : Option Time
  standbyTimer : Option (Time × Nat)
  parkTimer    : Option (Time × Nat)
  estopLatch   : Bool
  /-- told that the Settings Store's load is done (R101, R186) -/
  loadDone     : Bool
  /-- told that the start-up probes are done (R101, R186) -/
  probesDone   : Bool
  lamps        : Lamps
  /-- time of the last change of a flashing READY lamp (R121) -/
  flashBase    : Time
deriving DecidableEq, Repr

/-! ## Delivery (chapter 7) -/

/-- Gate states (R123). -/
inductive Gate where
  | idle | rejectPush | infeedPush | waitingRoom
deriving DecidableEq, Repr

/-- A confirm: none, the early mark, or a window with its start time (R123, R136). -/
inductive Confirm where
  | none | early | window (start : Time)
deriving DecidableEq, Repr

/-- Drop watch (R123, R125). An open watch holds the clamp whose release it watches (log 27). -/
inductive DropWatch where
  | none | early | opened (clamp : Fin 20) (start : Time)
deriving DecidableEq, Repr

/-- The holder a record waits in for room in the done list (R132). -/
inductive Holder where
  | clamp (c : Fin 20) | cooling | trimmer
deriving DecidableEq, Repr

/-- The Delivery Unit (R123). The head timer holds its start time and its length in milliseconds (R128). -/
structure Delivery where
  cooling     : List Book
  headTimer   : Option (Time × Nat)
  gate        : Gate
  gateConfirm : Confirm
  gateStop    : Bool
  dropWatch   : DropWatch
  done        : List Book
  waiters     : List Holder
  loaded      : BitVec 32
  collected   : BitVec 32
deriving DecidableEq, Repr

/-! ## The trimmer (chapter 8) -/

/-- Trimmer states (R136). -/
inductive TrimState where
  | idle | positioning | settling | clamping | frontCut | hfCut | eject | faulted
deriving DecidableEq, Repr

/-- Trimmer fault causes (R136). -/
inductive TrimCause where
  | estop | nodeLost | trimSettle | trimmerFault | bookLost
deriving DecidableEq, Repr

/-- The held book: none, inside the trimmer, or out of it and awaiting its confirm or room (R136). -/
inductive Held where
  | none | inside (b : Book) | out (b : Book)
deriving DecidableEq, Repr

/-- Exits of the trimmer (R136). -/
inductive Exit where
  | good | sample | reject
deriving DecidableEq, Repr

/-- Settle timer (R136). -/
inductive SettleTimer where
  | stopped | running (start : Time) | runOut
deriving DecidableEq, Repr

/-- An axis record (R137). `sinceMove` is the model's bit: the axis has converged since the move time, which
step 2 of R142 asks (log 24). -/
structure AxisRec where
  target     : Option Int
  error      : Option Int
  converged  : Bool
  window     : Option Time
  settleTime : Option Nat
  revibrate  : Nat
  sinceMove  : Bool
deriving DecidableEq, Repr

/-- The Trimmer Controller (R136). `stepHeld` is the model's bit: a STEP waits for the trim guard (R144,
R148, log 24). -/
structure Trimmer where
  state        : TrimState
  held         : Held
  cause        : Option TrimCause
  pendingFault : Option TrimCause
  dest         : Exit
  settleCount  : Nat
  guardPause   : Bool
  moveTime     : Option Time
  settleTimer  : SettleTimer
  stepTimer    : Option Time
  exitConfirm  : Confirm
  front        : AxisRec
  foot         : AxisRec
  head         : AxisRec
  stepHeld     : Bool
deriving DecidableEq, Repr

/-! ## The station bus (chapter 9) -/

/-- Node states (R152). -/
inductive NodeState where
  | absent | present | lost
deriving DecidableEq, Repr

/-- A node record (R152), with the time of the node's last answer (R161). -/
structure NodeRec where
  state      : NodeState
  misses     : Nat
  ackPending : Bool
  restarts   : Nat
  seq        : Byte
  lastAnswer : Time
deriving DecidableEq, Repr

/-- Steps of the cut cycle (R138). -/
inductive StepKind where
  | clamp | front | headFoot | eject (exit : Exit)
deriving DecidableEq, Repr

/-- Addressed requests (R156). SET_AXES names the axes that move with their new targets. -/
inductive ReqKind where
  | index
  | home
  | rejectPush (ticket : TicketId)
  | infeedPush (ticket : TicketId)
  | setAxes (front foot head : Option Int)
  | readAxes
  | step (k : StepKind)
  | nodeStatus
  | probe (startup : Bool)
deriving DecidableEq, Repr

/-- An addressed request; `seq` is the number it carries, once it has been sent (R156). -/
structure Request where
  node : NodeId
  kind : ReqKind
  seq  : Option Byte
deriving DecidableEq, Repr

/-- A frame waiting at a requester (R162). `work` carries the dwell tag, its jobs and whether it is a repeat
WORK (R154). -/
inductive Frame where
  | work (tag : Byte) (items : List WorkItem) (again : Bool)
  | poll
  | abortAll
  | abortJob (station : Station)
  | abortTrimmer
  | req (r : Request)
deriving DecidableEq, Repr

/-- The kind and the payload of a frame that the part sends on the bus (R153 to R156). -/
inductive BusContent where
  | work (tag : Byte) (items : List WorkItem)
  | poll (tag : Byte) (target : PotTarget) (acks : List NodeId)
  | abortAll
  | abortJob (node : NodeId) (station : Station)
  | abortTrimmer
  | request (node : NodeId) (kind : ReqKind) (seq : Byte) (ack : Bool)
deriving DecidableEq, Repr

/-- A frame as sent on the bus: destination address, 0 for a broadcast, kind and payload, check value (R153). -/
structure BusFrame where
  address : Nat
  content : BusContent
  check   : Nat
deriving DecidableEq, Repr

/-- The transaction on the bus (R153): a POLL round with its tag and the slot that closes next (7 when all six
have closed), or an addressed request, with whether its owner has given it up (R156) and the time it was sent, from
which its reply window of 2 ms runs. -/
inductive Transaction where
  | poll (tag : Byte) (slot : Nat)
  | request (r : Request) (givenUp : Bool) (sent : Time)
deriving DecidableEq, Repr

/-- The three requesters served in rotation (R162). -/
inductive Rotation where
  | trimmer | cooling | probe
deriving DecidableEq, Repr

/-- The Station Bus Controller (R152, R155, R159, R162). -/
structure Bus where
  nodes      : Vector NodeRec 9
  carQ       : List Frame
  trimQ      : List Frame
  coolQ      : List Frame
  probeQ     : List Frame
  lastServed : Rotation
  /-- requests waiting their 5 ms after a BUSY, with the time it was taken (R156) -/
  busyWait   : List (Request × Time)
  current    : Option Transaction
  pollOn     : Bool
  fast       : Bool
  /-- time from which the next round's cadence counts (R155) -/
  pollBase   : Time
  /-- time the last round was sent (R155) -/
  lastPoll   : Time
  probeBase  : Time
  /-- start-up probes that have not ended (R159) -/
  probesLeft : Nat
deriving DecidableEq, Repr

/-! ## Contacts and direct lines (chapter 10) -/

/-- A contact record (R165). `reading` and `closed` are true for CLOSED. -/
structure Contact where
  reading   : Option Bool
  closed    : Bool
  count     : Nat
  uncertain : Bool
deriving DecidableEq, Repr

/-- The Contact Scanner (R165). -/
structure Scanner where
  contacts  : Vector Contact 64
  firstScan : Bool
  scanBase  : Time
deriving DecidableEq, Repr

/-- The direct lines: latched straps, the e-stop input, the reset input (R171 to R173). `estopLowAt` is the last
time at which an activated e-stop input was known to read low: its 50 ms of reading high count from there (DESIGN CHOICE,
log 37). -/
structure Pins where
  strapA      : StrapLevel
  strapB      : StrapLevel
  estopActive : Bool
  estopLowAt  : Time
  inReset     : Bool
deriving DecidableEq, Repr

/-! ## Host link and settings (chapter 11) -/

/-- Result codes (R177). -/
inductive Result where
  | ok | busy | badFormat | badRange | badGeometry | duplicate | full | wrongState | notFound | locked
  | family | profile | nodes | unknownKind
deriving DecidableEq, Repr

/-- Notices (R181). -/
inductive Notice where
  | estop | nodeLost | indexTimeout | bookLost | heatTimeout | stationOverrun | coverJam | glueTemp | guardOpen
  | infeedSequence | coverSequence | coverEmpty | coverLow | clampSuspect | contactGhost | storeDefaults
  | trimSettle | trimmerFault
deriving DecidableEq, Repr

/-- A host frame without its start byte, length and CRC (R174). -/
structure HostFrame where
  kind    : Byte
  tag     : Byte
  payload : List Byte
deriving DecidableEq, Repr

/-- The pending request (R176): its reply's payload once it is ready. -/
structure PendingReq where
  kind  : Byte
  tag   : Byte
  reply : Option (List Byte)
deriving DecidableEq, Repr

/-- A reply owed behind the pending one (R176, R185). -/
structure Owed where
  kind   : Byte
  tag    : Byte
  result : Result
deriving DecidableEq, Repr

/-- The Host Link Unit (R174 to R182). -/
structure HostLink where
  rx         : List Byte
  rxTime     : Time
  request    : Option PendingReq
  owed       : List Owed
  /-- a RESET has been taken and the reset has not begun (R185) -/
  resetTaken : Bool
  tx         : Option HostFrame
  notice     : Option (Notice × BitVec 32)
  stateRep   : Option LineState
  doneReady  : Option Nat
  ticketsLow : Option Nat
deriving DecidableEq, Repr

/-- The seven line settings (11.4). -/
structure Settings where
  workTemp      : Nat
  standbyDrop   : Nat
  standbyDelay  : Nat
  parkDelay     : Nat
  loadWait      : Nat
  leadThreshold : Nat
  zeroLearning  : Bool
deriving DecidableEq, Repr

/-- The Settings Store (R183, R184): the nonvolatile image, whether an abandoned save has left it part
written, and the copy being saved while SAVING. -/
structure Store where
  image  : List Byte
  broken : Bool
  saving : Option (List Byte)
deriving DecidableEq, Repr

/-! ## The whole part -/

/-- The state of the part and the queue of commands waiting for it. -/
structure State where
  clock    : Time
  tickets  : TicketUnit
  profiles : Vector Profile 16
  settings : Settings
  car      : Carousel
  glue     : GlueUnit
  cover    : CoverUnit
  line     : Line
  dlv      : Delivery
  trim     : Trimmer
  bus      : Bus
  scan     : Scanner
  pins     : Pins
  host     : HostLink
  store    : Store
  /-- the model's output: station-bus frames sent in the last command's step (log 38) -/
  busOut   : List BusFrame
  /-- the model's queue of commands waiting, first in first out -/
  pending  : List Instr
deriving DecidableEq, Repr

/-- No command of the part stops it: every failure the spec describes is an effect on its state. Safe: nothing
raises a fault (log 34). -/
inductive Fault where
deriving DecidableEq, Repr

/-- Refusals. -/
inductive Refusal where
  /-- Raised by an arm of `exec` for a command that has no meaning yet; no arm does. Safe. -/
  | notModelled (mnemonic : String)
deriving DecidableEq, Repr

/-! ## After a reset -/

/-- Default fields of every Profile Table entry (R20). -/
def Snapshot.default : Snapshot :=
  ⟨.hotmelt, .computed, 4, 3, 6, 3, 20000, 0, 4, 60, 200⟩

/-- The default Profile Table (R20). -/
def defaultProfiles : Vector Profile 16 :=
  (Vector.replicate 16 (Profile.mk false Snapshot.default)).set 0 (Profile.mk true Snapshot.default)

/-- Default settings (11.4). -/
def Settings.default : Settings := ⟨170, 40, 120, 1800, 400, 8, true⟩

/-- An empty clamp with the store's defaults (R38). -/
def Clamp.empty : Clamp := ⟨.inUse, 0, none⟩

/-- After-reset values (R37, R38, R46, R47, R51, R65). -/
def Carousel.afterReset : Carousel where
  phase := none
  phaseKnown := false
  state := .unhomed
  worked := false
  clamps := Vector.replicate 20 Clamp.empty
  jobs := []
  dwell := .full
  tag := 0
  overruns := Vector.replicate 8 0
  diverts := 0
  moveTimer := none

/-- After-reset values (R99). -/
def Line.afterReset : Line where
  state := .starting
  cause := none
  holds := .empty
  halt := false
  park := false
  returnState := .running
  drainRelease := false
  warmTimer := none
  standbyTimer := none
  parkTimer := none
  estopLatch := false
  loadDone := false
  probesDone := false
  lamps := .off
  flashBase := 0

/-- After-reset values (R123). -/
def Delivery.afterReset : Delivery where
  cooling := []
  headTimer := none
  gate := .idle
  gateConfirm := .none
  gateStop := false
  dropWatch := .none
  done := []
  waiters := []
  loaded := 0
  collected := 0

/-- After-reset values of an axis (R137). -/
def AxisRec.afterReset : AxisRec := ⟨none, none, false, none, none, 0, false⟩

/-- After-reset values (R136). -/
def Trimmer.afterReset : Trimmer where
  state := .idle
  held := .none
  cause := none
  pendingFault := none
  dest := .good
  settleCount := 0
  guardPause := false
  moveTime := none
  settleTimer := .stopped
  stepTimer := none
  exitConfirm := .none
  front := .afterReset
  foot := .afterReset
  head := .afterReset
  stepHeld := false

/-- After-reset values of a node (R152). -/
def NodeRec.afterReset : NodeRec := ⟨.absent, 0, false, 0, 0, 0⟩

/-- A start-up PROBE that waits (R159). -/
def startProbe (n : NodeId) : Request := ⟨n, .probe true, none⟩

/-- The bus held in reset: nothing sent, nothing waiting (R172). -/
def Bus.idle : Bus where
  nodes := Vector.replicate 9 NodeRec.afterReset
  carQ := []
  trimQ := []
  coolQ := []
  probeQ := []
  lastServed := .probe
  busyWait := []
  current := none
  pollOn := false
  fast := false
  pollBase := 0
  lastPoll := 0
  probeBase := 0
  probesLeft := 9

/-- The bus at the end of a reset: the start-up PROBE of node 1 is on the bus, those of nodes 2 to 9 wait in
address order (R159, R186). -/
def Bus.startUp : Bus :=
  { Bus.idle with
    nodes := (Vector.replicate 9 NodeRec.afterReset).set 0 { NodeRec.afterReset with seq := 1 }
    probeQ := [NodeId.mill, .glue, .cover, .nip, .release, .drive, .cooling, .trimmer].map
      fun n => .req (startProbe n)
    current := some (.request ⟨.loader, .probe true, some 1⟩ false 0) }

/-- After-reset values of the scanner (R165). -/
def Scanner.afterReset : Scanner := ⟨Vector.replicate 64 ⟨none, false, 0, false⟩, true, 0⟩

/-- After-reset values of the host link (R175, R181, R185). -/
def HostLink.afterReset : HostLink := ⟨[], 0, none, [], false, none, none, none, none, none⟩

/-- Every block at its after-reset value (R185), start-up begun (R186), for latched straps and a store's image.
The table, the settings, the clamp marks and the pot family hold the defaults until the load (DESIGN CHOICE,
log 7). The e-stop input is released. -/
def State.afterReset (strapA strapB : StrapLevel) (store : Store) (pending : List Instr) : State where
  clock := 0
  tickets := ⟨[], false⟩
  profiles := defaultProfiles
  settings := .default
  car := .afterReset
  glue := ⟨.hotmelt, .off, none, .notAtTemp, none, false⟩
  cover := ⟨[], 0, false⟩
  line := .afterReset
  dlv := .afterReset
  trim := .afterReset
  bus := .startUp
  scan := .afterReset
  pins := ⟨strapA, strapB, false, 0, false⟩
  host := .afterReset
  store := { store with saving := none }
  busOut := [⟨1, .request .loader (.probe true) 1 false, Config.busCheck 1 (BusContent.request .loader (.probe true) 1 false)⟩]
  pending := pending

/-- The part right after a power-on reset whose straps read 0 and whose e-stop input reads high, with a blank
nonvolatile image (DESIGN CHOICE, log 7 and log 30). -/
def State.reset : State := State.afterReset .low .low ⟨[], false, none⟩ []

end Sys2Proof.Machine
end

