-- ==== Sys2Proof/Machine/Bits.lean ====
section
/-! DEFINITION. Elapsed time, byte order, signed fields, rounding and the two check sums. -/

namespace Sys2Proof.Machine

/-- Elapsed time: the difference of two clock readings modulo 2^32 (00_scope.md, "Time of the line"). -/
def elapsed (now start : Time) : Nat := (now - start).toNat

/-- A timer started at `start` has reached its length (R99). -/
def due (now start : Time) (len : Nat) : Bool := len ≤ elapsed now start

/-- Little-endian bytes of a number (00_scope.md, "Multi-byte values"). -/
def leBytes : Nat → Nat → List Byte
  | 0, _ => []
  | w + 1, n => BitVec.ofNat 8 n :: leBytes w (n / 256)

/-- The number of little-endian bytes. -/
def leNat : List Byte → Nat
  | [] => 0
  | b :: bs => b.toNat + 256 * leNat bs

/-- Two's complement value of the low `bits` bits. -/
def toSigned (bits n : Nat) : Int :=
  if n % 2 ^ bits < 2 ^ (bits - 1) then (n % 2 ^ bits : Nat) else (n % 2 ^ bits : Nat) - (2 ^ bits : Nat)

/-- The low `bits` bits of a signed value in two's complement. -/
def ofSigned (bits : Nat) (x : Int) : Nat := (x % (2 ^ bits : Nat)).toNat

/-- Nearest multiple of 10, a remainder of 5 upwards (R33, 00_scope.md "Arithmetic"). -/
def round10 (x : Int) : Int := (x + 5) / 10 * 10

/-- A value clamped to a range (00_scope.md, "Arithmetic"). -/
def clampInt (lo hi x : Int) : Int := max lo (min hi x)

/-- One bit of CRC-16, polynomial 0x1021, not reflected (R174). -/
def crc16Bit (c : Nat) : Nat :=
  if c.testBit 15 then ((c * 2) ^^^ 0x1021) % 65536 else c * 2

/-- CRC-16 of a byte string: initial value 0xFFFF, nothing reflected, no final XOR (R174). -/
def crc16 (bs : List Byte) : Nat :=
  bs.foldl (fun c b => crc16Bit^[8] (c ^^^ (b.toNat * 256))) 0xFFFF

/-- One bit of CRC-32, polynomial 0x04C11DB7 reflected (R183). -/
def crc32Bit (c : Nat) : Nat :=
  if c % 2 = 1 then (c / 2) ^^^ 0xEDB88320 else c / 2

/-- CRC-32 of a byte string: initial value 0xFFFFFFFF, input and result reflected, result complemented
(R183). -/
def crc32 (bs : List Byte) : Nat :=
  (bs.foldl (fun c b => crc32Bit^[8] (c ^^^ b.toNat)) 0xFFFFFFFF) ^^^ 0xFFFFFFFF

/-- The bytes of a host frame on the line (R174). -/
def HostFrame.bytes (f : HostFrame) : List Byte :=
  let body := leBytes 2 f.payload.length ++ [f.kind, f.tag] ++ f.payload
  (0xA5 : Byte) :: body ++ leBytes 2 (crc16 body)

/-- The bytes are one whole frame in the layout of R174, its length at most 480 and its check matching (R174, R175). -/
def frameGood (bs : List Byte) : Bool :=
  match bs with
  | b :: lo :: hi :: rest =>
    let len := leNat [lo, hi]
    b == 0xA5 && decide (len ≤ Config.payloadMax) && rest.length == len + 4
      && leNat (rest.drop (len + 2)) == crc16 (lo :: hi :: rest.take (len + 2))
  | _ => false

end Sys2Proof.Machine
end

