-- ==== Sys2Proof/Machine/Setpoint.lean ====
section
/-! DEFINITION. The Setpoint Computer: the computation at load (R26 to R34), zero learning (R44, R45) and the
trimmer's axis targets (R35). Every value is an exact signed integer. -/

namespace Sys2Proof.Machine

/-- Measured thickness (R27). -/
def measuredThickness (gap : BitVec 16) (zero : Int) : Int := (gap.toNat : Int) - zero

/-- The measurement is valid (R27). -/
def measurementValid (tm : Int) : Bool := decide (1000 ≤ tm ∧ tm ≤ 62000)

/-- Thickness outside tolerance (R28). -/
def outOfTolerance (t : Ticket) (tm : Int) : Bool := decide ((t.tolerance : Int) < |tm - (t.nominal : Int)|)

/-- Raw glue step (R29). -/
def rawStep (p : Snapshot) (tm : Int) : Int :=
  match p.mode with
  | .fixed => p.fixedStep
  | .twoClass => if tm < p.threshold then p.thinStep else p.thickStep
  | .computed => p.baseStep + (tm - 2000) / 4000

/-- Glue step: raw step plus offset, clamped to 0-15 (R30). -/
def glueStepOf (p : Snapshot) (tm : Int) : Nat := (clampInt 0 15 (rawStep p tm + p.offset)).toNat

/-- The glue-clamped flag (R30). -/
def glueClamped (p : Snapshot) (tm : Int) : Bool :=
  decide (rawStep p tm + p.offset < 0 ∨ 15 < rawStep p tm + p.offset)

/-- Glue film in micrometres (R31). -/
def glueFilm (step : Nat) : Int := 300 + 40 * step

/-- Spine width (R31). -/
def spineWidthOf (t : Ticket) (tm : Int) (step : Nat) : Int := tm + 2 * t.coverStock + glueFilm step

/-- Back spine score before rounding (R32). -/
def backScore (t : Ticket) (ws : Int) : Int := (t.coverWidth : Int) / 2 - ws / 2

/-- The load fields of a valid measurement: step, film, width and rounded scores (R29 to R33). -/
def setpointsOf (t : Ticket) (p : Snapshot) (tm : Int) : Setpoints :=
  let step := glueStepOf p tm
  let ws := spineWidthOf t tm step
  let s2 := backScore t ws
  let s3 := s2 + ws
  { glueStep := step
    clamped := glueClamped p tm
    spineWidth := ws
    s2 := round10 s2
    s3 := round10 s3
    outer := t.hinge.map fun h => (round10 (s2 - h), round10 (s3 + h)) }

/-- The geometry check on the rounded scores (R34). -/
def geometryHolds (t : Ticket) (sp : Setpoints) : Bool :=
  let back := match sp.outer with | some (s1, _) => s1 | none => sp.s2
  let front := match sp.outer with | some (_, s4) => s4 | none => sp.s3
  decide (5000 ≤ back ∧ front ≤ (t.coverWidth : Int) - 5000 ∧ (t.trimWidth : Int) ≤ sp.s2 ∧
    (t.trimWidth : Int) ≤ (t.coverWidth : Int) - sp.s3)

/-- The book record at LOADED, every load field set by the six steps of R26. -/
def loadedBook (t : Ticket) (p : Snapshot) (c : Fin 20) (gap : BitVec 16) (zero : Int) (now : Time) : Book :=
  let tm := measuredThickness gap zero
  let sp := setpointsOf t p tm
  let ok := geometryHolds t sp
  { ticket := t
    clamp := c
    jawGap := gap
    measured := tm
    snapshot := p
    setpoints := if measurementValid tm then some sp else none
    verdict := if measurementValid tm then (if ok then .pass else .fail) else .notChecked
    loadTime := now
    glueTime := none
    coverTime := none
    releaseTime := none
    coolEntry := none
    settleTime := none
    revibrate := none
    reason :=
      if !measurementValid tm || outOfTolerance t tm then some .thickness
      else if ok then none else some .geometry
    outcome := none
    outTime := none }

/-- The new zero offset after a learning reading (R45). -/
def learnedOffset (zero gap : Int) : Int := clampInt (-500) 500 (zero + (gap - zero).tdiv 4)

/-- Front, foot and head axis targets (R35). -/
def axisTargets (t : Ticket) : Int × Int × Int :=
  (t.trimWidth, t.footMargin, t.footMargin + t.trimHeight)

end Sys2Proof.Machine
end

