-- ==== Sys2Proof/Machine/Operands.lean ====
section
/-! DEFINITION. The operand forms of the commands: what the bytes of a request's payload say (format and range
checks), and the bytes of the replies, of the done record and of the stored image. -/

namespace Sys2Proof.Machine

/-! ## Numbering used on the links -/

def LineState.code : LineState → Nat
  | .starting => 0 | .parked => 1 | .warming => 2 | .running => 3
  | .draining => 4 | .held => 5 | .standby => 6 | .faulted => 7

/-- Byte 1 of STATUS (R178). -/
def FaultCause.code : FaultCause → Nat
  | .estop => 1 | .nodeLost => 2 | .indexTimeout => 3 | .bookLost => 4
  | .heatTimeout => 5 | .stationOverrun => 6 | .coverJam => 7

/-- Result codes (R177). -/
def Result.code : Result → Nat
  | .ok => 0 | .busy => 1 | .badFormat => 2 | .badRange => 3 | .badGeometry => 4 | .duplicate => 5
  | .full => 6 | .wrongState => 7 | .notFound => 8 | .locked => 9 | .family => 10 | .profile => 11
  | .nodes => 12 | .unknownKind => 13

/-- Notice codes (R181). -/
def Notice.code : Notice → Nat
  | .estop => 1 | .nodeLost => 2 | .indexTimeout => 3 | .bookLost => 4 | .heatTimeout => 5
  | .stationOverrun => 6 | .coverJam => 7 | .glueTemp => 8 | .guardOpen => 9 | .infeedSequence => 10
  | .coverSequence => 11 | .coverEmpty => 12 | .coverLow => 13 | .clampSuspect => 14 | .contactGhost => 15
  | .storeDefaults => 16 | .trimSettle => 17 | .trimmerFault => 18

/-- Level codes of STATUS bytes 22 and 23 (R178). -/
def strapCode : StrapLevel → Nat
  | .low => 0 | .pullDown => 1 | .floating => 2 | .high => 3

/-- Trimmer state codes of TRACE (R179). -/
def TrimState.code : TrimState → Nat
  | .idle => 0 | .positioning => 1 | .settling => 2 | .clamping => 3
  | .frontCut => 4 | .hfCut => 5 | .eject => 6 | .faulted => 7

def Family.code : Family → Nat
  | .hotmelt => 0 | .pur => 1

def GlueMode.code : GlueMode → Nat
  | .fixed => 0 | .twoClass => 1 | .computed => 2

def UseMark.code : UseMark → Nat
  | .inUse => 0 | .outOfUse => 1 | .suspect => 2

def NodeState.code : NodeState → Nat
  | .absent => 0 | .present => 1 | .lost => 2

/-- Node addresses (9.1). -/
def nodeAddr : NodeId → Nat
  | .loader => 1 | .mill => 2 | .glue => 3 | .cover => 4 | .nip => 5 | .release => 6
  | .drive => 7 | .cooling => 8 | .trimmer => 9

/-- The address a frame is sent to (R153). -/
def BusContent.address : BusContent → Nat
  | .work _ _ | .poll _ _ _ | .abortAll => 0
  | .abortJob n _ => nodeAddr n
  | .abortTrimmer => nodeAddr .trimmer
  | .request n _ _ _ => nodeAddr n

/-- The frame that carries a content, with its address and its check value (R153). -/
def BusContent.frame (c : BusContent) : BusFrame := ⟨c.address, c, Config.busCheck c.address c⟩

/-- A node's place in the node table. -/
def nodeIdx : NodeId → Fin 9
  | .loader => 0 | .mill => 1 | .glue => 2 | .cover => 3 | .nip => 4 | .release => 5
  | .drive => 6 | .cooling => 7 | .trimmer => 8

/-- The nodes in address order (9.1). -/
def allNodes : List NodeId := [.loader, .mill, .glue, .cover, .nip, .release, .drive, .cooling, .trimmer]

/-- The group node of a POLL slot, 1 to 6 (R155). -/
def slotNode : Nat → Option NodeId
  | 1 => some .loader | 2 => some .mill | 3 => some .glue
  | 4 => some .cover | 5 => some .nip | 6 => some .release | _ => none

/-- Nodes 1 to 6, the carousel group (9.1). -/
def isGroup : NodeId → Bool
  | .drive | .cooling | .trimmer => false
  | _ => true

/-- The node of a station (R47). -/
def stationNode : Station → NodeId
  | .load => .loader | .mill => .mill | .spine | .side => .glue
  | .draw | .apply => .cover | .nip => .nip | .release => .release

/-- A station's place among the eight overrun counts (R51). -/
def stationIdx : Station → Fin 8
  | .load => 0 | .mill => 1 | .spine => 2 | .side => 3 | .draw => 4 | .apply => 5 | .nip => 6 | .release => 7

/-! ## Request kinds (R177) -/

def kindTicket : Byte := 0x01
def kindWithdraw : Byte := 0x02
def kindProfilePut : Byte := 0x03
def kindProfileGet : Byte := 0x04
def kindClampPut : Byte := 0x05
def kindClampGet : Byte := 0x06
def kindGlueChange : Byte := 0x07
def kindStart : Byte := 0x08
def kindHalt : Byte := 0x09
def kindHold : Byte := 0x0A
def kindResume : Byte := 0x0B
def kindPark : Byte := 0x0C
def kindClear : Byte := 0x0D
def kindCollect : Byte := 0x0E
def kindNodes : Byte := 0x0F
def kindContacts : Byte := 0x10
def kindStatus : Byte := 0x11
def kindTrace : Byte := 0x12
def kindSettingsPut : Byte := 0x13
def kindSettingsGet : Byte := 0x14
def kindStore : Byte := 0x15
def kindReset : Byte := 0x16

/-- The kind is one of the request kinds 0x01 to 0x16 (R177). -/
def isRequestKind (k : Byte) : Bool := decide (1 ≤ k.toNat ∧ k.toNat ≤ 0x16)

/-- Kind of a reply: the request's with bit 7 set (R174). -/
def replyKind (k : Byte) : Byte := k ||| 0x80

/-- A frame on the line is a reply when its kind has bit 7 set: the report kinds are 0x40 to 0x43 (R174). -/
def HostFrame.isReply (f : HostFrame) : Bool := decide (128 ≤ f.kind.toNat)

/-! ## Payloads -/

/-- Next `w` bytes as an unsigned little-endian number, and the rest. -/
def takeNat (w : Nat) (p : List Byte) : Nat × List Byte := (leNat (p.take w), p.drop w)

/-- An optional field: its bytes are there only when its presence bit is set (R3). -/
def takeOpt (here : Bool) (w : Nat) (p : List Byte) : Option Nat × List Byte :=
  if here then (some (leNat (p.take w)), p.drop w) else (none, p)

/-- The fields of a TICKET payload as sent, before any range check (R3). -/
structure RawTicket where
  id          : Nat
  blockId     : Nat
  coverId     : Option Nat
  profile     : Nat
  blockWidth  : Nat
  blockHeight : Nat
  nominal     : Nat
  tolerance   : Nat
  millDepth   : Nat
  trimWidth   : Nat
  trimHeight  : Nat
  footMargin  : Option Nat
  coverStock  : Nat
  coverWidth  : Nat
  hinge       : Option Nat
  sideGlue    : Option Nat
  sample      : Bool
deriving DecidableEq, Repr

/-- Expected payload length of a presence byte (R3). -/
def ticketLength (presence : Nat) : Nat :=
  50 + (if presence.testBit 0 then 8 else 0) + (if presence.testBit 1 then 4 else 0)
    + (if presence.testBit 2 then 4 else 0) + (if presence.testBit 3 then 4 else 0)

/-- The fields of a payload body, in the order of R1. -/
def readTicket (presence : Nat) (p0 : List Byte) : RawTicket :=
  let (id, p1) := takeNat 4 p0
  let (blockId, p2) := takeNat 8 p1
  let (coverId, p3) := takeOpt (presence.testBit 0) 8 p2
  let (profile, p4) := takeNat 1 p3
  let (blockWidth, p5) := takeNat 4 p4
  let (blockHeight, p6) := takeNat 4 p5
  let (nominal, p7) := takeNat 4 p6
  let (tolerance, p8) := takeNat 4 p7
  let (millDepth, p9) := takeNat 4 p8
  let (trimWidth, p10) := takeNat 4 p9
  let (trimHeight, p11) := takeNat 4 p10
  let (footMargin, p12) := takeOpt (presence.testBit 1) 4 p11
  let (coverStock, p13) := takeNat 4 p12
  let (coverWidth, p14) := takeNat 4 p13
  let (hinge, p15) := takeOpt (presence.testBit 2) 4 p14
  let (sideGlue, _) := takeOpt (presence.testBit 3) 4 p15
  { id := id, blockId := blockId, coverId := coverId, profile := profile, blockWidth := blockWidth,
    blockHeight := blockHeight, nominal := nominal, tolerance := tolerance, millDepth := millDepth,
    trimWidth := trimWidth, trimHeight := trimHeight, footMargin := footMargin, coverStock := coverStock,
    coverWidth := coverWidth, hinge := hinge, sideGlue := sideGlue, sample := presence.testBit 4 }

/-- The format check (R3, R5): none when the payload is badly formed. -/
def parseTicket : List Byte → Option RawTicket
  | [] => none
  | b :: body =>
    if b.toNat < 32 ∧ body.length + 1 = ticketLength b.toNat then some (readTicket b.toNat body) else none

/-- A dimension lies in its range and is a multiple of 10 (R1, R5). -/
def dimOk (lo hi x : Nat) : Bool := decide (lo ≤ x ∧ x ≤ hi ∧ x % 10 = 0)

/-- The same for an optional dimension; an absent one passes. -/
def optDimOk (lo hi : Nat) : Option Nat → Bool
  | none => true
  | some x => dimOk lo hi x

/-- The range check (R1, R5). -/
def RawTicket.rangeOk (r : RawTicket) : Bool :=
  decide (r.profile ≤ 15) && dimOk 100000 340000 r.blockWidth && dimOk 140000 360000 r.blockHeight
    && dimOk 2000 60000 r.nominal && dimOk 100 5000 r.tolerance && dimOk 0 3000 r.millDepth
    && dimOk 90000 250000 r.trimWidth && dimOk 120000 340000 r.trimHeight
    && optDimOk 2000 30000 r.footMargin && dimOk 100 800 r.coverStock && dimOk 190000 600000 r.coverWidth
    && optDimOk 4000 12000 r.hinge && optDimOk 3000 10000 r.sideGlue

/-- The foot margin the Ticket Unit supplies: (H_b - H_t)/2 rounded down to a multiple of 10 (R2). -/
def suppliedMargin (blockHeight trimHeight : Nat) : Int :=
  ((blockHeight : Int) - trimHeight) / 2 / 10 * 10

/-- The ticket as stored, with the foot margin sent or supplied (R2). -/
def RawTicket.toTicket (r : RawTicket) : Ticket where
  id := BitVec.ofNat 32 r.id
  blockId := BitVec.ofNat 64 r.blockId
  coverId := r.coverId.map (BitVec.ofNat 64)
  profile := Fin.ofNat 16 r.profile
  blockWidth := r.blockWidth
  blockHeight := r.blockHeight
  nominal := r.nominal
  tolerance := r.tolerance
  millDepth := r.millDepth
  trimWidth := r.trimWidth
  trimHeight := r.trimHeight
  footMargin := match r.footMargin with
    | some m => m
    | none => suppliedMargin r.blockHeight r.trimHeight
  coverStock := r.coverStock
  coverWidth := r.coverWidth
  hinge := r.hinge
  sideGlue := r.sideGlue
  sample := r.sample

/-- A trim lies within its limits (R8). -/
def trimOk (x : Int) : Bool := decide (2000 ≤ x ∧ x ≤ 30000)

/-- The geometry check: front, foot and head trim (R8). -/
def Ticket.geometryOk (t : Ticket) : Bool :=
  trimOk ((t.blockWidth : Int) - t.millDepth - t.trimWidth) && trimOk t.footMargin
    && trimOk ((t.blockHeight : Int) - t.footMargin - t.trimHeight)

/-- Byte `i` of a payload as a number, 0 past the end. -/
def byteAt (p : List Byte) (i : Nat) : Nat := (p.getD i 0).toNat

/-- The number in `w` bytes from byte `i`. -/
def natAt (p : List Byte) (i w : Nat) : Nat := leNat ((p.drop i).take w)

/-- A profile entry's 17 bytes: its number and its fields, none when a byte is outside its coding or range
(R21, 2.2). -/
def parseProfile (p : List Byte) : Option (Fin 16 × Profile) :=
  let tc := natAt p 8 4
  let o := toSigned 8 (byteAt p 12)
  let cool := natAt p 15 2
  if byteAt p 0 ≤ 15 ∧ byteAt p 1 ≤ 1 ∧ byteAt p 2 ≤ 1 ∧ byteAt p 3 ≤ 2 ∧ byteAt p 4 ≤ 15 ∧ byteAt p 5 ≤ 15
      ∧ byteAt p 6 ≤ 15 ∧ byteAt p 7 ≤ 15 ∧ 2000 ≤ tc ∧ tc ≤ 60000 ∧ tc % 10 = 0 ∧ -7 ≤ o ∧ o ≤ 7
      ∧ byteAt p 13 ≤ 15 ∧ 20 ≤ byteAt p 14 ∧ byteAt p 14 ≤ 150 ∧ 50 ≤ cool ∧ cool ≤ 1800 then
    some (Fin.ofNat 16 (byteAt p 0),
      { valid := byteAt p 1 == 1
        fields :=
          { family := if byteAt p 2 = 0 then .hotmelt else .pur
            mode := if byteAt p 3 = 0 then .fixed else if byteAt p 3 = 1 then .twoClass else .computed
            fixedStep := byteAt p 4
            thinStep := byteAt p 5
            thickStep := byteAt p 6
            baseStep := byteAt p 7
            threshold := tc
            offset := o
            sideStep := byteAt p 13
            openTime := byteAt p 14
            coolDwell := cool } })
  else none

/-- The 17-byte entry of a profile (2.2). -/
def encodeProfile (n : Fin 16) (p : Profile) : List Byte :=
  leBytes 1 n.val ++ leBytes 1 (if p.valid then 1 else 0) ++ leBytes 1 p.fields.family.code
    ++ leBytes 1 p.fields.mode.code ++ leBytes 1 p.fields.fixedStep ++ leBytes 1 p.fields.thinStep
    ++ leBytes 1 p.fields.thickStep ++ leBytes 1 p.fields.baseStep ++ leBytes 4 p.fields.threshold
    ++ leBytes 1 (ofSigned 8 p.fields.offset) ++ leBytes 1 p.fields.sideStep ++ leBytes 1 p.fields.openTime
    ++ leBytes 2 p.fields.coolDwell

/-- The settings' 10 bytes: none when a value is outside its range (R180, 11.4). -/
def parseSettings (p : List Byte) : Option Settings :=
  let wt := byteAt p 0
  let sd := byteAt p 1
  let sdel := natAt p 2 2
  let pdel := natAt p 4 2
  let wait := natAt p 6 2
  if 100 ≤ wt ∧ wt ≤ 200 ∧ 10 ≤ sd ∧ sd ≤ 80 ∧ 10 ≤ sdel ∧ sdel ≤ 600 ∧ 60 ≤ pdel ∧ pdel ≤ 7200
      ∧ 100 ≤ wait ∧ wait ≤ 2000 ∧ byteAt p 8 ≤ 63 ∧ byteAt p 9 ≤ 1 then
    some ⟨wt, sd, sdel, pdel, wait, byteAt p 8, byteAt p 9 == 1⟩
  else none

/-- The settings' 10 bytes (11.4). -/
def encodeSettings (c : Settings) : List Byte :=
  leBytes 1 c.workTemp ++ leBytes 1 c.standbyDrop ++ leBytes 2 c.standbyDelay ++ leBytes 2 c.parkDelay
    ++ leBytes 2 c.loadWait ++ leBytes 1 c.leadThreshold ++ leBytes 1 (if c.zeroLearning then 1 else 0)

/-- A CLAMP_PUT's fields: clamp, selector, use mark, zero offset; none when one is out of range (R40). -/
def parseClampPut (p : List Byte) : Option (Fin 20 × Nat × UseMark × Int) :=
  let z := toSigned 16 (natAt p 3 2)
  if byteAt p 0 ≤ 19 ∧ 1 ≤ byteAt p 1 ∧ byteAt p 1 ≤ 3 ∧ byteAt p 2 ≤ 1 ∧ -500 ≤ z ∧ z ≤ 500 then
    some (Fin.ofNat 20 (byteAt p 0), byteAt p 1, if byteAt p 2 = 0 then .inUse else .outOfUse, z)
  else none

/-! ## The done record (R132) -/

def optTime (t : Option Time) : Nat := match t with | some x => x.toNat | none => 0

/-- Byte 54: the result (R132). -/
def resultByte (b : Book) : Nat :=
  match b.reason with
  | some .thickness => 2 | some .geometry => 3 | some .cover => 4 | some .openTime => 5
  | some .station => 6 | some .trim => 7 | some .fault => 8
  | none => if b.outcome = some .sample then 1 else 0

/-- Byte 0: the presence marks (R132). -/
def presenceByte (b : Book) : Nat :=
  (if b.setpoints.isSome then 1 else 0)
    + (if (b.setpoints.bind (·.outer)).isSome then 2 else 0)
    + (if b.glueTime.isSome then 4 else 0) + (if b.coverTime.isSome then 8 else 0)
    + (if b.coolEntry.isSome then 16 else 0) + (if b.revibrate.isSome then 32 else 0)
    + (if b.settleTime.isSome then 64 else 0)

/-- Byte 20: glue step, clamp flag, geometry (R132). -/
def stepByte (b : Book) : Nat :=
  match b.setpoints with
  | none => 0
  | some sp => sp.glueStep + (if sp.clamped then 16 else 0) + (if b.verdict = .fail then 32 else 0)

/-- Bytes 21 to 30: spine width and the four scores in units of 10 micrometres (R132). -/
def scoreBytes (b : Book) : List Byte :=
  match b.setpoints with
  | none => leBytes 10 0
  | some sp =>
    let s1 := match sp.outer with | some (a, _) => a | none => 0
    let s4 := match sp.outer with | some (_, d) => d | none => 0
    leBytes 2 sp.spineWidth.toNat ++ leBytes 2 (s1 / 10).toNat ++ leBytes 2 (sp.s2 / 10).toNat
      ++ leBytes 2 (sp.s3 / 10).toNat ++ leBytes 2 (s4 / 10).toNat

/-- The 59 bytes of a done record (R132). -/
def encodeDone (b : Book) : List Byte :=
  let p := b.snapshot
  leBytes 1 (presenceByte b) ++ leBytes 4 b.ticket.id.toNat ++ leBytes 1 b.clamp.val
    ++ leBytes 2 b.jawGap.toNat ++ leBytes 3 (ofSigned 24 b.measured)
    ++ leBytes 1 (p.family.code * 3 + p.mode.code) ++ leBytes 1 (p.fixedStep + 16 * p.thinStep)
    ++ leBytes 1 (p.thickStep + 16 * p.baseStep) ++ leBytes 2 p.threshold
    ++ leBytes 1 ((p.offset + 7).toNat + 16 * p.sideStep) ++ leBytes 1 p.openTime ++ leBytes 2 p.coolDwell
    ++ leBytes 1 (stepByte b) ++ scoreBytes b ++ leBytes 4 b.loadTime.toNat
    ++ leBytes 4 (optTime b.glueTime) ++ leBytes 4 (optTime b.coverTime)
    ++ leBytes 4 (optTime b.releaseTime) ++ leBytes 4 (optTime b.coolEntry)
    ++ leBytes 2 (b.settleTime.getD 0) ++ leBytes 1 (min 255 (b.revibrate.getD 0))
    ++ leBytes 1 (resultByte b) ++ leBytes 4 (optTime b.outTime)

/-! ## The stored image (R183) -/

/-- Length of the image without its CRC: 16 profiles, 20 clamps, the settings, the family. -/
def imageBodyLength : Nat := 16 * 17 + 20 * 3 + 10 + 1

/-- The bytes the CRC runs over, in the order of R183. -/
def imageBody (profiles : Vector Profile 16) (clamps : Vector Clamp 20) (c : Settings) (f : Family) : List Byte :=
  (List.finRange 16).flatMap (fun n => encodeProfile n profiles[n])
    ++ clamps.toList.flatMap (fun k => leBytes 1 k.mark.code ++ leBytes 2 (ofSigned 16 k.zero))
    ++ encodeSettings c ++ leBytes 1 f.code

/-- The image: the body and its CRC-32 (R183). -/
def encodeImage (profiles : Vector Profile 16) (clamps : Vector Clamp 20) (c : Settings) (f : Family) : List Byte :=
  let body := imageBody profiles clamps c f
  body ++ leBytes 4 (crc32 body)

/-- Entry `n` of an image. -/
def imageProfile (img : List Byte) (n : Nat) : Option Profile := (parseProfile (img.drop (17 * n))).map (·.2)

/-- Use mark and zero offset of clamp `n` of an image, none when out of range (R183). -/
def imageClamp (img : List Byte) (n : Nat) : Option (UseMark × Int) :=
  let at0 := 16 * 17 + 3 * n
  let z := toSigned 16 (natAt img (at0 + 1) 2)
  if byteAt img at0 ≤ 2 ∧ -500 ≤ z ∧ z ≤ 500 then
    some (if byteAt img at0 = 0 then .inUse else if byteAt img at0 = 1 then .outOfUse else .suspect, z)
  else none

/-- Settings of an image. -/
def imageSettings (img : List Byte) : Option Settings := parseSettings (img.drop (16 * 17 + 20 * 3))

/-- Family byte of an image. -/
def imageFamily (img : List Byte) : Nat := byteAt img (16 * 17 + 20 * 3 + 10)

/-- The image is good: its CRC matches and every field lies in its range (R183). -/
def imageGood (img : List Byte) : Bool :=
  decide (img.length = imageBodyLength + 4)
    && decide (natAt img imageBodyLength 4 = crc32 (img.take imageBodyLength))
    && (List.range 16).all (fun n => (imageProfile img n).isSome)
    && (List.range 20).all (fun n => (imageClamp img n).isSome)
    && (imageSettings img).isSome && decide (imageFamily img ≤ 1)

end Sys2Proof.Machine
end

