-- ==== Sys2Proof/Machine/Flags.lean ====
section
/-! DEFINITION. The conditions the rules read: contacts, nodes, books and clamps, holds, and the conditions of
resuming, waking and loading. Each is computed from the state and changes nothing. -/

namespace Sys2Proof.Machine

/-! ## Contacts (10.4) -/

/-- A contact's debounced state is CLOSED. -/
def contactClosed (s : State) (i : Fin 64) : Bool := s.scan.contacts[i].closed

/-- A guard counts as open: debounced OPEN or UNCERTAIN (R109, R148). -/
def guardOpen (s : State) (i : Fin 64) : Bool := !s.scan.contacts[i].closed || s.scan.contacts[i].uncertain

/-- Any carousel guard, contacts 16 to 21, counts as open (R105). -/
def anyGuardOpen (s : State) : Bool := [16, 17, 18, 19, 20, 21].any fun i => guardOpen s i

/-- The TRIM_GUARD, contact 22, counts as open (R148). -/
def trimGuardOpen (s : State) : Bool := guardOpen s 22

/-- COVER_EMPTY, contact 9, is debounced-closed (R90). -/
def coverEmptyClosed (s : State) : Bool := contactClosed s 9

/-- IN_PRESENT, contact 0, is debounced-closed; UNCERTAIN counts as open (R116, R167). -/
def inPresent (s : State) : Bool := contactClosed s 0 && !s.scan.contacts[(0 : Fin 64)].uncertain

/-! ## Nodes (R152) -/

/-- A node's record. -/
def nodeRec (s : State) (n : NodeId) : NodeRec := s.bus.nodes[nodeIdx n]

/-- A node is PRESENT. -/
def present (s : State) (n : NodeId) : Bool := (nodeRec s n).state == .present

/-- Every one of the nine nodes is PRESENT (R102, R120). -/
def allPresent (s : State) : Bool := allNodes.all (present s)

/-! ## Clamps and books -/

/-- The clamp at a position, none while the phase is unknown (R36, R37). -/
def clampAt (s : State) (p : Fin 20) : Option (Fin 20) :=
  if s.car.phaseKnown then s.car.phase.map fun φ => p - φ else none

/-- The position of a clamp, none while the phase is unknown (R36, R37). -/
def positionOf (s : State) (c : Fin 20) : Option (Fin 20) :=
  if s.car.phaseKnown then s.car.phase.map fun φ => c + φ else none

/-- A clamp record. -/
def clampRec (s : State) (c : Fin 20) : Clamp := s.car.clamps[c]

/-- The book in a clamp. -/
def bookIn (s : State) (c : Fin 20) : Option Book := s.car.clamps[c].book

/-- A clamp holds a book record (R38). -/
def loadedAt (s : State) (c : Fin 20) : Bool := (bookIn s c).isSome

/-- At least one clamp is loaded; a lost record that waits counts (R38). -/
def anyLoaded (s : State) : Bool := s.car.clamps.toList.any (·.book.isSome)

/-- Number of loaded clamps (R38). -/
def loadedClamps (s : State) : Nat := s.car.clamps.toList.countP (·.book.isSome)

/-- The clamp holds a lost book's record that waits for the done list (R38, R127). -/
def holdsLost (s : State) (c : Fin 20) : Bool := s.dlv.waiters.any (· == .clamp c)

/-- Some loaded clamp holds a book without a reject reason (R110). -/
def anyUnrejected (s : State) : Bool :=
  s.car.clamps.toList.any fun k => match k.book with
    | some b => b.reason.isNone
    | none => false

/-- Book held by the trimmer, inside or out (R136). -/
def heldBook (s : State) : Option Book :=
  match s.trim.held with
  | .none => none
  | .inside b => some b
  | .out b => some b

/-- Ids of the tickets in the queue. -/
def queueIds (s : State) : List TicketId := s.tickets.queue.map (·.id)

/-- Ids of the books in clamps. -/
def clampIds (s : State) : List TicketId :=
  s.car.clamps.toList.filterMap fun k => k.book.map (·.ticket.id)

/-- Id of the book in the trimmer. -/
def trimIds (s : State) : List TicketId := (heldBook s).toList.map (·.ticket.id)

/-- Every ticket id the line holds, holder by holder (R6). -/
def heldIds (s : State) : List TicketId :=
  queueIds s ++ clampIds s ++ s.dlv.cooling.map (·.ticket.id) ++ trimIds s ++ s.dlv.done.map (·.ticket.id)

/-- Number of book records on the line: clamps, cooling queue, trimmer and done list (R135). -/
def booksOnLine (s : State) : Nat :=
  loadedClamps s + s.dlv.cooling.length + (heldBook s).toList.length + s.dlv.done.length

/-! ## Holds and line conditions -/

/-- The set of hold causes is not empty (R99). -/
def Holds.any (h : Holds) : Bool :=
  h.host || h.glueTemp || h.guardOpen || h.infeedSequence || h.coverSequence || h.coverEmpty

/-- A hold cause added to the set (R107). -/
def Holds.add (h : Holds) : HoldCause → Holds
  | .host => { h with host := true }
  | .glueTemp => { h with glueTemp := true }
  | .guardOpen => { h with guardOpen := true }
  | .infeedSequence => { h with infeedSequence := true }
  | .coverSequence => { h with coverSequence := true }
  | .coverEmpty => { h with coverEmpty := true }

/-- The line is in a moving state, RUNNING or DRAINING (chapter 6). -/
def moving (s : State) : Bool := s.line.state == .running || s.line.state == .draining

/-- A hold is pending (R99). -/
def holdPending (s : State) : Bool := moving s && s.line.holds.any

/-- The carousel stands or is UNHOMED, so that a hold takes effect at once (R105, R107). -/
def holdsAtOnce (s : State) : Bool := s.car.state == .standing || s.car.state == .unhomed

/-- The pot is at temperature (R77). -/
def atTemp (s : State) : Bool := s.glue.cond == .atTemp

/-- The resume conditions (R113). -/
def resumeConditions (s : State) : Bool :=
  !anyGuardOpen s && !coverEmptyClosed s && (!s.line.holds.glueTemp || atTemp s)

/-- The wake condition (R116). -/
def wakeCondition (s : State) : Bool := !s.tickets.queue.isEmpty && inPresent s

/-- The fresh load condition (R57). -/
def freshLoadCondition (s : State) : Bool :=
  !s.tickets.queue.isEmpty && inPresent s && match clampAt s 0 with
    | some c => (clampRec s c).book.isNone && (clampRec s c).mark == .inUse
    | none => false

/-- There is work for an index (R54). -/
def indexWork (s : State) : Bool :=
  anyLoaded s ||
    (s.line.state == .running && !s.tickets.queue.isEmpty && match clampAt s 0 with
      | some c => (clampRec s c).mark != .inUse &&
          (List.finRange 20).any fun d => d != c && (clampRec s d).mark == .inUse && (clampRec s d).book.isNone
      | none => false)

/-- A job has ended (R47). -/
def Job.ended (j : Job) : Bool := j.status == .done || j.status == .failed || j.status == .aborted

/-- The job of a station in the present job list. -/
def jobAt (s : State) (st : Station) : Option Job := s.car.jobs.find? fun j => j.item.station == st

/-- A load or zero-learning job is in flight for the clamp (R40). -/
def p0JobFor (s : State) (c : Fin 20) : Bool :=
  s.car.jobs.any fun j => j.item.station == .load && j.item.clamp == c && !j.ended

/-- A request is taken while another is pending, while a reply is owed, or after a RESET (R176, R185). -/
def overlapped (s : State) : Bool := s.host.request.isSome || !s.host.owed.isEmpty || s.host.resetTaken

/-- The READY lamp flashes in this state (R121). -/
def flashes (l : LineState) : Bool := l == .warming || l == .held

/-- A queued ticket, the reserved head included, names the profile (R7, R22). -/
def profileNamed (s : State) (n : Fin 16) : Bool := s.tickets.queue.any fun t => t.profile == n

/-- The STEP EJECT is in flight: the book is inside, in EJECT, and the step does not wait for the guard
(R146, R150). -/
def ejectInFlight (s : State) : Bool :=
  s.trim.state == .eject && !s.trim.stepHeld && match s.trim.held with
    | .inside _ => true
    | _ => false

end Sys2Proof.Machine
end

