-- ==== Sys2Proof/Machine/Ops.lean ====
section
/-! DEFINITION. The shared operations: the host's transmit line and reports (11.5), the station bus and its
arbiter (chapter 9), and the updates of clamps, books, jobs and counts that several blocks make. -/

namespace Sys2Proof.Machine

/-! ## The transmit line (R181, R182) -/

/-- Frame of a report: tag 0 (R181). -/
def reportFrame (kind : Byte) (payload : List Byte) : HostFrame := ⟨kind, 0, payload⟩

/-- The next report: the first non-empty latch, emptied as it begins (R182). -/
def nextReport (h : HostLink) : Option (HostFrame × HostLink) :=
  match h.notice with
  | some (n, sub) =>
    some (reportFrame 0x40 (leBytes 1 n.code ++ leBytes 4 sub.toNat), { h with notice := none })
  | none =>
  match h.stateRep with
  | some st => some (reportFrame 0x41 (leBytes 1 st.code), { h with stateRep := none })
  | none =>
  match h.doneReady with
  | some n => some (reportFrame 0x42 (leBytes 1 n), { h with doneReady := none })
  | none =>
  match h.ticketsLow with
  | some n => some (reportFrame 0x43 (leBytes 1 n), { h with ticketsLow := none })
  | none => none

/-- The next frame: the waiting reply, else with no request pending the oldest owed reply, else a report
(R176, R182). A tag leaves the owed list when its BUSY begins on the line (DEDUCED, log 51). -/
def nextFrame (h : HostLink) : Option (HostFrame × HostLink) :=
  match h.request with
  | some ⟨k, t, some reply⟩ => some (⟨replyKind k, t, reply⟩, { h with request := none })
  | some ⟨_, _, none⟩ => nextReport h
  | none =>
    match h.owed with
    | o :: rest => some (⟨replyKind o.kind, o.tag, leBytes 1 o.result.code⟩, { h with owed := rest })
    | [] => nextReport h

/-- When the transmit line is free, the next frame begins on it (R182). -/
def txPump (s : State) : State :=
  match s.host.tx, nextFrame s.host with
  | none, some (f, h) => { s with host := { h with tx := some f } }
  | _, _ => s

/-- A NOTICE is raised (R181). -/
def raiseNotice (n : Notice) (subject : BitVec 32) (s : State) : State :=
  txPump { s with host := { s.host with notice := some (n, subject) } }

/-- A STATE report is raised (R100, R181). -/
def raiseState (st : LineState) (s : State) : State :=
  txPump { s with host := { s.host with stateRep := some st } }

/-- A DONE_READY report is raised (R134, R181). -/
def raiseDoneReady (n : Nat) (s : State) : State :=
  txPump { s with host := { s.host with doneReady := some n } }

/-- A TICKETS_LOW report is raised (R15, R181). -/
def raiseTicketsLow (n : Nat) (s : State) : State :=
  txPump { s with host := { s.host with ticketsLow := some n } }

/-! ## Clamps, books, jobs -/

/-- A clamp record replaced. -/
def setClamp (c : Fin 20) (k : Clamp) (s : State) : State :=
  { s with car := { s.car with clamps := s.car.clamps.set c.val k } }

/-- The book record of a clamp replaced. -/
def setBook (c : Fin 20) (b : Option Book) (s : State) : State :=
  setClamp c { clampRec s c with book := b } s

/-- A reject reason is set on a record that has none; a record that has one keeps it (R17). -/
def Book.withReason (b : Book) (r : RejectReason) : Book :=
  match b.reason with
  | none => { b with reason := some r }
  | some _ => b

/-- A reject reason for the book in a clamp (R17). -/
def setReason (c : Fin 20) (r : RejectReason) (s : State) : State :=
  match bookIn s c with
  | some b => setBook c (some (b.withReason r)) s
  | none => s

/-- The job of a station replaced in the job list. -/
def updateJob (st : Station) (f : Job → Job) (s : State) : State :=
  { s with car := { s.car with jobs := s.car.jobs.map fun j => if j.item.station == st then f j else j } }

/-- A job ends with a status; its limit stops (R47, R50). -/
def endJob (st : Station) (status : JobStatus) (s : State) : State :=
  updateJob st (fun j => { j with status := status, limit := .suspended }) s

/-- A station's consecutive-overrun count replaced (R51). -/
def setOverrun (st : Station) (n : Nat) (s : State) : State :=
  { s with car := { s.car with overruns := s.car.overruns.set (stationIdx st).val n } }

/-- The reservation of the head ticket is dropped (R12). -/
def dropReservation (s : State) : State := { s with tickets := { s.tickets with reserved := false } }

/-- The head cover-line entry is removed (R94). -/
def removeEntry (s : State) : State := { s with cover := { s.cover with entries := s.cover.entries.drop 1 } }

/-- An EARLY mark of the drop watch is discarded (R125). -/
def discardEarly (s : State) : State :=
  match s.dlv.dropWatch with
  | .early => { s with dlv := { s.dlv with dropWatch := .none } }
  | _ => s

/-- A ticket leaves the queue and the TICKETS_LOW test is made (R10, R15). -/
def afterRemoval (before : Nat) (s : State) : State :=
  let now := s.tickets.queue.length
  if s.settings.leadThreshold < before ∧ now ≤ s.settings.leadThreshold then raiseTicketsLow now s else s

/-! ## The node table (R152) -/

/-- A node's record replaced. -/
def setNode (n : NodeId) (r : NodeRec) (s : State) : State :=
  { s with bus := { s.bus with nodes := s.bus.nodes.set (nodeIdx n).val r } }

/-! ## The station bus and its arbiter (R153 to R156, R162) -/

/-- Number of frames waiting at the four requesters. -/
def Bus.waiting (b : Bus) : Nat := b.carQ.length + b.trimQ.length + b.coolQ.length + b.probeQ.length

/-- The requesters of R162. -/
inductive Requester where
  | carousel | trimmer | cooling | probe
deriving DecidableEq, Repr

/-- The requester of a frame (R162). -/
def requesterOf : Frame → Requester
  | .work _ _ _ | .poll | .abortAll | .abortJob _ => .carousel
  | .abortTrimmer => .trimmer
  | .req r =>
    match r.kind, r.node with
    | .probe _, _ => .probe
    | _, .cooling => .cooling
    | _, .trimmer => .trimmer
    | _, _ => .carousel

/-- The frame joins its requester's waiting frames at the end (R162). -/
def Bus.enqueue (f : Frame) (b : Bus) : Bus :=
  match requesterOf f with
  | .carousel => { b with carQ := b.carQ ++ [f] }
  | .trimmer => { b with trimQ := b.trimQ ++ [f] }
  | .cooling => { b with coolQ := b.coolQ ++ [f] }
  | .probe => { b with probeQ := b.probeQ ++ [f] }

/-- A frame offered again goes before its requester's other frames: it was handed over before them (R157,
DEDUCED, log 25). -/
def Bus.requeue (f : Frame) (b : Bus) : Bus :=
  match requesterOf f with
  | .carousel => { b with carQ := f :: b.carQ }
  | .trimmer => { b with trimQ := f :: b.trimQ }
  | .cooling => { b with coolQ := f :: b.coolQ }
  | .probe => { b with probeQ := f :: b.probeQ }

/-- The oldest frame of one of the three rotating requesters. -/
def Bus.takeFrom (b : Bus) : Rotation → Option (Frame × Bus)
  | .trimmer => match b.trimQ with
    | f :: q => some (f, { b with trimQ := q, lastServed := .trimmer })
    | [] => none
  | .cooling => match b.coolQ with
    | f :: q => some (f, { b with coolQ := q, lastServed := .cooling })
    | [] => none
  | .probe => match b.probeQ with
    | f :: q => some (f, { b with probeQ := q, lastServed := .probe })
    | [] => none

/-- The rotating order, counting from the one after the last served (R162). -/
def rotationAfter : Rotation → List Rotation
  | .trimmer => [.cooling, .probe, .trimmer]
  | .cooling => [.probe, .trimmer, .cooling]
  | .probe => [.trimmer, .cooling, .probe]

/-- The arbiter's grant: the carousel's oldest frame first, otherwise the rotation (R162). -/
def Bus.grant (b : Bus) : Option (Frame × Bus) :=
  match b.carQ with
  | f :: q => some (f, { b with carQ := q })
  | [] => (rotationAfter b.lastServed).findSome? b.takeFrom

/-- A job becomes ISSUED by the WORK that carries it; its limit starts, but for a draw while COVER_EMPTY is
closed (R49, R91). -/
def issueJob (stations : List Station) (now : Time) (emptyStack : Bool) (j : Job) : Job :=
  if stations.contains j.item.station && j.status == .built then
    { j with status := .issued
             limit := if emptyStack && j.item.station == .draw then .suspended else .running now }
  else j

/-- The tag is that of the dwell in progress: a WORK left over from a dwell that has ended issues no job and
begins no cadence (R154, R155, log 40). -/
def dwellLive (s : State) (tag : Byte) : Bool := s.car.state == .dwelling && s.car.tag == tag

/-- A WORK broadcast is sent: its jobs become ISSUED (a repeat restarts nothing), a draw sets the draw mark,
and the first WORK of a dwell begins the 5 ms cadence (R49, R83, R154, R155). -/
def sendWork (tag : Byte) (items : List WorkItem) (again : Bool) (s : State) : State :=
  let stations := items.map (·.station)
  let first := dwellLive s tag && !again
  { s with
    car := { s.car with
      jobs := if first then s.car.jobs.map (issueJob stations s.clock (coverEmptyClosed s)) else s.car.jobs }
    cover := { s.cover with drawMark := s.cover.drawMark || stations.contains .draw }
    bus := { s.bus with
      fast := s.bus.fast || first
      pollBase := if first && !s.bus.fast then s.clock else s.bus.pollBase }
    busOut := s.busOut ++ [BusContent.frame (.work tag items)] }

/-- The restart acknowledgements a POLL carries (R155, R160). -/
def pollAcks (s : State) : List NodeId := allNodes.filter fun n => isGroup n && (nodeRec s n).ackPending

/-- The acknowledgements of nodes 1 to 6 return to none (R160). -/
def clearAcks (v : Vector NodeRec 9) : Vector NodeRec 9 :=
  [(0 : Fin 9), 1, 2, 3, 4, 5].foldl (fun w i => w.set i.val { w[i] with ackPending := false }) v

/-- A POLL is sent: its six slots follow; it carries the tag, the pot target and the acknowledgements, which
then return to none (R155, R160). -/
def sendPoll (s : State) : State :=
  { s with
    bus := { s.bus with
      nodes := clearAcks s.bus.nodes
      current := some (.poll s.car.tag 1)
      lastPoll := s.clock }
    busOut := s.busOut ++ [BusContent.frame (.poll s.car.tag s.glue.target (pollAcks s))] }

/-- The owners' limits start at the first sending of a request: the index and homing limit, the settle timer
with the move time, the step timer (R54, R59, R138, R156). -/
def startLimit (k : ReqKind) (s : State) : State :=
  match k with
  | .index | .home => { s with car := { s.car with moveTimer := some s.clock } }
  | .setAxes _ _ _ =>
    { s with trim := { s.trim with moveTime := some s.clock, settleTimer := .running s.clock } }
  | .step _ => { s with trim := { s.trim with stepTimer := some s.clock } }
  | _ => s

/-- An addressed request is sent and its reply window begins. At its first sending the node's sequence rises and the
request carries the new number; to nodes 7 to 9 it carries a pending acknowledgement (R153, R156, R160). -/
def sendRequest (r : Request) (s : State) : State :=
  let rec0 := nodeRec s r.node
  let seq := match r.seq with | some q => q | none => rec0.seq + 1
  let ack := rec0.ackPending && !isGroup r.node
  let s := if r.seq.isNone then startLimit r.kind s else s
  let s := setNode r.node { rec0 with seq := if r.seq.isNone then seq else rec0.seq
                                      ackPending := rec0.ackPending && isGroup r.node } s
  { s with
    bus := { s.bus with current := some (.request { r with seq := some seq } false s.clock) }
    busOut := s.busOut ++ [BusContent.frame (.request r.node r.kind seq ack)] }

/-- A granted frame is sent (R153). A WORK or an ABORT is a transaction of one frame. -/
def sendFrame (f : Frame) (s : State) : State :=
  match f with
  | .work tag items again => sendWork tag items again s
  | .poll => sendPoll s
  | .abortAll => { s with busOut := s.busOut ++ [BusContent.frame .abortAll] }
  | .abortJob st => { s with busOut := s.busOut ++ [BusContent.frame (.abortJob (stationNode st) st)] }
  | .abortTrimmer => { s with busOut := s.busOut ++ [BusContent.frame .abortTrimmer] }
  | .req r => sendRequest r s

/-- While the bus is free and a frame waits, the arbiter grants and the frame is sent (R162). The fuel is the
number of waiting frames: each grant takes one away. -/
def pump : Nat → State → State
  | 0, s => s
  | n + 1, s =>
    match s.bus.current, s.bus.grant with
    | none, some (f, b) => pump n (sendFrame f { s with bus := b })
    | _, _ => s

/-- The bus arbiter acts on what waits. -/
def busPump (s : State) : State := pump s.bus.waiting s

/-- A block hands a frame over; on a free bus it is sent at once (R162). -/
def handOver (f : Frame) (s : State) : State := busPump { s with bus := s.bus.enqueue f }

/-- An addressed request handed over. -/
def handRequest (n : NodeId) (k : ReqKind) (s : State) : State := handOver (.req ⟨n, k, none⟩) s

/-- An addressed ABORT for the job of a group node's station; dropped when the node is not PRESENT (R153). -/
def abortStation (st : Station) (s : State) : State :=
  if present s (stationNode st) then handOver (.abortJob st) s else s

/-- An addressed ABORT to TRIMMER; dropped when the node is not PRESENT (R138, R153). -/
def abortTrimmer (s : State) : State := if present s .trimmer then handOver .abortTrimmer s else s

/-- The transaction ends and the arbiter grants the bus (R153, R162). -/
def endTransaction (s : State) : State := busPump { s with bus := { s.bus with current := none } }

/-- The request a waiting frame carries satisfies the test. -/
def frameReq (p : Request → Bool) : Frame → Bool
  | .req r => p r
  | _ => false

/-- An owner gives up its requests: they leave the waiting places, and an answer that still comes to one on
the bus is discarded (R156). -/
def giveUp (p : Request → Bool) (s : State) : State :=
  { s with bus := { s.bus with
      carQ := s.bus.carQ.filter fun f => !frameReq p f
      trimQ := s.bus.trimQ.filter fun f => !frameReq p f
      coolQ := s.bus.coolQ.filter fun f => !frameReq p f
      probeQ := s.bus.probeQ.filter fun f => !frameReq p f
      busyWait := s.bus.busyWait.filter fun e => !p e.1
      current := match s.bus.current with
        | some (.request r g w) => some (.request r (g || p r) w)
        | t => t } }

/-- REJECT_PUSH or INFEED_PUSH. -/
def isPush : ReqKind → Bool
  | .rejectPush _ | .infeedPush _ => true
  | _ => false

/-- INDEX or HOME. -/
def isMove (r : Request) : Bool := r.kind == .index || r.kind == .home

/-- SET_AXES, READ_AXES or STEP: the Trimmer Controller's requests (R138). -/
def isTrimWork (r : Request) : Bool :=
  match r.kind with
  | .setAxes _ _ _ | .readAxes | .step _ => true
  | _ => false

/-- The dwell is over for the bus: the cadence falls back, the next round 100 ms after the last (R155). A round that
still waits for the bus stays, is sent, and does not move that time (DESIGN CHOICE, log 52). -/
def slowPolls (s : State) : State :=
  if s.bus.fast then { s with bus := { s.bus with fast := false, pollBase := s.bus.lastPoll } } else s

/-! ## Replies (R176) -/

/-- The reply to the request being taken becomes ready and is sent when the line is free (R176, log 4). -/
def respond (kind tag : Byte) (code : Result) (data : List Byte) (s : State) : State :=
  txPump { s with host := { s.host with request := some ⟨kind, tag, some (leBytes 1 code.code ++ data)⟩ } }

/-- Number of BUSY tags owed (R176). -/
def busyOwed (h : HostLink) : Nat := h.owed.countP fun o => o.result == .busy

/-- A reply is owed behind the others (R176, R185). -/
def owe (kind tag : Byte) (r : Result) (s : State) : State :=
  txPump { s with host := { s.host with owed := s.host.owed ++ [⟨kind, tag, r⟩] } }

/-- A request taken while another is pending: its tag joins the owed list for a BUSY; with 8 tags owed it is
discarded (R176). -/
def oweBusy (kind tag : Byte) (s : State) : State :=
  if busyOwed s.host < Config.owedCap then owe kind tag .busy s else s

/-- The outputs of a step begin empty (log 38). -/
def clearOut (s : State) : State := { s with busOut := [] }

/-- A whole frame has been received: none is begun (R175). -/
def clearRx (s : State) : State := { s with host := { s.host with rx := [] } }

/-- A command acts on a part that is not held in reset (R172). -/
def live (f : State → State) (s : State) : State := if s.pins.inReset then s else f (clearOut s)

/-- The queue of commands is empty: 1 ms of line clock passes, but not in reset (DESIGN CHOICE, log 1). -/
def tick (s : State) : State :=
  if s.pins.inReset then s else { s with clock := s.clock + 1, busOut := [] }

/-- A host request: under the overlap rule it is answered BUSY, otherwise its owner takes it and the reply is
built from the result (R176). -/
def hostRequest (kind tag : Byte) (act : State → State × Result × List Byte) (s : State) : State :=
  if overlapped s then oweBusy kind tag (clearRx s)
  else
    let (s', code, data) := act (clearRx s)
    respond kind tag code data s'

end Sys2Proof.Machine
end

