-- ==== Sys2Proof/Machine/LineCtl.lean ====
section
/-! DEFINITION. The Line Controller's transitions (chapter 6), with what the other blocks do on being told of a
state: the pot target, the counts set to 0, the outputs, and the carousel's abort on a fault. -/

namespace Sys2Proof.Machine

/-- READY, FAULT, HEAT_EN, DRIVE_EN and TRIM_EN of a state at its entry (R121). -/
def lampsOf (l : LineState) (latch : Bool) : Lamps where
  ready := l == .warming || l == .running || l == .draining || l == .held
  fault := l == .faulted
  heat := !(l == .starting || l == .parked || l == .faulted)
  drive := !(l == .starting || l == .parked || l == .faulted)
  trim := l != .starting && !latch

/-- The pot target of a line state (R75). -/
def potTargetOf (l : LineState) (c : Settings) : PotTarget :=
  match l with
  | .warming | .running | .draining | .held => .working c.workTemp
  | .standby => .standby (c.workTemp - c.standbyDrop)
  | .parked | .starting | .faulted => .off

/-- The target is the working temperature. -/
def PotTarget.isWorking : PotTarget → Bool
  | .working _ => true
  | _ => false

/-- A reading is out of band: unknown, or more than 8 degrees from the working temperature (R78). -/
def outOfBandOf (reading : Option Nat) (work : Nat) : Bool :=
  match reading with
  | none => true
  | some t => decide (8 < t - work ∨ 8 < work - t)

/-- The Glue Unit takes a line state: the target follows it; the out-of-band condition is tested when the
target becomes the working temperature and is IN_BAND with any other target (R75, R78). -/
def glueFollow (l : LineState) (c : Settings) (g : GlueUnit) : GlueUnit :=
  let target := potTargetOf l c
  { g with
    target := target
    outOfBand := if !target.isWorking then false
      else if g.target.isWorking then g.outOfBand
      else outOfBandOf g.reading c.workTemp }

/-- The line enters a state: the halt and park marks end with the state they were taken in, the blocks take
the state, the outputs are set and the STATE report is raised (R65, R83, R100, R117, R121). -/
def enterState (l : LineState) (s : State) : State :=
  raiseState l { s with
    line := { s.line with
      state := l
      halt := false
      park := false
      lamps := lampsOf l s.line.estopLatch
      flashBase := s.clock }
    glue := glueFollow l s.settings s.glue
    cover := if l == .running || l == .draining then { s.cover with mismatch := 0 } else s.cover
    car := if l == .running then { s.car with diverts := 0 } else s.car }

/-- The line enters HELD. The return state is DRAINING when the line was DRAINING or the halt mark is set, and
RUNNING otherwise (R107, R112). -/
def enterHeld (s : State) : State :=
  let ret := if s.line.state == .draining || s.line.halt then ReturnState.draining else .running
  enterState .held { s with line := { s.line with returnState := ret, standbyTimer := none } }

/-- The line enters PARKED: the hold causes are emptied and every timer is stopped (R115, R117). -/
def enterParked (s : State) : State :=
  enterState .parked { s with line := { s.line with
    holds := .empty, drainRelease := false, warmTimer := none, standbyTimer := none, parkTimer := none } }

/-- The standby timer starts with the standby delay (R99, R106). -/
def startStandby (s : State) : State :=
  { s with line := { s.line with standbyTimer := some (s.clock, s.settings.standbyDelay * 1000) } }

/-- GLUE_TEMP is tested at the entry into RUNNING, and into DRAINING only with a loaded book that carries no
reason (R105, R110). -/
def glueTempTest (s : State) : Bool :=
  s.glue.outOfBand && (s.line.state == .running || (s.line.state == .draining && anyUnrejected s))

/-- The hold causes that the tests of R105 find. -/
def entryHolds (s : State) : Holds :=
  { Holds.empty with
    guardOpen := anyGuardOpen s
    coverEmpty := coverEmptyClosed s
    glueTemp := glueTempTest s }

/-- The tests of R105; GLUE_TEMP raises its notice (R110). -/
def entryTests (s : State) : State :=
  let t := { s with line := { s.line with holds := entryHolds s } }
  if glueTempTest s then raiseNotice .glueTemp 3 t else t

/-- The line enters RUNNING and passes on to HELD when a test finds a cause and the carousel stands or is
UNHOMED; standing empty, the standby timer starts (R105, R106). -/
def enterRunning (s : State) : State :=
  let s := enterState .running { s with line := { s.line with
    warmTimer := none, parkTimer := none, drainRelease := false } }
  let s := entryTests s
  if s.line.holds.any && holdsAtOnce s then enterHeld s
  else if s.car.state == .standing && !anyLoaded s then startStandby s
  else s

/-- The line enters WARMING, and passes on to RUNNING when the pot is already AT_TEMP (R103, R104). -/
def enterWarming (s : State) : State :=
  let s := enterState .warming { s with line := { s.line with
    parkTimer := none, standbyTimer := none, warmTimer := some s.clock } }
  if atTemp s then enterRunning s else s

/-- The line enters STANDBY; the wake condition is tested within the event (R116). -/
def enterStandby (s : State) : State :=
  let s := enterState .standby { s with line := { s.line with
    standbyTimer := none, parkTimer := some (s.clock, s.settings.parkDelay * 1000) } }
  if wakeCondition s then enterWarming s else s

/-- The line enters DRAINING with the tests of R105; standing with no clamp loaded it leaves at once for
STANDBY (R105, R115). -/
def enterDraining (s : State) : State :=
  let s := enterState .draining { s with line := { s.line with
    standbyTimer := none, drainRelease := false } }
  let s := entryTests s
  if s.line.holds.any && holdsAtOnce s then enterHeld s
  else if s.car.state == .standing && !anyLoaded s && !s.line.holds.any then enterStandby s
  else s

/-- A hold cause is taken: added in RUNNING and DRAINING, where it acts at once on a standing or UNHOMED
carousel; added in HELD; discarded in every other state (R107). -/
def lineHold (c : HoldCause) (s : State) : State :=
  let t := { s with line := { s.line with holds := s.line.holds.add c } }
  match s.line.state with
  | .running | .draining => if holdsAtOnce s then enterHeld t else t
  | .held => t
  | _ => s

/-! ## Faults (R118, R119, R52, R56, R60) -/

/-- An unfinished job as a fault ends it: ABORTED. -/
def Job.faulted (j : Job) : Job := if j.ended then j else { j with status := .aborted, limit := .suspended }

/-- A load job (not zero learning) that has not ended. -/
def Job.openLoad (j : Job) : Bool :=
  !j.ended && match j.item.params with
    | .load _ _ => true
    | _ => false

/-- A WORK of the dwell with this tag, waiting at the carousel requester (R52). -/
def isWorkOf (tag : Byte) : Frame → Bool
  | .work t _ _ => t == tag
  | _ => false

/-- The job is in flight: sent, and not ended (R50, R95). -/
def Job.inFlight (j : Job) : Bool := j.status == .issued || j.status == .busy

/-- The dwell is ended by a fault: ABORT broadcast, the dwell's waiting WORK removed, every unfinished job ABORTED,
with a load's reservation dropped, the entry of an apply in flight removed and a release's EARLY mark discarded (R52,
R94, R125). An apply whose WORK has not been sent keeps its entry and its cover on the track (R95). A waiting WORK is
of this dwell when it carries the dwell's tag; a WORK left waiting from an earlier dwell stays and is sent (DEDUCED,
log 40). -/
def abortDwell (s : State) : State :=
  let s := handOver .abortAll s
  let loads := s.car.jobs.any Job.openLoad
  let applies := s.car.jobs.any fun j => j.inFlight && j.item.station == .apply
  let releases := s.car.jobs.any fun j => !j.ended && j.item.station == .release && !j.releaseDone
  let s := if loads then dropReservation s else s
  let s := if applies then removeEntry s else s
  let s := if releases then discardEarly s else s
  slowPolls { s with
    car := { s.car with jobs := s.car.jobs.map Job.faulted }
    bus := { s.bus with carQ := s.bus.carQ.filter fun f => !isWorkOf s.car.tag f } }

/-- The carousel becomes UNHOMED: the phase is unknown, the last known value kept (R37, R46). -/
def unhome (s : State) : State :=
  { s with car := { s.car with state := .unhomed, phaseKnown := false, moveTimer := none } }

/-- The worked mark replaced. -/
def setWorked (w : Bool) (s : State) : State := { s with car := { s.car with worked := w } }

/-- The carousel's state replaced. -/
def setCarState (c : CarState) (s : State) : State := { s with car := { s.car with state := c } }

/-- The carousel takes the line's entry into FAULTED (R52, R56, R60). -/
def carFault (estop : Bool) (s : State) : State :=
  match s.car.state with
  | .dwelling =>
    let s := setWorked false (abortDwell s)
    if estop then unhome s else setCarState .standing s
  | .indexing | .homing => setWorked false (unhome (giveUp isMove s))
  | .standing => if estop then unhome s else s
  | .unhomed => s

/-- Every loaded book without a reject reason gets FAULT (R118). -/
def faultBooks (s : State) : State :=
  { s with car := { s.car with
    clamps := Vector.ofFn fun i => { s.car.clamps[i] with
      book := s.car.clamps[i].book.map fun b => b.withReason .fault } } }

/-- The line enters FAULTED: the five steps of R118 in order. -/
def enterFaulted (cause : FaultCause) (s : State) : State :=
  let s := { s with line := { s.line with
    cause := some cause, holds := .empty, drainRelease := false
    warmTimer := none, standbyTimer := none, parkTimer := none } }
  let s := enterState .faulted (faultBooks s)
  carFault (cause == .estop) s

/-- A fault cause reaches the line: entered from the warm and moving states, replacing the recorded cause in
FAULTED, without effect in STARTING and PARKED; an e-stop also unhomes a carousel standing in FAULTED (R118,
R119). -/
def lineFault (cause : FaultCause) (s : State) : State :=
  match s.line.state with
  | .starting | .parked => s
  | .faulted =>
    let s := { s with line := { s.line with cause := some cause } }
    if cause == .estop && s.car.state == .standing then unhome s else s
  | _ => enterFaulted cause s

end Sys2Proof.Machine
end

