-- ==== Sys2Proof/Machine/CarouselCtl.lean ====
section
/-! DEFINITION. The Carousel Controller's dwells, index decision and moves (chapter 3), with the job builders of
chapters 4, 5 and 7, and the cascade of a dwell end, an index decision and the line's answer to a carousel
that stands. -/

namespace Sys2Proof.Machine

/-! ## Job lists (R47, R48) -/

/-- A job as built: to be issued, or PENDING when held back (R47, R48). -/
def mkJob (st : Station) (c : Fin 20) (id : Option TicketId) (p : JobParams) (held : Bool) : Job :=
  ⟨⟨st, c, id, p⟩, if held then .pending else .built, .notStarted, false⟩

/-- A job for the book in the clamp at a position, when the clamp is loaded with no lost record. -/
def bookJob (s : State) (p : Fin 20) (f : Fin 20 → Book → Option Job) : Option Job :=
  match clampAt s p with
  | none => none
  | some c =>
    match bookIn s c with
    | none => none
    | some b => if holdsLost s c then none else f c b

/-- The same, for a book without a reject reason only. -/
def soundJob (s : State) (p : Fin 20) (f : Fin 20 → Book → Option Job) : Option Job :=
  bookJob s p fun c b => if b.reason.isSome then none else f c b

/-- The load job of the head ticket for a clamp (R61). -/
def loadJob (s : State) (c : Fin 20) : Option Job :=
  s.tickets.queue.head?.map fun t => mkJob .load c none (.load t.blockId s.settings.loadWait) false

/-- The P0 job of a full dwell: load, or zero learning (R43, R48). -/
def p0Job (s : State) : Option Job :=
  match clampAt s 0 with
  | none => none
  | some c =>
    if (clampRec s c).book.isSome || (clampRec s c).mark != .inUse then none
    else if s.line.state == .running && !s.tickets.queue.isEmpty then loadJob s c
    else if s.settings.zeroLearning && moving s then some (mkJob .load c none .learn false)
    else none

/-- Mill job (R48, R68). -/
def millJob (s : State) : Option Job :=
  soundJob s 2 fun c b => some (mkJob .mill c (some b.ticket.id) (.mill b.ticket.millDepth) false)

/-- Spine-glue job (R48, R70). -/
def spineJob (s : State) : Option Job :=
  soundJob s 4 fun c b =>
    some (mkJob .spine c (some b.ticket.id) (.spine (b.setpoints.map (·.glueStep))) false)

/-- Side-glue job (R48, R72). -/
def sideJob (s : State) : Option Job :=
  soundJob s 5 fun c b => b.ticket.sideGlue.map fun w =>
    mkJob .side c (some b.ticket.id) (.side w b.snapshot.sideStep) false

/-- Draw job, KEEP or DIVERT by the book's reason (R48, R84). -/
def drawJob (s : State) : Option Job :=
  if s.cover.drawMark then none
  else bookJob s 5 fun c b =>
    let form := if b.reason.isSome then DrawForm.divert else .keep
    let scores := if b.reason.isSome then none else b.setpoints.map fun sp => (sp.s2, sp.s3, sp.outer)
    some (mkJob .draw c (some b.ticket.id)
      (.draw form b.ticket.coverId (if s.cover.mismatch = 0 then 2 else 1) scores) false)

/-- The glue is still open: the time since t_g is at most the snapshot's open time (R93). -/
def glueOpen (now : Time) (b : Book) : Bool :=
  match b.glueTime with
  | some t => decide (elapsed now t ≤ 100 * b.snapshot.openTime)
  | none => true

/-- The cover line holds an entry bound to the clamp (R93). -/
def hasEntry (s : State) (c : Fin 20) : Bool := s.cover.entries.any fun e => e.clamp == c

/-- The open-time check at P7: a book without a reason whose glue has closed gets OPEN_TIME when the list is
built (R93). -/
def openTimeCheck (s : State) : State :=
  match clampAt s 7 with
  | none => s
  | some c =>
    match bookIn s c with
    | none => s
    | some b =>
      if hasEntry s c && !holdsLost s c && b.reason.isNone && !glueOpen s.clock b then setReason c .openTime s
      else s

/-- Apply job, its form by the book's reason after the open-time check (R48, R93). -/
def applyJob (s : State) : Option Job :=
  bookJob s 7 fun c b =>
    if hasEntry s c then
      some (mkJob .apply c (some b.ticket.id) (.apply (if b.reason.isSome then .divert else .apply)) false)
    else none

/-- Nip job (R48, R96). -/
def nipJob (s : State) : Option Job :=
  soundJob s 8 fun c b =>
    some (mkJob .nip c (some b.ticket.id) (.nip (b.setpoints.map (·.spineWidth))) false)

/-- The cooling queue is full (R124). -/
def coolingFull (s : State) : Bool := decide (Config.coolingCap ≤ s.dlv.cooling.length)

/-- Release job, PENDING when the cooling queue is full (R48, R124). -/
def releaseJob (s : State) : Option Job :=
  bookJob s 11 fun c b => some (mkJob .release c (some b.ticket.id) .release (coolingFull s))

/-- The job list of a full dwell, station by station (R48). -/
def fullList (s : State) : List Job :=
  [p0Job s, millJob s, spineJob s, sideJob s, drawJob s, applyJob s, nipJob s, releaseJob s].filterMap id

/-! ## Dwells (R47 to R49) -/

/-- The standby timer stops: the carousel leaves STANDING (R106). -/
def stopStandby (s : State) : State := { s with line := { s.line with standbyTimer := none } }

/-- The WORK broadcast of a list: every job that is not PENDING (R49). -/
def workItems (jobs : List Job) : List WorkItem :=
  (jobs.filter fun j => j.status == .built).map (·.item)

/-- A dwell begins with a job list: the tag rises, a load job reserves the head ticket, and the WORK is handed
over when it carries a job (R11, R47, R49, R154). -/
def beginDwell (kind : DwellKind) (jobs : List Job) (s : State) : State :=
  let s := stopStandby { s with
    car := { s.car with state := .dwelling, jobs := jobs, dwell := kind, tag := s.car.tag + 1 }
    tickets := { s.tickets with reserved := s.tickets.reserved || jobs.any Job.openLoad } }
  match workItems jobs with
  | [] => s
  | items => handOver (.work s.car.tag items false) s

/-- INDEX is handed over and the carousel is INDEXING. With DRIVE not PRESENT the request is given up at once,
as if the loss were taken then (R54, R158). -/
def sendIndex (s : State) : State :=
  let s := stopStandby { s with car := { s.car with state := .indexing, moveTimer := none } }
  if present s .drive then handRequest .drive .index s else lineFault .nodeLost s

/-- HOME is handed over and the carousel is HOMING (R59, R158). -/
def sendHome (s : State) : State :=
  let s := { s with car := { s.car with state := .homing, moveTimer := none } }
  if present s .drive then handRequest .drive .home s else lineFault .nodeLost s

/-! ## The cascade of a dwell end (R46, R53, R54, R57, R58, R106, R107, R115)

`told` is what happens when the carousel is told of the line state that an event leaves the line in. A line
that leaves DRAINING for STANDBY may wake and run again within the event, and then tells the carousel anew:
that is the parameter `again`. -/

/-- The carousel stands: a pending hold takes effect, an empty DRAINING line is left, the standby timer starts
when the carousel has newly come to stand with no clamp loaded, and with `test` the fresh load condition is
tested (R57, R106, R107, R115). -/
def carStood (again : State → State) (newly test : Bool) (s : State) : State :=
  match s.line.state with
  | .running =>
    if s.line.holds.any then enterHeld s
    else
      let s := if newly && !anyLoaded s then startStandby s else s
      if test && freshLoadCondition s then
        match (clampAt s 0).bind (loadJob s) with
        | some j => beginDwell .freshLoad [j] s
        | none => s
      else s
  | .draining =>
    if anyLoaded s then (if s.line.holds.any then enterHeld s else s)
    else if s.line.park then enterParked s
    else if s.line.holds.any then enterHeld s
    else again (enterStandby s)
  | _ => s

/-- The index decision (R54). -/
def carDecide (again : State → State) (newly test : Bool) (s : State) : State :=
  let stand := carStood again newly test (setCarState .standing s)
  if !moving s || s.line.holds.any then stand
  else
    match clampAt s 11 with
    | none => stand
    | some c =>
      if loadedAt s c then
        match releaseJob s with
        | some j => beginDwell .release [j] s
        | none => stand
      else if indexWork s then sendIndex s
      else stand

/-- At a dwell end the Line Controller applies a pending hold or the halt mark (R53, R107, R114). -/
def lineDwellEnd (s : State) : State :=
  match s.line.state with
  | .running => if s.line.holds.any then enterHeld s else if s.line.halt then enterDraining s else s
  | .draining =>
    if s.line.holds.any then (if s.line.park && !anyLoaded s then s else enterHeld s) else s
  | _ => s

/-- The dwell ends: a full dwell sets the worked mark, the line is told, and the index decision is made (R53). -/
def carDwellEnd (again : State → State) (s : State) : State :=
  let s := setWorked (s.car.worked || s.car.dwell == .full) (slowPolls s)
  carDecide again true false (lineDwellEnd s)

/-- A full dwell begins at a known phase: the open-time check, the list, and for an empty list its end at once
(R48, R49). -/
def beginFull (again : State → State) (s : State) : State :=
  if s.car.phaseKnown then
    let s := openTimeCheck s
    let jobs := fullList s
    let s := beginDwell .full jobs s
    if jobs.isEmpty then carDwellEnd again s else s
  else s

/-- The carousel is told of the line state: UNHOMED it is homed, STANDING it begins a full dwell or makes the
index decision (R46, R57, R58, R59). The fuel counts how often the line may tell it again within one event. -/
def carTold : Nat → State → State
  | 0, s => s
  | n + 1, s =>
    match s.car.state with
    | .unhomed => if moving s || s.line.state == .warming then sendHome s else s
    | .standing =>
      if moving s then
        if s.car.worked then carDecide (carTold n) false (s.line.state == .running) s
        else beginFull (carTold n) s
      else s
    | _ => s

/-- How often the line may tell the carousel within one event; two suffice, since a line that has left DRAINING
cannot enter it again within the event. -/
def tellFuel : Nat := 3

/-- The Carousel Controller is told of the state an event has left the line in (R100). -/
def tellCarousel (s : State) : State := carTold tellFuel s

/-- Every job of the list has ended: the dwell ends (R53). -/
def dwellCheck (s : State) : State :=
  if s.car.state == .dwelling && s.car.jobs.all Job.ended then carDwellEnd (carTold tellFuel) s else s

/-- A standing carousel makes the index decision again, with the fresh load test where the event asks for it
(R57). -/
def redecide (test : Bool) (s : State) : State :=
  if s.car.state == .standing && s.car.worked then carDecide (carTold tellFuel) false test s else s

/-- The fresh load test at a closing of IN_PRESENT (R57). -/
def freshTest (s : State) : State :=
  if s.car.state == .standing && s.car.worked && s.line.state == .running && !s.line.holds.any
      && freshLoadCondition s then
    match (clampAt s 0).bind (loadJob s) with
    | some j => beginDwell .freshLoad [j] s
    | none => s
  else s

/-- The wake test in STANDBY (R116). -/
def wakeTest (s : State) : State :=
  if s.line.state == .standby && wakeCondition s then tellCarousel (enterWarming s) else s

/-- A HALT waiting in HELD takes effect when the resume conditions hold (R114). -/
def drainReleaseTest (s : State) : State :=
  if s.line.state == .held && s.line.drainRelease && resumeConditions s then tellCarousel (enterDraining s)
  else s

/-! ## Moves (R55, R56, R59, R60) -/

/-- An index or a homing is interrupted by its timeout, a FAILED answer or a restart: the phase becomes unknown,
the carousel UNHOMED, and INDEX_TIMEOUT is reported (R56, R60, R160). -/
def moveFailed (s : State) : State :=
  let s := setWorked false (unhome (giveUp isMove s))
  raiseNotice .indexTimeout 7 (lineFault .indexTimeout s)

/-- The index completes (R55, R83). -/
def indexDone (s : State) : State :=
  tellCarousel { s with
    car := { s.car with state := .standing, worked := false, moveTimer := none
                        phase := s.car.phase.map (· + 1) }
    cover := { s.cover with drawMark := false } }

/-- The homing completes: the phase is q; the draw mark is cleared when q differs from the last known phase
(R59, R83). -/
def homeDone (q : Fin 20) (s : State) : State :=
  tellCarousel { s with
    car := { s.car with state := .standing, worked := false, moveTimer := none
                        phase := some q, phaseKnown := true }
    cover := if s.car.phase == some q then s.cover else { s.cover with drawMark := false } }

end Sys2Proof.Machine
end

