-- ==== Sys2Proof/Machine/DeliveryCtl.lean ====
section
/-! DEFINITION. The Delivery Unit and the Trimmer Controller (chapters 7 and 8): the cooling queue, the reject
gate, the done list with its room waiters, the drop watch, the cut cycle and the trimmer's faults. -/

namespace Sys2Proof.Machine

/-! ## Cooling queue and gate (R124, R128 to R131) -/

/-- A book's cooling dwell is met (R128). -/
def dwellMet (now : Time) (b : Book) : Bool :=
  match b.coolEntry with
  | some t => decide (100 * b.snapshot.coolDwell ≤ elapsed now t)
  | none => true

/-- Conditions of any push (R129). -/
def pushAllowed (s : State) : Bool :=
  decide (s.dlv.done.length < Config.doneCap) && !s.line.estopLatch && present s .cooling && !s.dlv.gateStop

/-- The gate enters a push and the request for the head is handed over (R129). -/
def beginPush (g : Gate) (k : ReqKind) (s : State) : State :=
  handRequest .cooling k { s with dlv := { s.dlv with gate := g, gateConfirm := .none } }

/-- The head decision (R129). -/
def headDecision (s : State) : State :=
  match s.dlv.gate, s.dlv.cooling with
  | .idle, b :: _ =>
    if !pushAllowed s then s
    else if b.reason.isSome then beginPush .rejectPush (.rejectPush b.ticket.id) s
    else if dwellMet s.clock b && s.trim.state == .idle then beginPush .infeedPush (.infeedPush b.ticket.id) s
    else s
  | _, _ => s

/-- A record has become the head: without a reason, the head timer runs to the end of its cooling dwell unless
that has passed (R128). -/
def startHeadTimer (s : State) : State :=
  match s.dlv.cooling with
  | b :: _ =>
    let t := match b.coolEntry with
      | some e => if b.reason.isNone && !dwellMet s.clock b then some (e, 100 * b.snapshot.coolDwell) else none
      | none => none
    { s with dlv := { s.dlv with headTimer := t } }
  | [] => { s with dlv := { s.dlv with headTimer := none } }

/-- Room is reported to a PENDING release job, which is handed over in a WORK of its own (R124). -/
def roomReport (s : State) : State :=
  match jobAt s .release with
  | some j =>
    if j.status == .pending && s.car.state == .dwelling then
      handOver (.work s.car.tag [j.item] false) (updateJob .release (fun j => { j with status := .built }) s)
    else s
  | none => s

/-- The head leaves the cooling queue; leaving a queue of 40 it makes room for a held release, whose WORK is handed
over here, before the trimmer takes the book and before the next push (DESIGN CHOICE, log 43); the next record
becomes the head (R124, R128). -/
def removeHead (s : State) : State :=
  let full := coolingFull s
  let s := startHeadTimer { s with dlv := { s.dlv with cooling := s.dlv.cooling.drop 1 } }
  if full then roomReport s else s

/-- The head record of the cooling queue changed. -/
def modifyHead (f : Book → Book) (s : State) : State :=
  { s with dlv := { s.dlv with cooling := match s.dlv.cooling with
      | b :: q => f b :: q
      | [] => [] } }

/-! ## The done list (R132, R134) -/

/-- A record as it is written: its out time and its outcome, REJECT when it carries a reason (R17, R132). -/
def Book.asDone (b : Book) (producer : BookOutcome) (now : Time) : Book :=
  { b with outTime := some now
           outcome := some (if b.reason.isSome then .rejected else producer) }

/-- A record is written at the tail of the done list; DONE_READY at 1 and at 24 (R132, R134). -/
def writeDone (b : Book) (producer : BookOutcome) (s : State) : State :=
  let n := s.dlv.done.length + 1
  let s := { s with dlv := { s.dlv with done := s.dlv.done ++ [b.asDone producer s.clock] } }
  if n = 1 ∨ n = 24 then raiseDoneReady n s else s

/-- The done list has room (R132). -/
def doneRoom (s : State) : Bool := decide (s.dlv.done.length < Config.doneCap)

/-- Outcome the trimmer gives as producer (R146, R147). -/
def exitOutcome : Exit → BookOutcome
  | .good => .good
  | .sample => .sample
  | .reject => .rejected

/-- The trimmer enters IDLE (R146, R147, R151). -/
def trimIdle (s : State) : State := { s with trim := { s.trim with state := .idle } }

/-- A record leaves its holder into the done list: the clamp becomes empty, the gate returns to IDLE, or the
trimmer holds no book and leaves EJECT for IDLE (R127, R130, R132, R146). -/
def writeHolder (h : Holder) (s : State) : State :=
  match h with
  | .clamp c =>
    match bookIn s c with
    | some b => writeDone b .rejected (setBook c none s)
    | none => s
  | .cooling =>
    match s.dlv.cooling with
    | b :: _ =>
      let s := writeDone b .rejected (removeHead s)
      { s with dlv := { s.dlv with gate := .idle } }
    | [] => s
  | .trimmer =>
    match s.trim.held with
    | .out b =>
      let s := writeDone b (exitOutcome s.trim.dest) { s with trim := { s.trim with held := .none } }
      if s.trim.state == .eject then trimIdle s else s
    | _ => s

/-- A record is written when the list has room, and otherwise joins the room waiters in its holder (R132). -/
def writeOrWait (h : Holder) (s : State) : State :=
  if doneRoom s then writeHolder h s
  else { s with dlv := { s.dlv with waiters := s.dlv.waiters ++ [h] } }

/-- What a holder reports when its waiting record has been written: an emptied clamp to the Carousel Controller
(R57, R127). -/
def reportLeft (h : Holder) (s : State) : State :=
  match h with
  | .clamp _ => redecide false s
  | _ => s

/-- The waiting records are written into the freed places in the order in which they began to wait (R132). -/
def drainWaiters : List Holder → State → State
  | [], s => { s with dlv := { s.dlv with waiters := [] } }
  | h :: rest, s =>
    if doneRoom s then
      drainWaiters rest (reportLeft h (writeHolder h { s with dlv := { s.dlv with waiters := rest } }))
    else { s with dlv := { s.dlv with waiters := h :: rest } }

/-- The head's push is lost: the push request is given up (R156, R160), reason FAULT, the record written or waiting,
the gate stop mark, BOOK_LOST; then the head decision of the gate's return to IDLE (R131, log 13). -/
def pushLost (s : State) : State :=
  let s := giveUp (fun r => isPush r.kind) s
  match s.dlv.cooling with
  | [] => { s with dlv := { s.dlv with gate := .idle, gateConfirm := .none, gateStop := true } }
  | b :: _ =>
    let s := modifyHead (fun b => b.withReason .fault)
      { s with dlv := { s.dlv with gate := .waitingRoom, gateConfirm := .none } }
    let s := writeOrWait .cooling s
    let s := { s with dlv := { s.dlv with gateStop := true } }
    headDecision (raiseNotice .bookLost b.ticket.id (lineFault .bookLost s))

/-- The gate is in a push (R131). -/
def pushing (s : State) : Bool := s.dlv.gate == .rejectPush || s.dlv.gate == .infeedPush

/-! ## The cut cycle (R138 to R147) -/

/-- The trimmer's record at its entry into FAULTED: the cause recorded, the pending fault dropped, the timers
stopped, FAULT for a book inside, the axes' flags cleared (R137, R149). An early mark of the eject is dropped
with its step (DESIGN CHOICE, log 24). -/
def trimFaultState (cause : TrimCause) (s : State) : State :=
  { s with trim := { s.trim with
    state := .faulted
    cause := some cause
    pendingFault := none
    stepTimer := none
    settleTimer := .stopped
    stepHeld := false
    exitConfirm := match s.trim.exitConfirm with
      | .early => .none
      | c => c
    held := match s.trim.held with
      | .inside b => .inside (b.withReason .fault)
      | h => h
    front := { s.trim.front with converged := false, window := none }
    foot := { s.trim.foot with converged := false, window := none }
    head := { s.trim.head with converged := false, window := none } } }

/-- A trimmer fault cause is taken: entered from any state but FAULTED, where it replaces the recorded cause.
Requests in flight are given up and an ABORT is sent unless node 9 is the one lost (R149). -/
def trimFault (cause : TrimCause) (abort : Bool) (s : State) : State :=
  if s.trim.state == .faulted then { s with trim := { s.trim with cause := some cause } }
  else
    let s := trimFaultState cause (giveUp isTrimWork s)
    if abort then abortTrimmer s else s

/-- A request of the Trimmer Controller is handed over; with TRIMMER not PRESENT it is given up at once and the
loss is taken (R158). -/
def trimRequest (k : ReqKind) (s : State) : State :=
  if present s .trimmer then handRequest .trimmer k s else trimFault .nodeLost false s

/-- A state of the cut cycle is entered with its STEP handed over (R144). -/
def trimStep (st : TrimState) (k : StepKind) (s : State) : State :=
  trimRequest (.step k) { s with trim := { s.trim with state := st, stepHeld := false, stepTimer := none } }

/-- The trimmer is in a state of the cut cycle (R144). -/
def inCutCycle (s : State) : Bool :=
  s.trim.state == .clamping || s.trim.state == .frontCut || s.trim.state == .hfCut || s.trim.state == .eject

/-- Held book changed. -/
def Held.map (f : Book → Book) : Held → Held
  | .none => .none
  | .inside b => .inside (f b)
  | .out b => .out (f b)

/-- The held book's record changed. -/
def modifyHeld (f : Book → Book) (s : State) : State :=
  { s with trim := { s.trim with held := s.trim.held.map f } }

/-- Id of the held book, 0 when none. -/
def heldId (s : State) : TicketId :=
  match heldBook s with
  | some b => b.ticket.id
  | none => 0

/-- An axis record of the trimmer. -/
def axisOf (t : Trimmer) : Axis → AxisRec
  | .front => t.front
  | .foot => t.foot
  | .head => t.head

/-- An axis record replaced. -/
def setAxis (a : Axis) (r : AxisRec) (t : Trimmer) : Trimmer :=
  match a with
  | .front => { t with front := r }
  | .foot => { t with foot := r }
  | .head => { t with head := r }

/-- The three converged flags are set (R142). -/
def allConverged (t : Trimmer) : Bool := t.front.converged && t.foot.converged && t.head.converged

/-- Sum of the three revibrate counts (R141). -/
def revibrateSum (t : Trimmer) : Nat := t.front.revibrate + t.foot.revibrate + t.head.revibrate

/-- Settle time of an axis that has converged since the move time, 0 for the others (R142). -/
def settledSince (a : AxisRec) : Nat := if a.sinceMove then a.settleTime.getD 0 else 0

/-- The trim settle time: 0 with no move commanded, else the largest settle time since the move time, at most
65,535 (R142). -/
def trimSettle (t : Trimmer) : Nat :=
  match t.moveTime with
  | none => 0
  | some _ => min 65535 (max (settledSince t.front) (max (settledSince t.foot) (settledSince t.head)))

/-- CLAMPING begins: a reading or positioning request still at the bus is given up, one that still
waits with it (R142, R156; DESIGN CHOICE, log 44). -/
def beginClamping (s : State) : State :=
  let s := giveUp isTrimWork s
  let settle := trimSettle s.trim
  let s := modifyHeld (fun b => { b with settleTime := some settle })
    { s with trim := { s.trim with settleTimer := .stopped, settleCount := 0 } }
  trimStep .clamping .clamp s

/-- An axis needs a move: its flag is clear, or its current position is unknown or more than 20 micrometres from
the new target (R140). -/
def needsMove (a : AxisRec) (target : Int) : Bool :=
  match a.converged, a.target, a.error with
  | true, some t, some e => decide (20 < |t + e - target|)
  | _, _, _ => true

/-- An axis that moves takes the new target (R140). -/
def commandMove (target : Int) (a : AxisRec) : AxisRec :=
  { a with target := some target, converged := false, window := none, settleTime := none, sinceMove := false }

/-- An axis at the positioning decision: moved when it needs it, kept otherwise. -/
def positionAxis (target : Int) (a : AxisRec) : AxisRec :=
  if needsMove a target then commandMove target a else { a with sinceMove := false }

/-- The target a SET_AXES names for an axis: none when it does not move (R138). -/
def moveTarget (target : Int) (a : AxisRec) : Option Int := if needsMove a target then some target else none

/-- The positioning decision (R140). -/
def positionDecision (s : State) : State :=
  match heldBook s with
  | none => s
  | some b =>
    let (af, ao, ah) := axisTargets b.ticket
    let t := s.trim
    if needsMove t.front af || needsMove t.foot ao || needsMove t.head ah then
      trimRequest (.setAxes (moveTarget af t.front) (moveTarget ao t.foot) (moveTarget ah t.head))
        { s with trim := { t with
          state := .settling, moveTime := none, settleTimer := .stopped
          front := positionAxis af t.front, foot := positionAxis ao t.foot, head := positionAxis ah t.head } }
    else beginClamping { s with trim := { t with moveTime := none } }

/-- The trimmer takes a book at the confirm of its infeed push (R139). -/
def trimTake (b : Book) (s : State) : State :=
  let b := { b with revibrate := some 0 }
  if s.trim.state == .faulted then
    { s with trim := { s.trim with held := .inside (b.withReason .fault) } }
  else
    let t := s.trim
    let s := { s with trim := { t with
      state := .positioning
      held := .inside b
      dest := if b.ticket.sample then .sample else .good
      moveTime := none
      front := { t.front with revibrate := 0 }
      foot := { t.foot with revibrate := 0 }
      head := { t.head with revibrate := 0 } } }
    if s.trim.guardPause then s else positionDecision s

/-- The book is ejected through the present destination: the STEP EJECT is handed over, or waits for the guard
(R144, R147, R148). -/
def beginEject (s : State) : State :=
  let s := { s with trim := { s.trim with exitConfirm := .none } }
  if s.trim.guardPause then { s with trim := { s.trim with state := .eject, stepHeld := true, stepTimer := none } }
  else trimStep .eject (.eject s.trim.dest) s

/-- A step has failed: outside EJECT the book is ejected to reject; in EJECT the destination stays and the trimmer
faults (R145). `timeout` for the step timer's running out, which also sends an ABORT. -/
def stepFailed (timeout : Bool) (s : State) : State :=
  let inEject := s.trim.state == .eject
  let id := heldId s
  let s := giveUp isTrimWork { s with trim := { s.trim with stepTimer := none, settleTimer := .stopped } }
  let s := if timeout then abortTrimmer s else s
  let s := modifyHeld (fun b => b.withReason .trim)
    { s with trim := { s.trim with pendingFault := some .trimmerFault } }
  let s := raiseNotice .trimmerFault id s
  if inEject then trimFault .trimmerFault true s else beginEject { s with trim := { s.trim with dest := .reject } }

/-- The trimmer's entry into IDLE reported to the Delivery Unit (R129, R146). -/
def afterTrimmer (s : State) : State := if s.trim.state == .idle then headDecision s else s

/-- A record held out of the trimmer goes to the done list or waits for room (R132, R146, R147). -/
def trimOut (s : State) : State := writeOrWait .trimmer s

/-- The eject to the good or the sample exit is confirmed (R146). -/
def exitConfirmed (s : State) : State :=
  afterTrimmer (trimOut { s with trim := { s.trim with exitConfirm := .none } })

/-- The held book leaves the trimmer's inside (R136). -/
def Held.toOut : Held → Held
  | .inside b => .out b
  | h => h

/-- The DONE of the STEP EJECT (R146, R147). -/
def ejectDone (s : State) : State :=
  let s := { s with trim := { s.trim with held := s.trim.held.toOut, stepTimer := none } }
  match s.trim.dest with
  | .reject =>
    match s.trim.pendingFault with
    | some c => trimOut (trimFault c true s)
    | none => afterTrimmer (trimOut s)
  | _ =>
    match s.trim.exitConfirm with
    | .early => exitConfirmed s
    | _ => { s with trim := { s.trim with exitConfirm := .window s.clock } }

/-- The STEP that follows the state whose step has ended (R144). -/
def nextStep (s : State) : State :=
  match s.trim.state with
  | .clamping => trimStep .frontCut .front s
  | .frontCut => trimStep .hfCut .headFoot s
  | .hfCut => trimStep .eject (.eject s.trim.dest) { s with trim := { s.trim with exitConfirm := .none } }
  | _ => s

/-- A STEP of the cut cycle is answered DONE: the step timer stops and the next STEP is handed over, or waits for
the guard (R144, R148). -/
def stepDone (s : State) : State :=
  match s.trim.state with
  | .clamping | .frontCut | .hfCut =>
    let s := { s with trim := { s.trim with stepTimer := none } }
    if s.trim.guardPause then { s with trim := { s.trim with stepHeld := true } } else nextStep s
  | .eject => ejectDone s
  | _ => s

/-- The settle timeout: a reading or positioning request still at the bus is given up, one that
still waits with it (R143, R156; DESIGN CHOICE, log 44). -/
def settleTimedOut (s : State) : State :=
  let n := min 2 (s.trim.settleCount + 1)
  let id := heldId s
  let s := giveUp isTrimWork { s with trim := { s.trim with settleTimer := .stopped, settleCount := n } }
  let s := modifyHeld (fun b => b.withReason .trim) s
  let s := if n = 2 then
      raiseNotice .trimSettle id { s with trim := { s.trim with pendingFault := some .trimSettle } }
    else s
  beginEject { s with trim := { s.trim with dest := .reject } }

/-- A reading within the axis band (R137). -/
def inBand (e : Int) : Bool := decide (-20 ≤ e ∧ e ≤ 20)

/-- An axis judged on a new reading (R141). -/
def judgeAxis (now : Time) (e : Int) (a : AxisRec) : AxisRec :=
  let a := { a with error := some e }
  if inBand e then
    if a.converged || a.window.isSome then a else { a with window := some now }
  else if a.converged then
    { a with converged := false, window := none, revibrate := a.revibrate + 1 }
  else { a with window := none }

/-- A READ_AXES answer taken in SETTLING: the three axes are judged, the book's revibrate count follows, and the
next reading is asked for (R140, R141). -/
def axesRead (ef eo eh : Int) (s : State) : State :=
  let t := { s.trim with
    front := judgeAxis s.clock ef s.trim.front
    foot := judgeAxis s.clock eo s.trim.foot
    head := judgeAxis s.clock eh s.trim.head }
  let s := modifyHeld (fun b => { b with revibrate := some (revibrateSum t) }) { s with trim := t }
  trimRequest .readAxes s

/-- An axis whose settle window has run out is converged (R141). -/
def convergeAxis (now : Time) (move : Option Time) (a : AxisRec) : AxisRec :=
  { a with converged := true, window := none, sinceMove := true
           settleTime := move.map fun m => elapsed now m }

/-- The trim guard has come to count as closed: the waiting step is begun (R148). -/
def guardResumed (s : State) : State :=
  let s := { s with trim := { s.trim with guardPause := false } }
  match s.trim.state with
  | .positioning => positionDecision s
  | .settling =>
    if allConverged s.trim then beginClamping s
    else if s.trim.settleTimer == .runOut then settleTimedOut s
    else s
  | .clamping | .frontCut | .hfCut => if s.trim.stepHeld then nextStep s else s
  | .eject => if s.trim.stepHeld then trimStep .eject (.eject s.trim.dest) s else s
  | _ => s

/-- The axes' flags cleared and their windows stopped (R137, R150). -/
def clearFlags (s : State) : State :=
  { s with trim := { s.trim with
    front := { s.trim.front with converged := false, window := none }
    foot := { s.trim.foot with converged := false, window := none }
    head := { s.trim.head with converged := false, window := none } } }

/-- A restart mark from TRIMMER (R150). -/
def trimRestarted (s : State) : State :=
  let s := clearFlags s
  match s.trim.state with
  | .settling | .clamping | .frontCut | .hfCut => stepFailed false s
  | .eject => if ejectInFlight s then stepFailed false s else s
  | _ => s

/-! ## Confirms of the gate and the drop (R125 to R127, R130) -/

/-- The push in flight is confirmed: the head leaves first, its room report with it, then the trimmer takes the book,
then the head decision is made (R130; DESIGN CHOICE, log 43). -/
def pushConfirmed (s : State) : State :=
  match s.dlv.gate with
  | .rejectPush =>
    let s := { s with dlv := { s.dlv with gate := .waitingRoom, gateConfirm := .none } }
    headDecision (writeOrWait .cooling s)
  | .infeedPush =>
    match s.dlv.cooling with
    | b :: _ =>
      let s := removeHead { s with dlv := { s.dlv with gate := .idle, gateConfirm := .none } }
      headDecision (trimTake b s)
    | [] => { s with dlv := { s.dlv with gate := .idle, gateConfirm := .none } }
  | _ => s

/-- A debounced closing of the contact of a push (R130). -/
def pushContact (g : Gate) (s : State) : State :=
  if s.dlv.gate == g then
    match s.dlv.gateConfirm with
    | .window _ => pushConfirmed s
    | _ => { s with dlv := { s.dlv with gateConfirm := .early } }
  else s

/-- COOLING answers the push DONE: confirmed with the early mark held, else the window opens (R130). -/
def pushDone (s : State) : State :=
  match s.dlv.gateConfirm with
  | .early => pushConfirmed s
  | _ => { s with dlv := { s.dlv with gateConfirm := .window s.clock } }

/-- The drop of the book in a clamp is confirmed (R126). The release job that has not ended is the one of the present
job list, also where the watch was opened for the aborted job of an earlier dwell (DESIGN CHOICE, log 54). -/
def dropConfirmed (c : Fin 20) (s : State) : State :=
  match bookIn s c with
  | none => { s with dlv := { s.dlv with dropWatch := .none } }
  | some b =>
    let wasEmpty := s.dlv.cooling.isEmpty
    let s := setBook c none s
    let s := { s with dlv := { s.dlv with
      cooling := s.dlv.cooling ++ [{ b with coolEntry := some s.clock }], dropWatch := .none } }
    let s := match jobAt s .release with
      | some j => if j.ended then s else setOverrun .release 0 (endJob .release .done s)
      | none => s
    let s := redecide false s
    if wasEmpty then headDecision (startHeadTimer s) else s

/-- A release job is in flight and RELEASE's DONE has not been taken (R125). -/
def releaseInFlight (s : State) : Bool :=
  match jobAt s .release with
  | some j => j.inFlight && !j.releaseDone
  | none => false

/-- A debounced closing of DROP_CONFIRM. The end of the dwell comes after the steps of R126, its head decision among
them (R53, R125, R126; DESIGN CHOICE, log 42). With a watch open it is a confirm, also while a later release job is in
flight (DESIGN CHOICE, log 54). -/
def dropContact (s : State) : State :=
  match s.dlv.dropWatch with
  | .opened c _ => dwellCheck (dropConfirmed c s)
  | _ => if releaseInFlight s then { s with dlv := { s.dlv with dropWatch := .early } } else s

/-- RELEASE's DONE: the release time, the limit stopped, and the drop confirmed or its watch opened (R125). A second
DONE for the same book writes its release time again and opens the watch anew (DESIGN CHOICE, log 53). -/
def releaseAnswered (c : Fin 20) (s : State) : State :=
  let s := updateJob .release (fun j => { j with status := .busy, limit := .suspended, releaseDone := true }) s
  let s := match bookIn s c with
    | some b => setBook c (some { b with releaseTime := some s.clock }) s
    | none => s
  match s.dlv.dropWatch with
  | .early => dropConfirmed c s
  | _ => { s with dlv := { s.dlv with dropWatch := .opened c s.clock } }

/-- The drop window has run out: the book is lost (R127). -/
def dropLost (c : Fin 20) (s : State) : State :=
  match bookIn s c with
  | none => { s with dlv := { s.dlv with dropWatch := .none } }
  | some b =>
    let s := setReason c .fault { s with dlv := { s.dlv with dropWatch := .none } }
    let s := if doneRoom s then redecide false (writeHolder (.clamp c) s) else writeOrWait (.clamp c) s
    raiseNotice .bookLost b.ticket.id (lineFault .bookLost s)

end Sys2Proof.Machine
end

