-- ==== Sys2Proof/Machine/GlueCtl.lean ====
section
/-! DEFINITION. The Glue Unit (R74 to R79) and what the Line Controller does with its reports (R104, R110,
R114). -/

namespace Sys2Proof.Machine

/-- A reading lies in the working band: within 3 degrees of the working temperature (R77). -/
def inWorkingBand (t work : Nat) : Bool := decide (t ≤ work + 3 ∧ work ≤ t + 3)

/-- OUT_OF_BAND is reported to the Line Controller: GLUE_TEMP in RUNNING and HELD, and in DRAINING only with a
loaded book that carries no reason, each with its notice (R110). -/
def lineOutOfBand (s : State) : State :=
  let takes := s.line.state == .running || s.line.state == .held
    || (s.line.state == .draining && anyUnrejected s)
  if takes then raiseNotice .glueTemp 3 (lineHold .glueTemp s) else s

/-- The at-temperature condition after a reading (R77). -/
def potAfterReading (now : Time) (t work : Nat) (g : GlueUnit) : GlueUnit :=
  if inWorkingBand t work then
    if g.cond == .notAtTemp then { g with cond := .settling, window := some now } else g
  else { g with cond := .notAtTemp, window := none }

/-- The out-of-band condition is tested against the latest reading while the target is the working temperature,
and a change to OUT_OF_BAND is reported (R78). -/
def testBand (s : State) : State :=
  if s.glue.target.isWorking then
    let oob := outOfBandOf s.glue.reading s.settings.workTemp
    let t := { s with glue := { s.glue with outOfBand := oob } }
    if oob && !s.glue.outOfBand then lineOutOfBand t else t
  else s

/-- A reported temperature is taken as the latest reading, and both conditions are tested (R76). -/
def glueReading (t : Nat) (s : State) : State :=
  testBand { s with glue :=
    { potAfterReading s.clock t s.settings.workTemp s.glue with reading := some t } }

/-- GLUE is LOST: the reading is unknown, the window stops, the pot is NOT_AT_TEMP, and an unknown reading is
out of band (R76, R78). -/
def glueLost (s : State) : State :=
  testBand { s with glue := { s.glue with reading := none, window := none, cond := .notAtTemp } }

/-- The settling window has run out: AT_TEMP, reported to the Line Controller, which leaves WARMING for RUNNING
or makes the drain release test (R77, R104, R114). -/
def glueSettled (s : State) : State :=
  let s := { s with glue := { s.glue with cond := .atTemp, window := none } }
  if s.line.state == .warming then tellCarousel (enterRunning s) else drainReleaseTest s

/-- The pot target with new settings, of the same kind (R79). -/
def retarget (c : Settings) : PotTarget → PotTarget
  | .off => .off
  | .working _ => .working c.workTemp
  | .standby _ => .standby (c.workTemp - c.standbyDrop)

/-- The settings are replaced. A new working temperature stops the window, makes the pot NOT_AT_TEMP and tests
the band at once; the target follows in both cases (R79, R180). -/
def replaceSettings (c : Settings) (s : State) : State :=
  let changed := c.workTemp != s.settings.workTemp
  let g := { s.glue with target := retarget c s.glue.target }
  if changed then
    testBand { s with settings := c, glue := { g with cond := .notAtTemp, window := none } }
  else { s with settings := c, glue := g }

end Sys2Proof.Machine
end

