-- ==== Sys2Proof/Machine/JobCtl.lean ====
section
/-! DEFINITION. What the endings of the jobs do (R44, R50, R51, R61 to R73, R84 to R98, R124, R125), and the
taking of a group node's job statuses. -/

namespace Sys2Proof.Machine

/-! ## Counts and failures -/

/-- An overrun, or a FAILED release: the station's count rises, and at 2 the line faults with STATION_OVERRUN
(R51). -/
def stationOverrun (st : Station) (s : State) : State :=
  let n := min 2 (s.car.overruns[stationIdx st] + 1)
  let s := setOverrun st n s
  if n = 2 then
    raiseNotice .stationOverrun (BitVec.ofNat 32 (nodeAddr (stationNode st))) (lineFault .stationOverrun s)
  else s

/-- One attempt of a draw: a match sets the mismatch count to 0, anything else raises it (R83, R86). -/
def countAttempt (n : Nat) : Attempt → Nat
  | .hit => 0
  | .mismatch _ | .unreadable => min 2 (n + 1)

/-- The mismatch count after a draw's attempts, in their order (R86). -/
def countAttempts (n : Nat) (l : List Attempt) : Nat := l.foldl countAttempt n

/-- The attempts bring the count to 2: COVER_SEQUENCE is reported, with its notice (R87). -/
def coverSequence (id : TicketId) (attempts : List Attempt) (s : State) : State :=
  if !attempts.isEmpty && s.cover.mismatch == 2 then
    raiseNotice .coverSequence id (lineHold .coverSequence s)
  else s

/-- Ticket id a job carries, 0 for none. -/
def Job.id (j : Job) : TicketId := j.item.ticket.getD 0

/-- A job ends FAILED, with the outcomes of a draw's attempts (R12, R44, R50, R51, R69, R71, R72, R88, R94, R97,
R125). -/
def jobFailed (attempts : List Attempt) (j : Job) (s : State) : State :=
  let st := j.item.station
  let c := j.item.clamp
  let s := endJob st .failed s
  match st with
  | .load =>
    let s := setOverrun st 0 s
    if j.openLoad then dropReservation s else s
  | .mill | .spine | .side | .nip => setReason c .station (setOverrun st 0 s)
  | .draw =>
    let s := setOverrun st 0 { s with cover := { s.cover with mismatch := countAttempts s.cover.mismatch attempts } }
    let s := setReason c (if !attempts.isEmpty && s.cover.mismatch == 2 then .cover else .station) s
    coverSequence j.id attempts s
  | .apply => setReason c .station (removeEntry (setOverrun st 0 s))
  | .release => stationOverrun st (discardEarly s)

/-- A job overrun: ABORT to its node, ABORTED, reason STATION for its book, the count raised; a load drops its
reservation, an apply its entry, a release an EARLY mark (R51, R67, R94, R125). -/
def jobOverran (j : Job) (s : State) : State :=
  let st := j.item.station
  let c := j.item.clamp
  let s := endJob st .aborted (abortStation st s)
  let s := match st with
    | .load => if j.openLoad then dropReservation s else s
    | .apply => setReason c .station (removeEntry s)
    | .release => setReason c .station (discardEarly s)
    | _ => setReason c .station s
  stationOverrun st s

/-! ## Results -/

/-- LOADED: the six steps of R63. With the clamp already loaded or no ticket queued, which the part's rules
exclude, no record is made and the reservation is dropped (log 23). -/
def loadedResult (gap : BitVec 16) (c : Fin 20) (s : State) : State :=
  match s.tickets.queue with
  | [] => dropReservation s
  | t :: rest =>
    if loadedAt s c then dropReservation s
    else
      let book := loadedBook t s.profiles[t.profile].fields c gap (clampRec s c).zero s.clock
      let before := s.tickets.queue.length
      let s := setBook c (some book) { s with tickets := ⟨rest, false⟩ }
      let s := { s with dlv := { s.dlv with loaded := s.dlv.loaded + 1 }
                        car := { s.car with diverts := 0 } }
      afterRemoval before s

/-- MISMATCH or UNREADABLE: the reservation is dropped and the divert count raised; at 3 INFEED_SEQUENCE is
reported, with the head ticket in its notice (R64, R65). -/
def loadDiverted (s : State) : State :=
  let n := min 3 (s.car.diverts + 1)
  let head := match s.tickets.queue with
    | t :: _ => t.id
    | [] => 0
  let s := dropReservation { s with car := { s.car with diverts := n } }
  if n = 3 then raiseNotice .infeedSequence head (lineHold .infeedSequence s) else s

/-- Zero learning's reading: beyond 800 micrometres the clamp becomes SUSPECT, else its offset is moved (R44,
R45). -/
def learned (gap : BitVec 16) (c : Fin 20) (s : State) : State :=
  let j := gap.toInt
  let k := clampRec s c
  if 800 < |j| then raiseNotice .clampSuspect (BitVec.ofNat 32 c.val) (setClamp c { k with mark := .suspect } s)
  else setClamp c { k with zero := learnedOffset k.zero j } s

/-- The result of a load or zero-learning job is one of its own kind (R61, R43). -/
def loadResultFits (p : JobParams) (r : JobResult) : Bool :=
  match p, r with
  | .load _ _, .loaded _ | .load _ _, .mismatch _ | .load _ _, .unreadable | .load _ _, .noBlock => true
  | .learn, .gap _ => true
  | _, _ => false

/-- The DONE of a load or zero-learning job (R44, R63, R64, R66). -/
def loadDone (r : JobResult) (j : Job) (s : State) : State :=
  if loadResultFits j.item.params r then
    let s := setOverrun .load 0 (endJob .load .done s)
    match r with
    | .loaded gap => loadedResult gap j.item.clamp s
    | .mismatch _ | .unreadable => loadDiverted s
    | .noBlock => dropReservation s
    | .gap g => learned g j.item.clamp s
    | .plain | .draw _ => s
  else s

/-- The DONE of a draw: an empty list of attempts, or one longer than allowed, counts as FAILED with no
outcomes; otherwise the outcomes are counted, and a KEEP appends its entry on a match or gives COVER (R86,
R87). -/
def drawDone (attempts : List Attempt) (j : Job) (s : State) : State :=
  match j.item.params with
  | .draw form _ allowed _ =>
    match attempts.getLast? with
    | none => jobFailed [] j s
    | some last =>
      if allowed < attempts.length then jobFailed [] j s
      else
        let s := setOverrun .draw 0 (endJob .draw .done s)
        let s := { s with cover := { s.cover with mismatch := countAttempts s.cover.mismatch attempts } }
        let s := match form with
          | .keep =>
            if last == .hit then
              { s with cover := { s.cover with entries := s.cover.entries ++ [⟨j.item.clamp, j.id⟩] } }
            else setReason j.item.clamp .cover s
          | .divert => s
        coverSequence j.id attempts s
  | _ => s

/-- The form of an apply job (R93). -/
def isApply : JobParams → Bool
  | .apply .apply => true
  | _ => false

/-- The attempts that a DONE of a draw carries; a result of another kind carries none (R85, R86). -/
def drawnAttempts : JobResult → List Attempt
  | .draw l => l
  | _ => []

/-- A job is answered DONE (R50, R61, R69 to R72, R86, R94, R97, R125). A load result of another job's kind is
discarded (log 22). -/
def jobDone (r : JobResult) (j : Job) (s : State) : State :=
  let c := j.item.clamp
  match j.item.station with
  | .load => loadDone r j s
  | .mill => setOverrun .mill 0 (endJob .mill .done s)
  | .spine =>
    let s := setOverrun .spine 0 (endJob .spine .done s)
    match bookIn s c with
    | some b => setBook c (some { b with glueTime := some s.clock }) s
    | none => s
  | .side => setOverrun .side 0 (endJob .side .done s)
  | .draw => drawDone (drawnAttempts r) j s
  | .apply =>
    let s := removeEntry (setOverrun .apply 0 (endJob .apply .done s))
    if isApply j.item.params then
      match bookIn s c with
      | some b => setBook c (some { b with coverTime := some s.clock }) s
      | none => s
    else s
  | .nip => setOverrun .nip 0 (endJob .nip .done s)
  | .release => releaseAnswered c s

/-! ## Slot answers (R50, R154) -/

/-- A repeat WORK for the job already waits (R154). -/
def repeatWaits (s : State) (j : Job) : Bool :=
  s.bus.carQ.any fun f => match f with
    | .work tag items true => tag == s.car.tag && items.any fun i => i.station == j.item.station
    | _ => false

/-- NO_JOB: a repeat WORK for an ISSUED job, the end of a BUSY one (R154). -/
def noJob (j : Job) (s : State) : State :=
  if j.status == .busy then jobFailed [] j s
  else if repeatWaits s j then s
  else handOver (.work s.car.tag [j.item] true) s

/-- What the slot answer says of a station; saying nothing is NO_JOB (R154). -/
def answerFor (jobs : List (Station × JobAnswer)) (st : Station) : JobAnswer :=
  match jobs.find? fun e => e.1 == st with
  | some e => e.2
  | none => .noJob

/-- One job's status is taken; a job that is not in flight, or whose release is already answered, discards it
(R50, R125, R154). -/
def takeStatus (jobs : List (Station × JobAnswer)) (st : Station) (s : State) : State :=
  match jobAt s st with
  | none => s
  | some j =>
    if s.car.state != .dwelling || !j.inFlight || j.releaseDone then s
    else
      match answerFor jobs st with
      | .busy => updateJob st (fun j => { j with status := .busy }) s
      | .done r => jobDone r j s
      | .failed attempts => jobFailed attempts j s
      | .noJob => noJob j s

/-- The stations a group node works (9.1). -/
def nodeStations : NodeId → List Station
  | .loader => [.load] | .mill => [.mill] | .glue => [.spine, .side] | .cover => [.draw, .apply]
  | .nip => [.nip] | .release => [.release] | .drive | .cooling | .trimmer => []

/-- A group node's job statuses, taken station by station when they are of the present dwell (R50, R154). -/
def takeJobs (tag : Byte) (n : NodeId) (jobs : List (Station × JobAnswer)) (s : State) : State :=
  if tag == s.car.tag then (nodeStations n).foldl (fun s st => takeStatus jobs st s) s else s

end Sys2Proof.Machine
end

