-- ==== Sys2Proof/Machine/NodeCtl.lean ====
section
/-! DEFINITION. The node table at work: answers, restart marks, misses and losses (R152, R157 to R160), and the
end of start-up (R101, R186). -/

namespace Sys2Proof.Machine

/-! ## Start-up (R101, R186) -/

/-- Told both that the load and that the probes are done, the line enters PARKED, and the cadences of the POLL
rounds and of the recovery probes begin (R101, R155, R159, R186). -/
def startUpCheck (s : State) : State :=
  if s.line.state == .starting && s.line.loadDone && s.line.probesDone then
    let s := enterParked s
    { s with bus := { s.bus with pollOn := true, pollBase := s.clock, lastPoll := s.clock, probeBase := s.clock } }
  else s

/-- A start-up probe has ended; with the ninth the Line Controller is told (R159). -/
def probeEnded (s : State) : State :=
  let n := s.bus.probesLeft - 1
  let s := { s with bus := { s.bus with probesLeft := n } }
  if n = 0 then startUpCheck { s with line := { s.line with probesDone := true } } else s

/-- DRIVE's start-up answer gives the phase: the carousel is STANDING with the worked mark clear (R37, R46). -/
def phaseFromProbe (q : Fin 20) (s : State) : State :=
  if s.car.state == .unhomed then
    { s with car := { s.car with phase := some q, phaseKnown := true, state := .standing, worked := false } }
  else s

/-! ## Restarts (R160) -/

/-- A job of the node that a restart ends: not ended, and no release whose DONE has been taken (R160). -/
def restartEnds (n : NodeId) (j : Job) : Bool :=
  stationNode j.item.station == n && !j.ended && !j.releaseDone

/-- The job of a station ends FAILED by its node's restart. A WORK that waits for the bus is left as it stands, the job
still in it (R160; DESIGN CHOICE, log 47). -/
def restartJob (n : NodeId) (st : Station) (s : State) : State :=
  match jobAt s st with
  | some j => if restartEnds n j then jobFailed [] j s else s
  | none => s

/-- The work of a restarted node ends (R160). -/
def restartWork (n : NodeId) (s : State) : State :=
  match n with
  | .drive => if s.car.state == .indexing || s.car.state == .homing then moveFailed s else s
  | .cooling =>
    match s.dlv.gateConfirm with
    | .window _ => s
    | _ => if pushing s then pushLost s else s
  | .trimmer => trimRestarted s
  | _ => (nodeStations n).foldl (fun s st => restartJob n st s) s

/-- A restart mark is taken: on an acknowledgement none it raises the count, sets the acknowledgement pending and
ends the node's work (R160). -/
def takeRestart (n : NodeId) (s : State) : State :=
  let r := nodeRec s n
  if r.ackPending then s
  else restartWork n (setNode n { r with restarts := min 255 (r.restarts + 1), ackPending := true } s)

/-! ## Answers and misses (R152, R157, R158) -/

/-- An answer is taken from a node: PRESENT with its miss count 0, then its restart mark, then COOLING's presence
told to the Delivery Unit (R129, R152, R160, log 14). -/
def nodeAnswered (n : NodeId) (restarted : Bool) (s : State) : State :=
  let newly := !present s n
  let s := setNode n { nodeRec s n with state := .present, misses := 0, lastAnswer := s.clock } s
  let s := if restarted then takeRestart n s else s
  if newly && n == .cooling then headDecision s else s

/-- A repeat WORK for jobs of the node (R158). -/
def isRepeatFor (n : NodeId) : Frame → Bool
  | .work _ items true => items.any fun i => stationNode i.station == n
  | _ => false

/-- The loss of a node as its owners take it (R76, R118, R131, R149, R158): the Line Controller or the Trimmer
Controller first, then the Glue Unit or the Delivery Unit (DESIGN CHOICE, log 55). -/
def lossReported (n : NodeId) (s : State) : State :=
  match n with
  | .cooling =>
    let s := trimFault .nodeLost true s
    if pushing s then pushLost s else s
  | .trimmer => trimFault .nodeLost false s
  | .glue => glueLost (lineFault .nodeLost s)
  | _ => lineFault .nodeLost s

/-- A node becomes LOST (R158). -/
def nodeLost (n : NodeId) (s : State) : State :=
  let s := setNode n { nodeRec s n with state := .lost, misses := 3 } s
  let s := giveUp (fun r => r.node == n) s
  let s := { s with bus := { s.bus with carQ := s.bus.carQ.filter fun f => !isRepeatFor n f } }
  lossReported n (raiseNotice .nodeLost (BitVec.ofNat 32 (nodeAddr n)) s)

/-- A miss is counted for a PRESENT node; the third makes it LOST (R157, R158). -/
def nodeMiss (n : NodeId) (s : State) : State :=
  let r := nodeRec s n
  if r.state == .present then
    if r.misses + 1 < 3 then setNode n { r with misses := r.misses + 1 } s else nodeLost n s
  else s

/-! ## Answers to addressed requests (R153, R156) -/

/-- A frame received from a node: one whose check fails is discarded and counts as no answer (R153). -/
def received (checkOk : Bool) (take : State → State) (s : State) : State := if checkOk then take s else s

/-- The reply window of a request sent at a time is still open (R153; DESIGN CHOICE, log 39). -/
def windowOpen (now sent : Time) : Bool := decide (elapsed now sent ≤ Config.replyWindow)

/-- An answer to an addressed request of the node and kind is taken when that request is on the bus with its
number and its reply window is open; any other counts as no answer (R153). The node's record follows, a new restart
mark completes the request, an answer to a request given up is discarded by its owner only (DEDUCED, log 46), BUSY
makes it wait, and a final answer goes to the owner. The transaction then ends (R156, R160). -/
def takeAnswer (n : NodeId) (fits : ReqKind → Bool) (seq : Byte) (busy restarted : Bool)
    (act : ReqKind → State → State) (s : State) : State :=
  match s.bus.current with
  | some (.request r given sent) =>
    if r.node == n && fits r.kind && r.seq == some seq && windowOpen s.clock sent then
      let fresh := restarted && !(nodeRec s n).ackPending
      let s := nodeAnswered n restarted s
      let s :=
        if given || fresh then s
        else if busy then { s with bus := { s.bus with busyWait := s.bus.busyWait ++ [(r, s.clock)] } }
        else act r.kind s
      endTransaction s
    else s
  | _ => s

end Sys2Proof.Machine
end

