-- ==== Sys2Proof/Machine/BusEvents.lean ====
section
/-! DEFINITION. The commands of the station bus: POLL rounds and their slots, the answers to addressed requests,
closed reply windows, and the cadences of repeats, NODE_STATUS and recovery probes (chapter 9). -/

namespace Sys2Proof.Machine

/-! ## POLL rounds (R153, R155, R157) -/

/-- A POLL round waits at the carousel requester. -/
def pollWaits (b : Bus) : Bool := b.carQ.any fun f => match f with
  | .poll => true
  | _ => false

/-- Length of the present cadence (R155). -/
def cadence (b : Bus) : Nat := if b.fast then Config.pollFast else Config.pollSlow

/-- A POLL round falls due and joins the carousel requester unless one still waits (R155). Not due, it has no
effect (log 2). -/
def pollRoundDue (s : State) : State :=
  if s.bus.pollOn && due s.clock s.bus.pollBase (cadence s.bus) then
    let s := { s with bus := { s.bus with pollBase := s.bus.pollBase + BitVec.ofNat 32 (cadence s.bus) } }
    if pollWaits s.bus then s else handOver .poll s
  else s

/-- The slot closes: the next slot of the round follows (R153). -/
def slotClosed (s : State) : State :=
  match s.bus.current with
  | some (.poll tag slot) => { s with bus := { s.bus with current := some (.poll tag (slot + 1)) } }
  | _ => s

/-- GLUE's temperature, in each answer it gives to a POLL (R76). -/
def slotTemp (n : NodeId) (temp : Option Nat) (s : State) : State :=
  match n, temp with
  | .glue, some t => glueReading t s
  | _, _ => s

/-- A group node's answer in its slot: the node's record and restart mark, its jobs, GLUE's temperature, and the
dwell end when every job has ended (R50, R53, R76, R154, R155, R160, log 6). An answer in another node's slot
counts as none (R153). -/
def slotAnswered (n : NodeId) (jobs : List (Station × JobAnswer)) (temp : Option Nat) (restarted : Bool)
    (s : State) : State :=
  match s.bus.current with
  | some (.poll tag slot) =>
    if slotNode slot == some n then
      slotClosed (dwellCheck (slotTemp n temp (takeJobs tag n jobs (nodeAnswered n restarted s))))
    else s
  | _ => s

/-- A slot closes empty: a miss for a PRESENT node (R157). -/
def slotMissed (s : State) : State :=
  match s.bus.current with
  | some (.poll _ slot) =>
    match slotNode slot with
    | some n => slotClosed (nodeMiss n s)
    | none => s
  | _ => s

/-- The last slot has closed: the round ends and the bus is granted (R153, R162). -/
def roundEnded (s : State) : State :=
  match s.bus.current with
  | some (.poll _ slot) => if slotNode slot == none then endTransaction s else s
  | _ => s

/-! ## Owners of the final answers -/

/-- INDEX is answered: DONE completes it, FAILED interrupts it (R55, R56). -/
def indexAnswered (a : Answer) (s : State) : State :=
  if s.car.state == .indexing then
    match a with
    | .done => indexDone s
    | .failed => moveFailed s
    | .busy => s
  else s

/-- HOME is answered: DONE sets the phase, FAILED fails the homing (R59, R60). -/
def homeAnswered (a : HomeAnswer) (s : State) : State :=
  if s.car.state == .homing then
    match a with
    | .done q => homeDone q s
    | .failed => moveFailed s
    | .busy => s
  else s

/-- A push is answered: DONE confirms it or opens its window, FAILED loses it (R130, R131). -/
def pushAnswered (a : Answer) (s : State) : State :=
  if pushing s then
    match a with
    | .done => pushDone s
    | .failed => pushLost s
    | .busy => s
  else s

/-- SET_AXES is answered: DONE hands over the first READ_AXES, FAILED is a step failure (R140, R145). -/
def setAxesAnswered (a : Answer) (s : State) : State :=
  if s.trim.state == .settling then
    match a with
    | .done => trimRequest .readAxes s
    | .failed => stepFailed false s
    | .busy => s
  else s

/-- READ_AXES is answered: the axes are judged while the trimmer is SETTLING (R141). -/
def readAxesAnswered (a : AxesAnswer) (s : State) : State :=
  match s.trim.state, a with
  | .settling, .errors f o h => axesRead f o h s
  | _, _ => s

/-- A STEP is answered: DONE ends it, FAILED is a step failure (R144, R145). -/
def stepAnswered (a : Answer) (s : State) : State :=
  if inCutCycle s then
    match a with
    | .done => stepDone s
    | .failed => stepFailed false s
    | .busy => s
  else s

/-- A PROBE is answered: a start-up PROBE of DRIVE gives the phase, and the end of a start-up PROBE counts
(R37, R159). -/
def probeAnswered (n : NodeId) (position : Option (Fin 20)) (k : ReqKind) (s : State) : State :=
  match k with
  | .probe true =>
    probeEnded (match n, position with
      | .drive, some q => phaseFromProbe q s
      | _, _ => s)
  | _ => s

/-! ## Closed reply windows (R157, R159) -/

/-- A PROBE sent to a node that is ABSENT or LOST, or a start-up PROBE: not offered again (R157, R159). -/
def probeOnce (s : State) (r : Request) : Bool :=
  match r.kind with
  | .probe startup => startup || !present s r.node
  | _ => false

/-- An unanswered request is offered again unless it has been given up (R157). -/
def offerAgain (s : State) : State :=
  match s.bus.current with
  | some (.request r false _) => { s with bus := s.bus.requeue (.req r) }
  | _ => s

/-- An addressed request's reply window, 2 ms after its sending, closes with no answer (R153, R157, R159;
DESIGN CHOICE, log 39). Not due, it has no effect (log 2). -/
def windowClosed (s : State) : State :=
  match s.bus.current with
  | some (.request r _ sent) =>
    if !due s.clock sent Config.replyWindow then s
    else if probeOnce s r then
      endTransaction (match r.kind with
        | .probe true => probeEnded s
        | _ => s)
    else endTransaction (offerAgain (nodeMiss r.node s))
  | _ => s

/-! ## Cadences (R156, R159, R161) -/

/-- A waiting BUSY request of the node that has waited its 5 ms (R156). -/
def repeatDue (now : Time) (n : NodeId) (e : Request × Time) : Bool :=
  e.1.node == n && due now e.2 Config.busyGap

/-- 5 ms after a BUSY the request is due again, with its number (R156). -/
def requestRepeat (n : NodeId) (s : State) : State :=
  match s.bus.busyWait.find? (repeatDue s.clock n) with
  | some e =>
    busPump { s with bus := { s.bus with busyWait := s.bus.busyWait.erase e }.requeue (.req e.1) }
  | none => s

/-- PROBE. -/
def isProbe : ReqKind → Bool
  | .probe _ => true
  | _ => false

/-- The node's requester holds a request for it: waiting, waiting after a BUSY, or on the bus and not given up. A PROBE
is the probe requester's (R156, R161, R162). -/
def holdsRequest (b : Bus) (n : NodeId) : Bool :=
  let p := fun r : Request => r.node == n && !isProbe r.kind
  b.carQ.any (frameReq p) || b.trimQ.any (frameReq p) || b.coolQ.any (frameReq p)
    || b.busyWait.any (fun e => p e.1)
    || match b.current with
      | some (.request r givenUp _) => p r && !givenUp
      | _ => false

/-- A NODE_STATUS is handed over to a silent PRESENT node 7, 8 or 9 with no other request (R161). -/
def statusDue (n : NodeId) (s : State) : State :=
  if !isGroup n && present s n && due s.clock (nodeRec s n).lastAnswer Config.statusGap
      && !holdsRequest s.bus n then
    handRequest n .nodeStatus s
  else s

/-- A recovery PROBE for the node, ABSENT or LOST, is handed over unless one waits (R159). -/
def probeNode (s : State) (n : NodeId) : State :=
  if present s n || s.bus.probeQ.any (frameReq fun r => r.node == n) then s
  else handRequest n (.probe false) s

/-- The second of the recovery probes falls due (R159). -/
def recoveryProbes (s : State) : State :=
  if s.line.state != .starting && due s.clock s.bus.probeBase Config.probeGap then
    allNodes.foldl probeNode
      { s with bus := { s.bus with probeBase := s.bus.probeBase + BitVec.ofNat 32 Config.probeGap } }
  else s

/-! ## The meanings -/

/-- POLL_ROUND_DUE (R155). -/
def execPollRoundDue (s : State) : Host.Outcome State Fault Refusal := .next (live pollRoundDue s)

/-- SLOT_ANSWER (R50). -/
def execSlotAnswer (node : NodeId) (jobs : List (Station × JobAnswer)) (temp : Option Nat) (marks : FrameMarks)
    (s : State) : Host.Outcome State Fault Refusal :=
  .next (live (received marks.checkOk (slotAnswered node jobs temp marks.restarted)) s)

/-- SLOT_EMPTY (R157). -/
def execSlotEmpty (s : State) : Host.Outcome State Fault Refusal := .next (live slotMissed s)

/-- POLL_ROUND_END (R153). -/
def execPollRoundEnd (s : State) : Host.Outcome State Fault Refusal := .next (live roundEnded s)

/-- INDEX_ANSWER (R55, R56). -/
def execIndexAnswer (seq : Byte) (answer : Answer) (marks : FrameMarks) (s : State) :
    Host.Outcome State Fault Refusal :=
  .next (live (received marks.checkOk (takeAnswer .drive (· == .index) seq (answer == .busy) marks.restarted
    (fun _ => indexAnswered answer))) s)

/-- HOME_ANSWER (R59, R60). -/
def execHomeAnswer (seq : Byte) (answer : HomeAnswer) (marks : FrameMarks) (s : State) :
    Host.Outcome State Fault Refusal :=
  .next (live (received marks.checkOk (takeAnswer .drive (· == .home) seq (answer == .busy) marks.restarted
    (fun _ => homeAnswered answer))) s)

/-- PUSH_ANSWER (R130, R131). -/
def execPushAnswer (seq : Byte) (answer : Answer) (marks : FrameMarks) (s : State) :
    Host.Outcome State Fault Refusal :=
  .next (live (received marks.checkOk (takeAnswer .cooling isPush seq (answer == .busy) marks.restarted
    (fun _ => pushAnswered answer))) s)

/-- SET_AXES. -/
def isSetAxes : ReqKind → Bool
  | .setAxes _ _ _ => true
  | _ => false

/-- SET_AXES_ANSWER (R140). -/
def execSetAxesAnswer (seq : Byte) (answer : Answer) (marks : FrameMarks) (s : State) :
    Host.Outcome State Fault Refusal :=
  .next (live (received marks.checkOk (takeAnswer .trimmer isSetAxes seq (answer == .busy) marks.restarted
    (fun _ => setAxesAnswered answer))) s)

/-- READ_AXES_ANSWER (R141). -/
def execReadAxesAnswer (seq : Byte) (answer : AxesAnswer) (marks : FrameMarks) (s : State) :
    Host.Outcome State Fault Refusal :=
  .next (live (received marks.checkOk (takeAnswer .trimmer (· == .readAxes) seq (answer == .busy) marks.restarted
    (fun _ => readAxesAnswered answer))) s)

/-- STEP. -/
def isStep : ReqKind → Bool
  | .step _ => true
  | _ => false

/-- STEP_ANSWER (R144, R145). -/
def execStepAnswer (seq : Byte) (answer : Answer) (marks : FrameMarks) (s : State) :
    Host.Outcome State Fault Refusal :=
  .next (live (received marks.checkOk (takeAnswer .trimmer isStep seq (answer == .busy) marks.restarted
    (fun _ => stepAnswered answer))) s)

/-- NODE_STATUS_ANSWER (R161). -/
def execNodeStatusAnswer (node : NodeId) (seq : Byte) (marks : FrameMarks) (s : State) :
    Host.Outcome State Fault Refusal :=
  .next (live (received marks.checkOk (takeAnswer node (· == .nodeStatus) seq false marks.restarted (fun _ s => s))) s)

/-- An answer to a PROBE, in its reply window. A restart mark does not take back the presence, the end of the start-up
PROBE or the position, and it may end the last job of a dwell (R53, R153, R159, R160). -/
def probeAnswer (node : NodeId) (seq : Byte) (position : Option (Fin 20)) (restarted : Bool) (s : State) :
    State :=
  match s.bus.current with
  | some (.request r _ sent) =>
    if r.node == node && isProbe r.kind && r.seq == some seq && windowOpen s.clock sent then
      let s := probeAnswered node position r.kind (nodeAnswered node restarted s)
      endTransaction (if restarted then dwellCheck s else s)
    else s
  | _ => s

/-- PROBE_ANSWER (R159). -/
def execProbeAnswer (node : NodeId) (seq : Byte) (position : Option (Fin 20)) (marks : FrameMarks) (s : State) :
    Host.Outcome State Fault Refusal :=
  .next (live (received marks.checkOk (probeAnswer node seq position marks.restarted)) s)

/-- REPLY_WINDOW_CLOSED (R157). -/
def execReplyWindowClosed (s : State) : Host.Outcome State Fault Refusal := .next (live windowClosed s)

/-- REQUEST_REPEAT_DUE (R156). -/
def execRequestRepeatDue (node : NodeId) (s : State) : Host.Outcome State Fault Refusal :=
  .next (live (requestRepeat node) s)

/-- NODE_STATUS_DUE (R161). -/
def execNodeStatusDue (node : NodeId) (s : State) : Host.Outcome State Fault Refusal :=
  .next (live (statusDue node) s)

/-- RECOVERY_PROBE_DUE (R159). -/
def execRecoveryProbeDue (s : State) : Host.Outcome State Fault Refusal := .next (live recoveryProbes s)

end Sys2Proof.Machine
end

