-- ==== Sys2Proof/Machine/ContactEvents.lean ====
section
/-! DEFINITION. The Contact Scanner's pass (R165 to R168), what the owners do with the changes (R169), and the
e-stop input (R171). -/

namespace Sys2Proof.Machine

/-! ## The pass (R165 to R168) -/

/-- Contact number of a crossing (R165). -/
def crossing (drive sense : Fin 8) : Fin 64 := ⟨8 * drive.val + sense.val, by omega⟩

/-- Drive line of a contact (R165). -/
def driveOf (i : Fin 64) : Fin 8 := ⟨i.val / 8, by omega⟩

/-- Sense line of a contact (R165). -/
def senseOf (i : Fin 64) : Fin 8 := ⟨i.val % 8, by omega⟩

/-- A contact is debounced-CLOSED and not UNCERTAIN (R167). -/
def certainClosed (v : Vector Contact 64) (i : Fin 64) : Bool := v[i].closed && !v[i].uncertain

/-- The other three corners of a rectangle of contact `i`, with drive line `c` and sense line `d`, are all
debounced-CLOSED and none UNCERTAIN (R167). -/
def ghostCorner (v : Vector Contact 64) (i : Fin 64) (c d : Fin 8) : Bool :=
  c != driveOf i && d != senseOf i && certainClosed v (crossing (driveOf i) d)
    && certainClosed v (crossing c (senseOf i)) && certainClosed v (crossing c d)

/-- Some rectangle of the contact has its other three corners closed (R167). -/
def ghosted (v : Vector Contact 64) (i : Fin 64) : Bool :=
  (List.finRange 8).any fun c => (List.finRange 8).any fun d => ghostCorner v i c d

/-- A contact not UNCERTAIN is debounced with its reading (R166); the first scan takes the reading at once
(R168). -/
def debounced (first r : Bool) (k : Contact) : Contact :=
  if first then ⟨some r, r, 0, false⟩
  else if r == k.closed then ⟨some r, k.closed, 0, false⟩
  else if k.count + 1 < 3 then ⟨some r, k.closed, k.count + 1, false⟩
  else ⟨some r, r, 0, false⟩

/-- A contact as the pass leaves it: UNCERTAIN keeps its state with its count 0 (R166, R167). -/
def judged (first : Bool) (readings : BitVec 64) (v : Vector Contact 64) (i : Fin 64) : Contact :=
  let r := readings.getLsbD i.val
  if ghosted v i then { v[i] with reading := some r, count := 0, uncertain := true }
  else debounced first r v[i]

/-- The pass over some contacts in order, each judged against what the earlier ones were left with (R165). -/
def scanPass (first : Bool) (readings : BitVec 64) (l : List (Fin 64)) (v : Vector Contact 64) :
    Vector Contact 64 :=
  l.foldl (fun w i => w.set i.val (judged first readings w i)) v

/-- Contacts with an owner (R169). -/
def owned : List (Fin 64) := [0, 1, 3, 4, 5, 6, 8, 9, 10, 16, 17, 18, 19, 20, 21, 22, 24, 25]

/-- The guards, whose ghosts are reported (R167). -/
def guards : List (Fin 64) := [16, 17, 18, 19, 20, 21, 22]

/-- The changes a pass hands to the owners, in contact order: the debounced changes, and after the first scan the
state of every owned contact; true for a closing (R166, R168). -/
def handedChanges (first : Bool) (old new : Vector Contact 64) : List (Fin 64 × Bool) :=
  (owned.filter fun i => first || new[i].closed != old[i].closed).map fun i =>
    (i, new[i].closed && !new[i].uncertain)

/-- CONTACT_GHOST for each guard whose UNCERTAIN mark the pass has set (R167). -/
def ghostNotices (old new : Vector Contact 64) (s : State) : State :=
  (guards.filter fun i => new[i].uncertain && !old[i].uncertain).foldl
    (fun s i => raiseNotice .contactGhost (BitVec.ofNat 32 i.val) s) s

/-! ## Owners (R169) -/

/-- A debounced closing of an exit contact: the early mark while the STEP EJECT to it is in flight, the confirm
while its window is open (R146). -/
def exitContact (e : Exit) (s : State) : State :=
  if s.trim.dest == e then
    match s.trim.exitConfirm with
    | .window _ => exitConfirmed s
    | _ => if ejectInFlight s then { s with trim := { s.trim with exitConfirm := .early } } else s
  else s

/-- A draw job in flight has its limit replaced (R91). -/
def drawLimit (l : Limit) (s : State) : State :=
  updateJob .draw (fun j => if j.inFlight then { j with limit := l } else j) s

/-- A carousel guard comes to count as open: the hold and its notice in RUNNING, DRAINING and HELD (R109). -/
def guardOpened (i : Fin 64) (s : State) : State :=
  if moving s || s.line.state == .held then
    raiseNotice .guardOpen (BitVec.ofNat 32 i.val) (lineHold .guardOpen s)
  else s

/-- A change of an owned contact as its owner takes it (R169). -/
def contactChange (i : Nat) (closing : Bool) (s : State) : State :=
  match i, closing with
  | 0, true => wakeTest (freshTest s)
  | 1, true => dropContact s
  | 3, true => pushContact .infeedPush s
  | 4, true => exitContact .good s
  | 5, true => pushContact .rejectPush s
  | 6, true => exitContact .sample s
  | 8, true => raiseNotice .coverLow 4 s
  | 9, true => drawLimit .suspended (raiseNotice .coverEmpty 4 (lineHold .coverEmpty s))
  | 9, false => drainReleaseTest (drawLimit (.running s.clock) s)
  | 10, true => raiseNotice .coverJam 4 (lineFault .coverJam s)
  | 22, true => guardResumed s
  | 22, false => { s with trim := { s.trim with guardPause := true } }
  | 24, true => raiseNotice .infeedSequence 24 (lineHold .infeedSequence s)
  | 25, true => raiseNotice .trimmerFault 25 (trimFault .trimmerFault true s)
  | n, c =>
    if 16 ≤ n ∧ n ≤ 21 then
      if c then drainReleaseTest s
      else guardOpened (Fin.ofNat 64 n) s
    else s

/-- The changes are taken by their owners in contact order, after the pass (R169, log 21). -/
def takeChanges (l : List (Fin 64 × Bool)) (s : State) : State :=
  l.foldl (fun s e => contactChange e.1.val e.2 s) s

/-- A complete scan has ended (R165 to R169); it is due 2 ms after the last (log 28). -/
def scanEnded (readings : BitVec 64) (s : State) : State :=
  if due s.clock s.scan.scanBase Config.scanGap then
    let old := s.scan.contacts
    let new := scanPass s.scan.firstScan readings (List.finRange 64) old
    let changes := handedChanges s.scan.firstScan old new
    takeChanges changes (ghostNotices old new { s with scan :=
      ⟨new, false, s.scan.scanBase + BitVec.ofNat 32 Config.scanGap⟩ })
  else s

/-! ## The e-stop input (R171) -/

/-- The activation: the latch and TRIM_EN, the line's fault and its notice, the trimmer's fault (R119, R121, R149,
R171). The Line Controller takes it before the Trimmer Controller, so the ABORT broadcast of a dwell is asked for
before the ABORT to TRIMMER (DESIGN CHOICE, log 49); the STATE report of FAULTED is raised before the notice ESTOP
(DESIGN CHOICE, log 50). -/
def estopOn (s : State) : State :=
  let s := { s with
    pins := { s.pins with estopActive := true, estopLowAt := s.clock }
    line := { s.line with estopLatch := true, lamps := { s.line.lamps with trim := false } } }
  trimFault .estop true (raiseNotice .estop 0 (lineFault .estop s))

/-- The input reads low. Released, it is activated. Active already, a chattering line has read low again: no second
activation, and the 50 ms of its release count from now (R171; DESIGN CHOICE, log 37). -/
def estopActivated (s : State) : State :=
  if s.pins.estopActive then { s with pins := { s.pins with estopLowAt := s.clock } } else estopOn s

/-- The input has read high for 50 ms since it was last known to read low; no block takes an event of it (R171). Not
due, the command has no effect (log 2). -/
def estopReleased (s : State) : State :=
  if s.pins.estopActive && due s.clock s.pins.estopLowAt Config.estopRelease then
    { s with pins := { s.pins with estopActive := false } }
  else s

/-! ## The meanings -/

/-- SCAN_END (R165). -/
def execScanEnd (closed : BitVec 64) (s : State) : Host.Outcome State Fault Refusal :=
  .next (live (scanEnded closed) s)

/-- ESTOP_ACTIVATED (R171). -/
def execEstopActivated (s : State) : Host.Outcome State Fault Refusal := .next (live estopActivated s)

/-- ESTOP_RELEASED (R171). -/
def execEstopReleased (s : State) : Host.Outcome State Fault Refusal := .next (live estopReleased s)

end Sys2Proof.Machine
end

