-- ==== Sys2Proof/Machine/HostRequests.lean ====
section
/-! DEFINITION. The host requests (R177): each owner's checks and effect as an action that answers the result code
and the data of the reply; STORE and RESET under their own rules (R184, R185). -/

namespace Sys2Proof.Machine

/-- What an owner makes of a request: the state after it, the result code and the data of its reply. -/
abbrev Taken := State × Result × List Byte

/-- A refused request: nothing changes, and the reply carries no data (R177). -/
def refuse (r : Result) (s : State) : Taken := (s, r, [])

/-- An accepted request with no data in its reply. -/
def accept (s : State) : Taken := (s, .ok, [])

/-- The line is STARTING: every request but STATUS and RESET is answered WRONG_STATE (R186). -/
def starting (s : State) : Bool := s.line.state == .starting

/-! ## Tickets (chapter 1) -/

/-- Checks 3 to 6 of a ticket in range (R4, R6 to R9). -/
def ticketCheck (t : Ticket) (s : State) : Option Result :=
  if t.id = 0 ∨ t.id ∈ heldIds s then some .duplicate
  else if !s.profiles[t.profile].valid then some .profile
  else if s.profiles[t.profile].fields.family ≠ s.glue.family then some .family
  else if !t.geometryOk then some .badGeometry
  else if Config.ticketCap ≤ s.tickets.queue.length then some .full
  else none

/-- A ticket appended at the tail of the queue (R9, R10). -/
def appendTicket (t : Ticket) (s : State) : State :=
  { s with tickets := { s.tickets with queue := s.tickets.queue ++ [t] } }

/-- A ticket arrival as the Carousel and the Line Controller take it (R57, R116). -/
def ticketArrival (s : State) : State := wakeTest (redecide true s)

/-- TICKET (R4). -/
def takeTicket (payload : List Byte) (s : State) : Taken :=
  if starting s then refuse .wrongState s
  else match parseTicket payload with
    | none => refuse .badFormat s
    | some r =>
      if !r.rangeOk then refuse .badRange s
      else match ticketCheck r.toTicket s with
        | some e => refuse e s
        | none =>
          let s := appendTicket r.toTicket s
          let position := leBytes 1 s.tickets.queue.length
          (ticketArrival s, .ok, position)

/-- The head is reserved and carries the id (R11). -/
def reservedHead (id : TicketId) (s : State) : Bool :=
  s.tickets.reserved && match s.tickets.queue with
    | t :: _ => t.id == id
    | [] => false

/-- WITHDRAW (R13). -/
def takeWithdraw (payload : List Byte) (s : State) : Taken :=
  if starting s then refuse .wrongState s
  else if payload.length ≠ 4 then refuse .badFormat s
  else
    let id : TicketId := BitVec.ofNat 32 (natAt payload 0 4)
    if id ∈ queueIds s then
      if reservedHead id s then refuse .locked s
      else
        let before := s.tickets.queue.length
        accept (afterRemoval before
          { s with tickets := { s.tickets with queue := s.tickets.queue.eraseP (·.id == id) } })
    else if id ∈ heldIds s then refuse .wrongState s
    else refuse .notFound s

/-! ## Profiles (chapter 2) -/

/-- A PROFILE_PUT that R22 refuses while a queued ticket names the profile. -/
def profileLocked (n : Fin 16) (p : Profile) (s : State) : Bool :=
  profileNamed s n && (p.fields.family != s.profiles[n].fields.family || !p.valid)

/-- PROFILE_PUT (R21). -/
def takeProfilePut (payload : List Byte) (s : State) : Taken :=
  if starting s then refuse .wrongState s
  else if payload.length ≠ 17 then refuse .badFormat s
  else match parseProfile payload with
    | none => refuse .badRange s
    | some (n, p) =>
      if profileLocked n p s then refuse .locked s
      else accept { s with profiles := s.profiles.set n.val p }

/-- PROFILE_GET (R24). -/
def takeProfileGet (payload : List Byte) (s : State) : Taken :=
  if starting s then refuse .wrongState s
  else if payload.length ≠ 1 then refuse .badFormat s
  else if h : byteAt payload 0 < 16 then
    (s, .ok, encodeProfile ⟨byteAt payload 0, h⟩ s.profiles[byteAt payload 0])
  else refuse .badRange s

/-! ## Clamps (chapter 3) -/

/-- The clamp is protected: loaded, or with a P0 job in flight (R40, R41). -/
def clampProtected (s : State) (c : Fin 20) : Bool := loadedAt s c || p0JobFor s c

/-- The clamp record with the fields the selector names replaced (R40). -/
def putClamp (selector : Nat) (mark : UseMark) (zero : Int) (k : Clamp) : Clamp :=
  { k with mark := if selector = 2 then k.mark else mark
           zero := if selector = 1 then k.zero else zero }

/-- CLAMP_PUT (R40). -/
def takeClampPut (payload : List Byte) (s : State) : Taken :=
  if starting s then refuse .wrongState s
  else if payload.length ≠ 5 then refuse .badFormat s
  else match parseClampPut payload with
    | none => refuse .badRange s
    | some (c, selector, mark, zero) =>
      let k := putClamp selector mark zero (clampRec s c)
      if clampProtected s c && k != clampRec s c then refuse .locked s
      else accept (redecide false (setClamp c k s))

/-- The 10 bytes of a clamp record (R42). -/
def clampBytes (s : State) (c : Fin 20) : List Byte :=
  let k := clampRec s c
  leBytes 1 c.val ++ leBytes 1 k.mark.code ++ leBytes 2 (ofSigned 16 k.zero)
    ++ leBytes 1 (match positionOf s c with | some p => p.val | none => 255)
    ++ leBytes 1 (if k.book.isSome then 1 else 0)
    ++ leBytes 4 (match k.book with | some b => b.ticket.id.toNat | none => 0)

/-- CLAMP_GET (R42). -/
def takeClampGet (payload : List Byte) (s : State) : Taken :=
  if starting s then refuse .wrongState s
  else if payload.length ≠ 1 then refuse .badFormat s
  else if h : byteAt payload 0 < 20 then (s, .ok, clampBytes s ⟨byteAt payload 0, h⟩)
  else refuse .badRange s

/-! ## Glue (chapter 4) -/

/-- GLUE_CHANGE (R80). -/
def takeGlueChange (payload : List Byte) (s : State) : Taken :=
  if starting s then refuse .wrongState s
  else if payload.length ≠ 1 then refuse .badFormat s
  else if 1 < byteAt payload 0 then refuse .badRange s
  else if s.line.state ≠ .parked ∨ s.tickets.queue ≠ [] then refuse .wrongState s
  else accept { s with glue := { s.glue with family := if byteAt payload 0 = 0 then .hotmelt else .pur } }

/-! ## Line requests (chapter 6) -/

/-- The gate stop mark is cleared, and the head decision made on its clearing (R129, R131). -/
def clearGateStop (s : State) : State :=
  if s.dlv.gateStop then headDecision { s with dlv := { s.dlv with gateStop := false } } else s

/-- START. The line's entry and the carousel's HOME come first, then the clearing of the gate stop mark with its head
decision: the spec gives them no order (R102, R103, R131; DESIGN CHOICE, log 41). -/
def takeStart (payload : List Byte) (s : State) : Taken :=
  if starting s then refuse .wrongState s
  else if payload ≠ [] then refuse .badFormat s
  else if s.line.state ≠ .parked ∧ s.line.state ≠ .standby then refuse .wrongState s
  else if s.pins.estopActive then refuse .wrongState s
  else if !allPresent s then refuse .nodes s
  else accept (clearGateStop (tellCarousel (enterWarming s)))

/-- HALT (R114). -/
def takeHalt (payload : List Byte) (s : State) : Taken :=
  if starting s then refuse .wrongState s
  else if payload ≠ [] then refuse .badFormat s
  else match s.line.state with
    | .running =>
      if s.car.state == .standing then accept (tellCarousel (enterDraining s))
      else accept { s with line := { s.line with halt := true } }
    | .draining => accept s
    | .held =>
      match s.line.returnState with
      | .draining => accept s
      | .running =>
        if resumeConditions s then accept (tellCarousel (enterDraining s))
        else accept { s with line := { s.line with returnState := .draining, drainRelease := true } }
    | _ => refuse .wrongState s

/-- HOLD (R108). -/
def takeHold (payload : List Byte) (s : State) : Taken :=
  if starting s then refuse .wrongState s
  else if payload ≠ [] then refuse .badFormat s
  else match s.line.state with
    | .running | .draining | .held => accept (lineHold .host s)
    | _ => refuse .wrongState s

/-- A RESUME cancels a pending hold (R65, R83, R113). -/
def cancelHold (s : State) : State :=
  redecide false { s with
    line := { s.line with holds := .empty }
    car := { s.car with diverts := 0 }
    cover := { s.cover with mismatch := 0 } }

/-- RESUME (R113). -/
def takeResume (payload : List Byte) (s : State) : Taken :=
  if starting s then refuse .wrongState s
  else if payload ≠ [] then refuse .badFormat s
  else if s.line.state == .held && resumeConditions s then
    match s.line.returnState with
    | .running => accept (tellCarousel (enterRunning s))
    | .draining => accept (tellCarousel (enterDraining s))
  else if holdPending s && resumeConditions s then accept (cancelHold s)
  else refuse .wrongState s

/-- PARK (R117). -/
def takePark (payload : List Byte) (s : State) : Taken :=
  if starting s then refuse .wrongState s
  else if payload ≠ [] then refuse .badFormat s
  else match s.line.state with
    | .standby => accept (enterParked s)
    | .held => if anyLoaded s then refuse .wrongState s else accept (enterParked s)
    | .draining =>
      if anyLoaded s || s.car.state == .standing then refuse .wrongState s
      else accept { s with line := { s.line with park := true } }
    | _ => refuse .wrongState s

/-- The effects of an accepted CLEAR (LINE). The line's entry and the carousel's HOME come before the clearing of the
gate stop mark with its head decision: the spec gives them no order (R120, R131; DESIGN CHOICE, log 41). -/
def lineCleared (s : State) : State :=
  let s := { s with
    line := { s.line with cause := none }
    car := { s.car with overruns := Vector.replicate 8 0 } }
  let s := setWorked false (unhome s)
  let s := if anyLoaded s then tellCarousel (enterDraining s) else enterParked s
  clearGateStop s

/-- CLEAR (LINE)'s checks (R120). -/
def clearLineTaken (s : State) : Taken :=
  if s.line.state ≠ .faulted then refuse .wrongState s
  else if s.pins.estopActive then refuse .wrongState s
  else if anyGuardOpen s then refuse .wrongState s
  else if !allPresent s then refuse .nodes s
  else accept (lineCleared s)

/-- The e-stop latch is cleared, TRIM_EN follows the line state, and the head decision is made (R121, R129,
R151). -/
def latchCleared (s : State) : State :=
  headDecision { s with line := { s.line with
    estopLatch := false, lamps := { s.line.lamps with trim := s.line.state != .starting } } }

/-- The effects of an accepted CLEAR (TRIMMER) (R151). -/
def trimmerCleared (s : State) : State :=
  let s := latchCleared { s with trim := { s.trim with cause := none, settleCount := 0 } }
  match s.trim.held with
  | .inside _ => beginEject { s with trim := { s.trim with dest := .reject } }
  | .out _ => { s with trim := { s.trim with state := .eject } }
  | .none => afterTrimmer (trimIdle s)

/-- CLEAR (TRIMMER)'s checks (R151). -/
def clearTrimmerTaken (s : State) : Taken :=
  if s.trim.state ≠ .faulted then refuse .wrongState s
  else if s.pins.estopActive then refuse .wrongState s
  else if trimGuardOpen s then refuse .wrongState s
  else if !present s .trimmer then refuse .nodes s
  else accept (trimmerCleared s)

/-- CLEAR: its subject byte is 0 for LINE and 1 for TRIMMER (R120). -/
def takeClear (payload : List Byte) (s : State) : Taken :=
  if starting s then refuse .wrongState s
  else if payload.length ≠ 1 then refuse .badFormat s
  else if byteAt payload 0 = 0 then clearLineTaken s
  else if byteAt payload 0 = 1 then clearTrimmerTaken s
  else refuse .badRange s

/-! ## Delivery (chapter 7) -/

/-- The effects of a COLLECT of `k` records on the done list: the records leave, the collected count rises, the
waiters are written, and the head decision is made (R133). -/
def collected (k : Nat) (s : State) : State :=
  let s := { s with dlv := { s.dlv with
    done := s.dlv.done.drop k, collected := s.dlv.collected + BitVec.ofNat 32 k } }
  headDecision (drainWaiters s.dlv.waiters s)

/-- COLLECT (R133). -/
def takeCollect (payload : List Byte) (s : State) : Taken :=
  if starting s then refuse .wrongState s
  else if payload.length ≠ 1 then refuse .badFormat s
  else
    let n := byteAt payload 0
    if n = 0 ∨ Config.collectMax < n then refuse .badRange s
    else
      let k := min n s.dlv.done.length
      let data := leBytes 1 k ++ (s.dlv.done.take k).flatMap encodeDone
      (if k = 0 then s else collected k s, .ok, data)

/-! ## Reading (chapters 9 to 11) -/

/-- Four bytes of a node (R164). -/
def nodeBytes (s : State) (n : NodeId) : List Byte :=
  let r := nodeRec s n
  leBytes 1 (nodeAddr n) ++ leBytes 1 r.state.code ++ leBytes 1 r.misses ++ leBytes 1 r.restarts

/-- NODES (R164). -/
def takeNodes (payload : List Byte) (s : State) : Taken :=
  if starting s then refuse .wrongState s
  else if payload ≠ [] then refuse .badFormat s
  else (s, .ok, allNodes.flatMap (nodeBytes s))

/-- One byte of a contact (R170). -/
def contactByte (k : Contact) : Byte :=
  BitVec.ofNat 8 ((if k.closed then 1 else 0) + (if k.uncertain then 2 else 0)
    + (if k.reading = some true then 4 else 0) + 8 * k.count)

/-- CONTACTS (R170). -/
def takeContacts (payload : List Byte) (s : State) : Taken :=
  if starting s then refuse .wrongState s
  else if payload ≠ [] then refuse .badFormat s
  else (s, .ok, s.scan.contacts.toList.map contactByte)

/-- Temperature of the pot target, 0 for OFF (R178). -/
def PotTarget.temp : PotTarget → Nat
  | .off => 0
  | .working t => t
  | .standby t => t

/-- The 24 bytes of STATUS (R178). -/
def statusBytes (s : State) : List Byte :=
  leBytes 1 s.line.state.code
    ++ leBytes 1 (match s.line.cause with | some c => c.code | none => 0)
    ++ leBytes 2 (s.glue.reading.getD 0xFFFF) ++ leBytes 2 s.glue.target.temp
    ++ leBytes 1 (match clampAt s 0, s.car.phase with | some _, some φ => φ.val | _, _ => 255)
    ++ leBytes 1 s.tickets.queue.length ++ leBytes 1 (loadedClamps s) ++ leBytes 1 s.cover.entries.length
    ++ leBytes 1 s.dlv.cooling.length ++ leBytes 1 (heldBook s).toList.length ++ leBytes 1 s.dlv.done.length
    ++ leBytes 4 s.dlv.loaded.toNat ++ leBytes 4 s.dlv.collected.toNat ++ leBytes 1 s.car.diverts
    ++ leBytes 1 (strapCode s.pins.strapA) ++ leBytes 1 (strapCode s.pins.strapB)

/-- STATUS (R178). -/
def takeStatusRequest (payload : List Byte) (s : State) : Taken :=
  if payload ≠ [] then refuse .badFormat s else (s, .ok, statusBytes s)

/-- Place of an id in a list, counted from 1. -/
def placeOf (id : TicketId) (l : List TicketId) : Option Nat := (l.idxOf? id).map (· + 1)

/-- The clamp that holds an id. -/
def clampOf (id : TicketId) (s : State) : Option (Fin 20) :=
  (List.finRange 20).find? fun c => match bookIn s c with
    | some b => b.ticket.id == id
    | none => false

/-- Four bytes of a TRACE reply (R179). -/
def traceRow (place b1 b2 b3 : Nat) : List Byte := leBytes 1 place ++ leBytes 1 b1 ++ leBytes 1 b2 ++ leBytes 1 b3

/-- The four bytes of TRACE, none when the id is not held (R179). -/
def traceBytes (id : TicketId) (s : State) : Option (List Byte) :=
  match placeOf id (queueIds s) with
  | some n => some (traceRow (if reservedHead id s then 1 else 0) n 255 255)
  | none =>
  match clampOf id s with
  | some c => some (traceRow 2 (match positionOf s c with | some p => p.val | none => 255) c.val 255)
  | none =>
  match placeOf id (s.dlv.cooling.map (·.ticket.id)) with
  | some n => some (traceRow 3 n 255 255)
  | none =>
  if id ∈ trimIds s then some (traceRow 4 255 255 s.trim.state.code)
  else (placeOf id (s.dlv.done.map (·.ticket.id))).map fun n => traceRow 5 n 255 255

/-- TRACE (R179). -/
def takeTrace (payload : List Byte) (s : State) : Taken :=
  if starting s then refuse .wrongState s
  else if payload.length ≠ 4 then refuse .badFormat s
  else
    let id : TicketId := BitVec.ofNat 32 (natAt payload 0 4)
    if id = 0 then refuse .notFound s
    else match traceBytes id s with
      | some data => (s, .ok, data)
      | none => refuse .notFound s

/-- SETTINGS_PUT (R180). -/
def takeSettingsPut (payload : List Byte) (s : State) : Taken :=
  if starting s then refuse .wrongState s
  else if payload.length ≠ 10 then refuse .badFormat s
  else match parseSettings payload with
    | none => refuse .badRange s
    | some c => accept (replaceSettings c s)

/-- SETTINGS_GET (R180). -/
def takeSettingsGet (payload : List Byte) (s : State) : Taken :=
  if starting s then refuse .wrongState s
  else if payload ≠ [] then refuse .badFormat s
  else (s, .ok, encodeSettings s.settings ++ leBytes 1 s.glue.family.code)

/-! ## STORE and RESET (R184, R185) -/

/-- An accepted STORE: the copy is made, the save begins, and the reply is prepared until its end (R184). -/
def beginSave (tag : Byte) (s : State) : State :=
  { s with
    store := { s.store with saving := some (encodeImage s.profiles s.car.clamps s.settings s.glue.family) }
    host := { s.host with request := some ⟨kindStore, tag, none⟩ } }

/-- STORE, not overlapped (R184). -/
def storeTaken (tag : Byte) (payload : List Byte) (s : State) : State :=
  if starting s then respond kindStore tag .wrongState [] s
  else if payload ≠ [] then respond kindStore tag .badFormat [] s
  else beginSave tag s

/-- STORE under the overlap rule (R176, R184). -/
def storeRequest (tag : Byte) (payload : List Byte) (s : State) : State :=
  if overlapped s then oweBusy kindStore tag (clearRx s) else storeTaken tag payload (clearRx s)

/-- RESET: taken in every state, its reply owed behind every other (R185). -/
def resetRequest (tag : Byte) (payload : List Byte) (s : State) : State :=
  let code := if payload = [] then Result.ok else .badFormat
  let t := clearRx { s with host := { s.host with resetTaken := s.host.resetTaken || payload.isEmpty } }
  if overlapped s then owe kindReset tag code t else respond kindReset tag code [] t

end Sys2Proof.Machine
end

