-- ==== Sys2Proof/Machine/Receive.lean ====
section
/-! DEFINITION. The receive side of the host link (R175, R176): the assembler of received bytes, the taking of a frame
that passes its check, and the meanings of the request commands. A request command is the arrival of all the bytes
of its frame (log 16). -/

namespace Sys2Proof.Machine

/-! ## Received bytes (R175) -/

/-- The frame that whole bytes carry, none when their check does not match (R174, R175). -/
def frameOf (bs : List Byte) : Option HostFrame :=
  match bs with
  | _ :: lo :: hi :: kind :: tag :: rest =>
    if frameGood bs then some ⟨kind, tag, rest.take (leNat [lo, hi])⟩ else none
  | _ => none

/-- The frames with a matching check that received bytes complete, in order, and what they leave begun. Bytes before a
0xA5 are discarded, a length above 480 is judged as soon as it is in, and a frame whose check does not match is
discarded (log 16). The fuel is the number of bytes. -/
def assemble : Nat → List Byte → List HostFrame × List Byte
  | 0, bs => ([], bs)
  | n + 1, bs =>
    match bs with
    | [] => ([], [])
    | b :: rest =>
      if b ≠ 0xA5 then assemble n rest
      else if rest.length < 2 then ([], b :: rest)
      else
        let len := leNat (rest.take 2)
        if Config.payloadMax < len then assemble n (rest.drop 2)
        else if rest.length < len + 6 then ([], b :: rest)
        else
          let later := assemble n (rest.drop (len + 6))
          ((frameOf (b :: rest.take (len + 6))).toList ++ later.1, later.2)

/-- More than 10 ms have passed since the last byte of a begun frame (R175). -/
def gapTooLong (s : State) : Bool :=
  !s.host.rx.isEmpty && decide (Config.byteGap < elapsed s.clock s.host.rxTime)

/-- A frame is begun, and a byte that arrives now continues it (R175). -/
def frameOpen (s : State) : Bool := !s.host.rx.isEmpty && !gapTooLong s

/-! ## A frame taken as a request (R175, R176) -/

/-- UNKNOWN_KIND: under the overlap rule, and with no other effect (R175). -/
def takeUnknown (s : State) : Taken := refuse .unknownKind s

/-- A frame that passes its check is a request: it goes to the owner of its kind, and a kind that is none of R177's is
answered UNKNOWN_KIND (R175, R177). -/
def requestTaken (f : HostFrame) : State → State :=
  if f.kind = kindTicket then hostRequest kindTicket f.tag (takeTicket f.payload)
  else if f.kind = kindWithdraw then hostRequest kindWithdraw f.tag (takeWithdraw f.payload)
  else if f.kind = kindProfilePut then hostRequest kindProfilePut f.tag (takeProfilePut f.payload)
  else if f.kind = kindProfileGet then hostRequest kindProfileGet f.tag (takeProfileGet f.payload)
  else if f.kind = kindClampPut then hostRequest kindClampPut f.tag (takeClampPut f.payload)
  else if f.kind = kindClampGet then hostRequest kindClampGet f.tag (takeClampGet f.payload)
  else if f.kind = kindGlueChange then hostRequest kindGlueChange f.tag (takeGlueChange f.payload)
  else if f.kind = kindStart then hostRequest kindStart f.tag (takeStart f.payload)
  else if f.kind = kindHalt then hostRequest kindHalt f.tag (takeHalt f.payload)
  else if f.kind = kindHold then hostRequest kindHold f.tag (takeHold f.payload)
  else if f.kind = kindResume then hostRequest kindResume f.tag (takeResume f.payload)
  else if f.kind = kindPark then hostRequest kindPark f.tag (takePark f.payload)
  else if f.kind = kindClear then hostRequest kindClear f.tag (takeClear f.payload)
  else if f.kind = kindCollect then hostRequest kindCollect f.tag (takeCollect f.payload)
  else if f.kind = kindNodes then hostRequest kindNodes f.tag (takeNodes f.payload)
  else if f.kind = kindContacts then hostRequest kindContacts f.tag (takeContacts f.payload)
  else if f.kind = kindStatus then hostRequest kindStatus f.tag (takeStatusRequest f.payload)
  else if f.kind = kindTrace then hostRequest kindTrace f.tag (takeTrace f.payload)
  else if f.kind = kindSettingsPut then hostRequest kindSettingsPut f.tag (takeSettingsPut f.payload)
  else if f.kind = kindSettingsGet then hostRequest kindSettingsGet f.tag (takeSettingsGet f.payload)
  else if f.kind = kindStore then storeRequest f.tag f.payload
  else if f.kind = kindReset then resetRequest f.tag f.payload
  else hostRequest f.kind f.tag takeUnknown

/-- Bytes arrive: every frame they complete is taken or discarded, and a frame they leave begun is kept (R175). -/
def receive (bytes : List Byte) (s : State) : State :=
  let all := (if gapTooLong s then [] else s.host.rx) ++ bytes
  let a := assemble all.length all
  let t := a.1.foldl (fun s f => requestTaken f s) s
  { t with host := { t.host with rx := a.2, rxTime := s.clock } }

/-- All the bytes of a request's frame arrive. With no frame begun the frame is the request; into a begun frame they are
that frame's next bytes (R175, log 16). -/
def arrives (f : HostFrame) (take : State → State) : State → State :=
  live fun s => if frameOpen s then receive f.bytes s else take s

/-- A request taken while another is pending or a reply is owed: its tag joins the owed list, or it is discarded;
a RESET is taken as R185 gives (R176). -/
def overlappedRequest (kind tag : Byte) (payload : List Byte) (s : State) : State :=
  if kind = kindReset then resetRequest tag payload s else oweBusy kind tag (clearRx s)

/-! ## The meanings -/

/-- TICKET (R4). -/
def execTicket (tag : Byte) (payload : List Byte) (s : State) : Host.Outcome State Fault Refusal :=
  .next (arrives ⟨kindTicket, tag, payload⟩ (hostRequest kindTicket tag (takeTicket payload)) s)

/-- WITHDRAW (R13). -/
def execWithdraw (tag : Byte) (payload : List Byte) (s : State) : Host.Outcome State Fault Refusal :=
  .next (arrives ⟨kindWithdraw, tag, payload⟩ (hostRequest kindWithdraw tag (takeWithdraw payload)) s)

/-- PROFILE_PUT (R21). -/
def execProfilePut (tag : Byte) (payload : List Byte) (s : State) : Host.Outcome State Fault Refusal :=
  .next (arrives ⟨kindProfilePut, tag, payload⟩ (hostRequest kindProfilePut tag (takeProfilePut payload)) s)

/-- PROFILE_GET (R24). -/
def execProfileGet (tag : Byte) (payload : List Byte) (s : State) : Host.Outcome State Fault Refusal :=
  .next (arrives ⟨kindProfileGet, tag, payload⟩ (hostRequest kindProfileGet tag (takeProfileGet payload)) s)

/-- CLAMP_PUT (R40). -/
def execClampPut (tag : Byte) (payload : List Byte) (s : State) : Host.Outcome State Fault Refusal :=
  .next (arrives ⟨kindClampPut, tag, payload⟩ (hostRequest kindClampPut tag (takeClampPut payload)) s)

/-- CLAMP_GET (R42). -/
def execClampGet (tag : Byte) (payload : List Byte) (s : State) : Host.Outcome State Fault Refusal :=
  .next (arrives ⟨kindClampGet, tag, payload⟩ (hostRequest kindClampGet tag (takeClampGet payload)) s)

/-- GLUE_CHANGE (R80). -/
def execGlueChange (tag : Byte) (payload : List Byte) (s : State) : Host.Outcome State Fault Refusal :=
  .next (arrives ⟨kindGlueChange, tag, payload⟩ (hostRequest kindGlueChange tag (takeGlueChange payload)) s)

/-- START (R102). -/
def execStart (tag : Byte) (payload : List Byte) (s : State) : Host.Outcome State Fault Refusal :=
  .next (arrives ⟨kindStart, tag, payload⟩ (hostRequest kindStart tag (takeStart payload)) s)

/-- HALT (R114). -/
def execHalt (tag : Byte) (payload : List Byte) (s : State) : Host.Outcome State Fault Refusal :=
  .next (arrives ⟨kindHalt, tag, payload⟩ (hostRequest kindHalt tag (takeHalt payload)) s)

/-- HOLD (R108). -/
def execHold (tag : Byte) (payload : List Byte) (s : State) : Host.Outcome State Fault Refusal :=
  .next (arrives ⟨kindHold, tag, payload⟩ (hostRequest kindHold tag (takeHold payload)) s)

/-- RESUME (R113). -/
def execResume (tag : Byte) (payload : List Byte) (s : State) : Host.Outcome State Fault Refusal :=
  .next (arrives ⟨kindResume, tag, payload⟩ (hostRequest kindResume tag (takeResume payload)) s)

/-- PARK (R117). -/
def execPark (tag : Byte) (payload : List Byte) (s : State) : Host.Outcome State Fault Refusal :=
  .next (arrives ⟨kindPark, tag, payload⟩ (hostRequest kindPark tag (takePark payload)) s)

/-- CLEAR_LINE: a CLEAR frame with any payload (R120, log 17). -/
def execClearLine (tag : Byte) (payload : List Byte) (s : State) : Host.Outcome State Fault Refusal :=
  .next (arrives ⟨kindClear, tag, payload⟩ (hostRequest kindClear tag (takeClear payload)) s)

/-- CLEAR_TRIMMER: a CLEAR frame whose payload is the byte 1 (R120, R151, log 17). -/
def execClearTrimmer (tag : Byte) (s : State) : Host.Outcome State Fault Refusal :=
  .next (arrives ⟨kindClear, tag, [1]⟩ (hostRequest kindClear tag (takeClear [1])) s)

/-- COLLECT (R133). -/
def execCollect (tag : Byte) (payload : List Byte) (s : State) : Host.Outcome State Fault Refusal :=
  .next (arrives ⟨kindCollect, tag, payload⟩ (hostRequest kindCollect tag (takeCollect payload)) s)

/-- NODES (R164). -/
def execNodes (tag : Byte) (payload : List Byte) (s : State) : Host.Outcome State Fault Refusal :=
  .next (arrives ⟨kindNodes, tag, payload⟩ (hostRequest kindNodes tag (takeNodes payload)) s)

/-- CONTACTS (R170). -/
def execContacts (tag : Byte) (payload : List Byte) (s : State) : Host.Outcome State Fault Refusal :=
  .next (arrives ⟨kindContacts, tag, payload⟩ (hostRequest kindContacts tag (takeContacts payload)) s)

/-- STATUS (R178). -/
def execStatus (tag : Byte) (payload : List Byte) (s : State) : Host.Outcome State Fault Refusal :=
  .next (arrives ⟨kindStatus, tag, payload⟩ (hostRequest kindStatus tag (takeStatusRequest payload)) s)

/-- TRACE (R179). -/
def execTrace (tag : Byte) (payload : List Byte) (s : State) : Host.Outcome State Fault Refusal :=
  .next (arrives ⟨kindTrace, tag, payload⟩ (hostRequest kindTrace tag (takeTrace payload)) s)

/-- SETTINGS_PUT (R180). -/
def execSettingsPut (tag : Byte) (payload : List Byte) (s : State) : Host.Outcome State Fault Refusal :=
  .next (arrives ⟨kindSettingsPut, tag, payload⟩ (hostRequest kindSettingsPut tag (takeSettingsPut payload)) s)

/-- SETTINGS_GET (R180). -/
def execSettingsGet (tag : Byte) (payload : List Byte) (s : State) : Host.Outcome State Fault Refusal :=
  .next (arrives ⟨kindSettingsGet, tag, payload⟩ (hostRequest kindSettingsGet tag (takeSettingsGet payload)) s)

/-- STORE (R184). -/
def execStore (tag : Byte) (payload : List Byte) (s : State) : Host.Outcome State Fault Refusal :=
  .next (arrives ⟨kindStore, tag, payload⟩ (storeRequest tag payload) s)

/-- RESET (R185). -/
def execReset (tag : Byte) (payload : List Byte) (s : State) : Host.Outcome State Fault Refusal :=
  .next (arrives ⟨kindReset, tag, payload⟩ (resetRequest tag payload) s)

/-- UNKNOWN_KIND (R175). A kind of the request table has a row of its own, and the command has no effect on it
(log 3). -/
def execUnknownKind (kind tag : Byte) (payload : List Byte) (s : State) : Host.Outcome State Fault Refusal :=
  .next (if isRequestKind kind then live id s
    else arrives ⟨kind, tag, payload⟩ (hostRequest kind tag takeUnknown) s)

/-- OVERLAPPED_REQUEST (R176). With nothing pending or owed the command has no effect (log 3). -/
def execOverlappedRequest (kind tag : Byte) (payload : List Byte) (s : State) :
    Host.Outcome State Fault Refusal :=
  .next (if overlapped s then arrives ⟨kind, tag, payload⟩ (overlappedRequest kind tag payload) s else live id s)

/-- BAD_FRAME_DISCARD: bytes arrive that the assembler discards, or that continue a frame (R175, log 16). -/
def execBadFrameDiscard (bytes : List Byte) (s : State) : Host.Outcome State Fault Refusal :=
  .next (live (receive bytes) s)

end Sys2Proof.Machine
end

