-- ==== Sys2Proof/Machine/LinkEvents.lean ====
section
/-! DEFINITION. The commands of the host link's line, of the Settings Store and of the resets (R172, R173, R175,
R182 to R186). -/

namespace Sys2Proof.Machine

/-! ## The link's line (R175, R182) -/

/-- FRAME_BYTE_GAP_TIMEOUT: more than 10 ms since the last byte of a begun frame (R175). -/
def byteGap (s : State) : State :=
  if gapTooLong s then { s with host := { s.host with rx := [] } } else s

/-- TRANSMIT_FRAME_END: the line becomes free and the next frame is chosen (R182). -/
def frameEnd (s : State) : State :=
  match s.host.tx with
  | some _ => txPump { s with host := { s.host with tx := none } }
  | none => s

/-! ## The Settings Store (R183, R184) -/

/-- The STORE whose reply is being prepared becomes ready with OK (R176, R184). -/
def storeReply (h : HostLink) : HostLink :=
  match h.request with
  | some ⟨k, t, none⟩ => { h with request := some ⟨k, t, some (leBytes 1 Result.ok.code)⟩ }
  | _ => h

/-- SAVE_END: the image is the copy, the store is IDLE, and the reply becomes ready (R184). -/
def saveEnded (s : State) : State :=
  match s.store.saving with
  | some image => txPump { s with store := ⟨image, false, none⟩, host := storeReply s.host }
  | none => s

/-- The clamp table with the marks and offsets of an image (R38, R183). -/
def imageClamps (img : List Byte) (v : Vector Clamp 20) : Vector Clamp 20 :=
  Vector.ofFn fun i => match imageClamp img i.val with
    | some (mark, zero) => { v[i] with mark := mark, zero := zero }
    | none => v[i]

/-- A good image is loaded whole (R183). -/
def loadImage (img : List Byte) (s : State) : State :=
  { s with
    profiles := Vector.ofFn fun i => (imageProfile img i.val).getD s.profiles[i]
    car := { s.car with clamps := imageClamps img s.car.clamps }
    settings := (imageSettings img).getD s.settings
    glue := { s.glue with family := if imageFamily img = 0 then .hotmelt else .pur } }

/-- The defaults are loaded, with notice STORE_DEFAULTS (R20, R183). -/
def loadDefaults (s : State) : State :=
  raiseNotice .storeDefaults 0 { s with
    profiles := defaultProfiles
    car := { s.car with clamps := Vector.ofFn fun i => { s.car.clamps[i] with mark := .inUse, zero := 0 } }
    settings := .default
    glue := { s.glue with family := .hotmelt } }

/-- STORE_LOAD_DONE: the image or the defaults are loaded, and the Line Controller is told (R101, R183, R186). -/
def storeLoaded (s : State) : State :=
  if s.line.state == .starting && !s.line.loadDone then
    let s := if imageGood s.store.image && !s.store.broken then loadImage s.store.image s else loadDefaults s
    startUpCheck { s with line := { s.line with loadDone := true } }
  else s

/-! ## Resets (R172, R173, R185, R186) -/

/-- The nonvolatile memory after an abandoned save: its image is part written (R184, log 19). -/
def Store.abandoned (x : Store) : Store := ⟨x.image, x.broken || x.saving.isSome, none⟩

/-- Every block at its after-reset value, with start-up begun; an e-stop input that reads low counts as activated
(R171, R185, R186). -/
def afterReset (strapA strapB : StrapLevel) (estopLow : Bool) (store : Store) (s : State) : State :=
  let t := State.afterReset strapA strapB store s.pending
  if estopLow then estopOn t else t

/-- RESET_BEGIN: once the RESET reply has been sent whole, no reply is owed and no save runs, the part resets with
its straps kept. A report that is on the transmit line then is cut off (R173, R185; DESIGN CHOICE, log 48). -/
def resetBegin (estopLow : Bool) (s : State) : State :=
  let replying := match s.host.tx with
    | some f => f.isReply
    | none => false
  if s.host.resetTaken && s.host.request.isNone && s.host.owed.isEmpty && !replying && s.store.saving.isNone then
    afterReset s.pins.strapA s.pins.strapB estopLow s.store s
  else s

/-- RESET_LINE_LOW: the part is held in reset, every output off, nothing sent, a save abandoned (R172, R184,
log 18). -/
def heldInReset (s : State) : State :=
  if s.pins.inReset then s
  else
    { State.afterReset s.pins.strapA s.pins.strapB s.store.abandoned s.pending with
      bus := .idle
      busOut := []
      pins := ⟨s.pins.strapA, s.pins.strapB, s.pins.estopActive, 0, true⟩ }

/-- RESET_LINE_HIGH: the reset ends, the straps are latched and start-up begins (R172, R173, R186). -/
def resetEnds (strapA strapB : StrapLevel) (estopLow : Bool) (s : State) : State :=
  if s.pins.inReset then afterReset strapA strapB estopLow s.store s else s

/-- POWER_ON_RESET: a reset-line reset that ends when the supply has settled (R172, R184). -/
def powerOn (strapA strapB : StrapLevel) (estopLow : Bool) (s : State) : State :=
  afterReset strapA strapB estopLow s.store.abandoned s

/-! ## The meanings -/

/-- FRAME_BYTE_GAP_TIMEOUT (R175). -/
def execFrameByteGapTimeout (s : State) : Host.Outcome State Fault Refusal := .next (live byteGap s)

/-- TRANSMIT_FRAME_END (R182). -/
def execTransmitFrameEnd (s : State) : Host.Outcome State Fault Refusal := .next (live frameEnd s)

/-- SAVE_END (R184). -/
def execSaveEnd (s : State) : Host.Outcome State Fault Refusal := .next (live saveEnded s)

/-- STORE_LOAD_DONE (R183). -/
def execStoreLoadDone (s : State) : Host.Outcome State Fault Refusal := .next (live storeLoaded s)

/-- RESET_BEGIN (R185). -/
def execResetBegin (estopLow : Bool) (s : State) : Host.Outcome State Fault Refusal :=
  .next (live (resetBegin estopLow) s)

/-- POWER_ON_RESET (R172). -/
def execPowerOnReset (strapA strapB : StrapLevel) (estopLow : Bool) (s : State) :
    Host.Outcome State Fault Refusal :=
  .next (powerOn strapA strapB estopLow s)

/-- RESET_LINE_LOW (R172). -/
def execResetLineLow (s : State) : Host.Outcome State Fault Refusal := .next (heldInReset s)

/-- RESET_LINE_HIGH (R172). -/
def execResetLineHigh (strapA strapB : StrapLevel) (estopLow : Bool) (s : State) :
    Host.Outcome State Fault Refusal :=
  .next (resetEnds strapA strapB estopLow s)

end Sys2Proof.Machine
end

