-- ==== Sys2Proof/Machine/TimerEvents.lean ====
section
/-! DEFINITION. The commands of the timers, limits and windows: each acts when its timer runs and has reached its
length, and has no effect otherwise (log 2). -/

namespace Sys2Proof.Machine

/-- An optional start time has reached a length. -/
def startDue (now : Time) (start : Option Time) (len : Nat) : Bool :=
  match start with
  | some t => due now t len
  | none => false

/-- A timer that keeps its own length has run out (R99, R128). -/
def timerDue (now : Time) (timer : Option (Time × Nat)) : Bool :=
  match timer with
  | some (t, len) => due now t len
  | none => false

/-- A job in flight has reached its overrun limit (R51). -/
def jobOverdue (now : Time) (j : Job) : Bool :=
  j.inFlight && match j.limit with
    | .running t => due now t Config.overrunLimit
    | _ => false

/-- JOB_OVERRUN: the station's job is overrun, and the dwell ends with its last job (R51, R53). -/
def jobOverrun (st : Station) (s : State) : State :=
  match jobAt s st with
  | some j =>
    if s.car.state == .dwelling && jobOverdue s.clock j then dwellCheck (jobOverran j s) else s
  | none => s

/-- INDEX_TIMEOUT (R56). -/
def indexTimeout (s : State) : State :=
  if s.car.state == .indexing && startDue s.clock s.car.moveTimer Config.moveLimit then moveFailed s else s

/-- HOMING_TIMEOUT (R60). -/
def homingTimeout (s : State) : State :=
  if s.car.state == .homing && startDue s.clock s.car.moveTimer Config.moveLimit then moveFailed s else s

/-- GLUE_SETTLING_WINDOW (R77). -/
def glueWindow (s : State) : State :=
  if s.glue.cond == .settling && startDue s.clock s.glue.window Config.potWindow then glueSettled s else s

/-- WARM_TIMEOUT: HEAT_TIMEOUT with subject 3 (R104). -/
def warmTimeout (s : State) : State :=
  if s.line.state == .warming && startDue s.clock s.line.warmTimer Config.warmLimit then
    raiseNotice .heatTimeout 3 (lineFault .heatTimeout s)
  else s

/-- STANDBY_TIMEOUT (R106, R116). -/
def standbyTimeout (s : State) : State :=
  if s.line.state == .running && timerDue s.clock s.line.standbyTimer then tellCarousel (enterStandby s) else s

/-- PARK_TIMEOUT (R116, R117). -/
def parkTimeout (s : State) : State :=
  if s.line.state == .standby && timerDue s.clock s.line.parkTimer then enterParked s else s

/-- DROP_WINDOW_TIMEOUT (R127). -/
def dropTimeout (s : State) : State :=
  match s.dlv.dropWatch with
  | .opened c t => if due s.clock t Config.dropWindow then dropLost c s else s
  | _ => s

/-- HEAD_TIMER_EXPIRY (R128, R129). -/
def headExpiry (s : State) : State :=
  if timerDue s.clock s.dlv.headTimer then
    headDecision { s with dlv := { s.dlv with headTimer := none } }
  else s

/-- A confirm window has reached its length. -/
def confirmDue (now : Time) (c : Confirm) (len : Nat) : Bool :=
  match c with
  | .window t => due now t len
  | _ => false

/-- PUSH_WINDOW_TIMEOUT (R131). -/
def pushTimeout (s : State) : State :=
  if pushing s && confirmDue s.clock s.dlv.gateConfirm Config.pushWindow then pushLost s else s

/-- AXIS_SETTLE_WINDOW: the axis is converged; in SETTLING, with the three flags set and no pause, CLAMPING
begins (R141, R142). -/
def axisWindow (a : Axis) (s : State) : State :=
  if startDue s.clock (axisOf s.trim a).window Config.axisWindow then
    let s := { s with trim := setAxis a (convergeAxis s.clock s.trim.moveTime (axisOf s.trim a)) s.trim }
    if s.trim.state == .settling && allConverged s.trim && !s.trim.guardPause then beginClamping s else s
  else s

/-- The settle timer has reached its length. -/
def settleDue (now : Time) (t : SettleTimer) : Bool :=
  match t with
  | .running start => due now start Config.settleLimit
  | _ => false

/-- SETTLE_TIMEOUT: taken with the guard pause mark clear, deferred with it set (R143). -/
def settleTimeout (s : State) : State :=
  if s.trim.state == .settling && settleDue s.clock s.trim.settleTimer then
    if s.trim.guardPause then { s with trim := { s.trim with settleTimer := .runOut } }
    else settleTimedOut s
  else s

/-- STEP_TIMEOUT: a step of the cut cycle has not been answered (R144, R145). -/
def stepTimeout (s : State) : State :=
  if inCutCycle s && startDue s.clock s.trim.stepTimer Config.stepLimit then stepFailed true s else s

/-- EXIT_WINDOW_TIMEOUT: the book is lost at the exit (R146). -/
def exitTimeout (s : State) : State :=
  if confirmDue s.clock s.trim.exitConfirm Config.exitWindow then
    let id := heldId s
    let s := modifyHeld (fun b => b.withReason .fault) { s with trim := { s.trim with exitConfirm := .none } }
    let s := raiseNotice .bookLost id (lineFault .bookLost (trimOut s))
    trimFault .bookLost true s
  else s

/-- LAMP_FLASH_TOGGLE: a flashing READY lamp changes every 500 ms (R121). -/
def lampToggle (s : State) : State :=
  if flashes s.line.state && due s.clock s.line.flashBase Config.flashHalf then
    { s with line := { s.line with
      lamps := { s.line.lamps with ready := !s.line.lamps.ready }
      flashBase := s.line.flashBase + BitVec.ofNat 32 Config.flashHalf } }
  else s

/-! ## The meanings -/

/-- JOB_OVERRUN (R51). -/
def execJobOverrun (station : Station) (s : State) : Host.Outcome State Fault Refusal :=
  .next (live (jobOverrun station) s)

/-- INDEX_TIMEOUT (R56). -/
def execIndexTimeout (s : State) : Host.Outcome State Fault Refusal := .next (live indexTimeout s)

/-- HOMING_TIMEOUT (R60). -/
def execHomingTimeout (s : State) : Host.Outcome State Fault Refusal := .next (live homingTimeout s)

/-- GLUE_SETTLING_WINDOW (R77). -/
def execGlueSettlingWindow (s : State) : Host.Outcome State Fault Refusal := .next (live glueWindow s)

/-- WARM_TIMEOUT (R104). -/
def execWarmTimeout (s : State) : Host.Outcome State Fault Refusal := .next (live warmTimeout s)

/-- STANDBY_TIMEOUT (R106). -/
def execStandbyTimeout (s : State) : Host.Outcome State Fault Refusal := .next (live standbyTimeout s)

/-- PARK_TIMEOUT (R116). -/
def execParkTimeout (s : State) : Host.Outcome State Fault Refusal := .next (live parkTimeout s)

/-- DROP_WINDOW_TIMEOUT (R127). -/
def execDropWindowTimeout (s : State) : Host.Outcome State Fault Refusal := .next (live dropTimeout s)

/-- HEAD_TIMER_EXPIRY (R128). -/
def execHeadTimerExpiry (s : State) : Host.Outcome State Fault Refusal := .next (live headExpiry s)

/-- PUSH_WINDOW_TIMEOUT (R131). -/
def execPushWindowTimeout (s : State) : Host.Outcome State Fault Refusal := .next (live pushTimeout s)

/-- AXIS_SETTLE_WINDOW (R141). -/
def execAxisSettleWindow (axis : Axis) (s : State) : Host.Outcome State Fault Refusal :=
  .next (live (axisWindow axis) s)

/-- SETTLE_TIMEOUT (R143). -/
def execSettleTimeout (s : State) : Host.Outcome State Fault Refusal := .next (live settleTimeout s)

/-- STEP_TIMEOUT (R145). -/
def execStepTimeout (s : State) : Host.Outcome State Fault Refusal := .next (live stepTimeout s)

/-- EXIT_WINDOW_TIMEOUT (R146). -/
def execExitWindowTimeout (s : State) : Host.Outcome State Fault Refusal := .next (live exitTimeout s)

/-- LAMP_FLASH_TOGGLE (R121). -/
def execLampFlashToggle (s : State) : Host.Outcome State Fault Refusal := .next (live lampToggle s)

end Sys2Proof.Machine
end

