-- ==== Sys2Proof/Machine/Dispatch.lean ====
section
/-! DEFINITION. One arm per command, each one call of its meaning. -/

namespace Sys2Proof.Machine

def exec (i : Instr) (s : State) : Host.Outcome State Fault Refusal :=
  match i with
  | .ticket tag payload => Sys2Proof.Machine.execTicket tag payload s
  | .withdraw tag payload => Sys2Proof.Machine.execWithdraw tag payload s
  | .profilePut tag payload => Sys2Proof.Machine.execProfilePut tag payload s
  | .profileGet tag payload => Sys2Proof.Machine.execProfileGet tag payload s
  | .clampPut tag payload => Sys2Proof.Machine.execClampPut tag payload s
  | .clampGet tag payload => Sys2Proof.Machine.execClampGet tag payload s
  | .glueChange tag payload => Sys2Proof.Machine.execGlueChange tag payload s
  | .start tag payload => Sys2Proof.Machine.execStart tag payload s
  | .halt tag payload => Sys2Proof.Machine.execHalt tag payload s
  | .hold tag payload => Sys2Proof.Machine.execHold tag payload s
  | .resume tag payload => Sys2Proof.Machine.execResume tag payload s
  | .park tag payload => Sys2Proof.Machine.execPark tag payload s
  | .clearLine tag payload => Sys2Proof.Machine.execClearLine tag payload s
  | .clearTrimmer tag => Sys2Proof.Machine.execClearTrimmer tag s
  | .collect tag payload => Sys2Proof.Machine.execCollect tag payload s
  | .nodes tag payload => Sys2Proof.Machine.execNodes tag payload s
  | .contacts tag payload => Sys2Proof.Machine.execContacts tag payload s
  | .status tag payload => Sys2Proof.Machine.execStatus tag payload s
  | .trace tag payload => Sys2Proof.Machine.execTrace tag payload s
  | .settingsPut tag payload => Sys2Proof.Machine.execSettingsPut tag payload s
  | .settingsGet tag payload => Sys2Proof.Machine.execSettingsGet tag payload s
  | .store tag payload => Sys2Proof.Machine.execStore tag payload s
  | .reset tag payload => Sys2Proof.Machine.execReset tag payload s
  | .unknownKind kind tag payload => Sys2Proof.Machine.execUnknownKind kind tag payload s
  | .overlappedRequest kind tag payload => Sys2Proof.Machine.execOverlappedRequest kind tag payload s
  | .badFrameDiscard bytes => Sys2Proof.Machine.execBadFrameDiscard bytes s
  | .frameByteGapTimeout => Sys2Proof.Machine.execFrameByteGapTimeout s
  | .transmitFrameEnd => Sys2Proof.Machine.execTransmitFrameEnd s
  | .saveEnd => Sys2Proof.Machine.execSaveEnd s
  | .resetBegin estopLow => Sys2Proof.Machine.execResetBegin estopLow s
  | .powerOnReset strapA strapB estopLow => Sys2Proof.Machine.execPowerOnReset strapA strapB estopLow s
  | .resetLineLow => Sys2Proof.Machine.execResetLineLow s
  | .resetLineHigh strapA strapB estopLow => Sys2Proof.Machine.execResetLineHigh strapA strapB estopLow s
  | .storeLoadDone => Sys2Proof.Machine.execStoreLoadDone s
  | .estopActivated => Sys2Proof.Machine.execEstopActivated s
  | .estopReleased => Sys2Proof.Machine.execEstopReleased s
  | .scanEnd closed => Sys2Proof.Machine.execScanEnd closed s
  | .lampFlashToggle => Sys2Proof.Machine.execLampFlashToggle s
  | .pollRoundDue => Sys2Proof.Machine.execPollRoundDue s
  | .slotAnswer node jobs temp marks => Sys2Proof.Machine.execSlotAnswer node jobs temp marks s
  | .slotEmpty => Sys2Proof.Machine.execSlotEmpty s
  | .pollRoundEnd => Sys2Proof.Machine.execPollRoundEnd s
  | .indexAnswer seq answer marks => Sys2Proof.Machine.execIndexAnswer seq answer marks s
  | .homeAnswer seq answer marks => Sys2Proof.Machine.execHomeAnswer seq answer marks s
  | .pushAnswer seq answer marks => Sys2Proof.Machine.execPushAnswer seq answer marks s
  | .setAxesAnswer seq answer marks => Sys2Proof.Machine.execSetAxesAnswer seq answer marks s
  | .readAxesAnswer seq answer marks => Sys2Proof.Machine.execReadAxesAnswer seq answer marks s
  | .stepAnswer seq answer marks => Sys2Proof.Machine.execStepAnswer seq answer marks s
  | .nodeStatusAnswer node seq marks => Sys2Proof.Machine.execNodeStatusAnswer node seq marks s
  | .probeAnswer node seq position marks => Sys2Proof.Machine.execProbeAnswer node seq position marks s
  | .replyWindowClosed => Sys2Proof.Machine.execReplyWindowClosed s
  | .requestRepeatDue node => Sys2Proof.Machine.execRequestRepeatDue node s
  | .nodeStatusDue node => Sys2Proof.Machine.execNodeStatusDue node s
  | .recoveryProbeDue => Sys2Proof.Machine.execRecoveryProbeDue s
  | .jobOverrun station => Sys2Proof.Machine.execJobOverrun station s
  | .indexTimeout => Sys2Proof.Machine.execIndexTimeout s
  | .homingTimeout => Sys2Proof.Machine.execHomingTimeout s
  | .glueSettlingWindow => Sys2Proof.Machine.execGlueSettlingWindow s
  | .warmTimeout => Sys2Proof.Machine.execWarmTimeout s
  | .standbyTimeout => Sys2Proof.Machine.execStandbyTimeout s
  | .parkTimeout => Sys2Proof.Machine.execParkTimeout s
  | .dropWindowTimeout => Sys2Proof.Machine.execDropWindowTimeout s
  | .headTimerExpiry => Sys2Proof.Machine.execHeadTimerExpiry s
  | .pushWindowTimeout => Sys2Proof.Machine.execPushWindowTimeout s
  | .axisSettleWindow axis => Sys2Proof.Machine.execAxisSettleWindow axis s
  | .settleTimeout => Sys2Proof.Machine.execSettleTimeout s
  | .stepTimeout => Sys2Proof.Machine.execStepTimeout s
  | .exitWindowTimeout => Sys2Proof.Machine.execExitWindowTimeout s

end Sys2Proof.Machine
end

