-- ==== Sys2Proof/Machine/Step.lean ====
section
/-! DEFINITION. One step: the command at the front of the queue, or 1 ms of line clock when none waits (log 1). -/

namespace Sys2Proof.Machine

/-- The command at the front of the queue is taken and run with the queue's rest; with the queue empty the line
clock advances. -/
def step (s : State) : Host.Outcome State Fault Refusal :=
  match s.pending with
  | [] => .next (tick s)
  | c :: rest => exec c { s with pending := rest }

/-- The command a table word spells, put at the front of the queue; no row of the table has bits, so that no word
spells one and the state is unchanged (log 32). -/
def State.withFetchWord (s : State) (nbits w : Nat) : State :=
  match decodeTableWord nbits w with
  | some c => { s with pending := c :: s.pending }
  | none => s

end Sys2Proof.Machine
end

