-- ==== Sys2Proof/WellFormed.lean ====
section
/-! DEFINITION. Which commands are well formed: those that the host link and the nodes can bring about. The
machine gives every command a meaning, the ill-formed ones too. -/

namespace Sys2Proof

/-- Longest payload of a checked frame (R174). -/
def payloadOk (p : List Byte) : Bool := decide (p.length ≤ 480)

/-- The payload of a host request; empty for every other command. -/
def Instr.payload : Instr → List Byte
  | .ticket _ p | .withdraw _ p | .profilePut _ p | .profileGet _ p | .clampPut _ p | .clampGet _ p
  | .glueChange _ p | .start _ p | .halt _ p | .hold _ p | .resume _ p | .park _ p | .clearLine _ p
  | .collect _ p | .nodes _ p | .contacts _ p | .status _ p | .trace _ p | .settingsPut _ p | .settingsGet _ p
  | .store _ p | .reset _ p | .unknownKind _ _ p | .overlappedRequest _ _ p => p
  | .clearTrimmer _ => [1]
  | .badFrameDiscard _ | .frameByteGapTimeout | .transmitFrameEnd | .saveEnd | .resetBegin _
  | .powerOnReset _ _ _ | .resetLineLow | .resetLineHigh _ _ _ | .storeLoadDone | .estopActivated
  | .estopReleased | .scanEnd _ | .lampFlashToggle | .pollRoundDue | .slotAnswer _ _ _ _ | .slotEmpty
  | .pollRoundEnd | .indexAnswer _ _ _ | .homeAnswer _ _ _ | .pushAnswer _ _ _ | .setAxesAnswer _ _ _
  | .readAxesAnswer _ _ _ | .stepAnswer _ _ _ | .nodeStatusAnswer _ _ _ | .probeAnswer _ _ _ _
  | .replyWindowClosed | .requestRepeatDue _ | .nodeStatusDue _ | .recoveryProbeDue | .jobOverrun _
  | .indexTimeout | .homingTimeout | .glueSettlingWindow | .warmTimeout | .standbyTimeout | .parkTimeout
  | .dropWindowTimeout | .headTimerExpiry | .pushWindowTimeout | .axisSettleWindow _ | .settleTimeout
  | .stepTimeout | .exitWindowTimeout => []

/-- Nodes 1 to 6 answer POLLs (9.1). -/
def inGroup : NodeId → Bool
  | .drive | .cooling | .trimmer => false
  | _ => true

/-- The node of a station (R47). -/
def homeNode : Station → NodeId
  | .load => .loader | .mill => .mill | .spine | .side => .glue
  | .draw | .apply => .cover | .nip => .nip | .release => .release

/-- GLUE adds the pot temperature, 0 to 300 degrees, to every slot answer, and no other node does (R76, R155). -/
def tempOk (n : NodeId) (t : Option Nat) : Bool :=
  match n, t with
  | .glue, some x => decide (x ≤ 300)
  | .glue, none => false
  | _, t => t.isNone

/-- Only DRIVE's answer to a PROBE carries a position (R159). -/
def positionOk (n : NodeId) (q : Option (Fin 20)) : Bool := n == .drive || q.isNone

/-- A request kind, 0x01 to 0x16 (R177). -/
def knownKind (k : Byte) : Bool := decide (1 ≤ k.toNat ∧ k.toNat ≤ 22)

/-- The command is well formed. -/
def Instr.wf : Instr → Bool
  | .ticket _ p | .withdraw _ p | .profilePut _ p | .profileGet _ p | .clampPut _ p | .clampGet _ p
  | .glueChange _ p | .start _ p | .halt _ p | .hold _ p | .resume _ p | .park _ p | .clearLine _ p
  | .collect _ p | .nodes _ p | .contacts _ p | .status _ p | .trace _ p | .settingsPut _ p | .settingsGet _ p
  | .store _ p | .reset _ p | .overlappedRequest _ _ p => payloadOk p
  | .unknownKind k _ p => payloadOk p && !knownKind k
  | .badFrameDiscard bytes => !bytes.isEmpty && !Machine.frameGood bytes
  | .slotAnswer n jobs t _ => inGroup n && jobs.all (fun e => homeNode e.1 == n) && tempOk n t
  | .nodeStatusAnswer n _ _ => !inGroup n
  | .nodeStatusDue n => !inGroup n
  | .probeAnswer n _ q _ => positionOk n q
  | .clearTrimmer _ | .frameByteGapTimeout | .transmitFrameEnd | .saveEnd | .resetBegin _ | .powerOnReset _ _ _
  | .resetLineLow | .resetLineHigh _ _ _ | .storeLoadDone | .estopActivated | .estopReleased | .scanEnd _
  | .lampFlashToggle | .pollRoundDue | .slotEmpty | .pollRoundEnd | .indexAnswer _ _ _ | .homeAnswer _ _ _
  | .pushAnswer _ _ _ | .setAxesAnswer _ _ _ | .readAxesAnswer _ _ _ | .stepAnswer _ _ _ | .replyWindowClosed
  | .requestRepeatDue _ | .recoveryProbeDue | .jobOverrun _ | .indexTimeout | .homingTimeout
  | .glueSettlingWindow | .warmTimeout | .standbyTimeout | .parkTimeout | .dropWindowTimeout
  | .headTimerExpiry | .pushWindowTimeout | .axisSettleWindow _ | .settleTimeout | .stepTimeout
  | .exitWindowTimeout => true

end Sys2Proof
end

