-- ==== Sys2Proof/Safety.lean ====
section
/-! DEFINITION. What counts as a sound state and a safe step: the invariants that the spec's rules give the part,
and the terms the statements use. -/

namespace Sys2Proof.Machine

/-! ## Operands the host may send -/

/-- A dimension in its range and a multiple of 10 micrometres (R1). -/
def Dimension (lo hi x : Nat) : Prop := lo ≤ x ∧ x ≤ hi ∧ x % 10 = 0

/-- An optional dimension: absent, or in its range (R1). -/
def OptDimension (lo hi : Nat) (x : Option Nat) : Prop := ∀ y, x = some y → Dimension lo hi y

/-- Every field of a ticket lies in the range of R1; the ids fill their bytes. -/
structure TicketInRange (r : RawTicket) : Prop where
  id          : r.id < 2 ^ 32
  blockId     : r.blockId < 2 ^ 64
  coverId     : ∀ c, r.coverId = some c → c < 2 ^ 64
  profile     : r.profile ≤ 15
  blockWidth  : Dimension 100000 340000 r.blockWidth
  blockHeight : Dimension 140000 360000 r.blockHeight
  nominal     : Dimension 2000 60000 r.nominal
  tolerance   : Dimension 100 5000 r.tolerance
  millDepth   : Dimension 0 3000 r.millDepth
  trimWidth   : Dimension 90000 250000 r.trimWidth
  trimHeight  : Dimension 120000 340000 r.trimHeight
  footMargin  : OptDimension 2000 30000 r.footMargin
  coverStock  : Dimension 100 800 r.coverStock
  coverWidth  : Dimension 190000 600000 r.coverWidth
  hinge       : OptDimension 4000 12000 r.hinge
  sideGlue    : OptDimension 3000 10000 r.sideGlue

/-- Bytes of an optional field: none when it is absent (R3). -/
def optBytes (w : Nat) : Option Nat → List Byte
  | some x => leBytes w x
  | none => []

/-- The presence byte of a ticket (R3). -/
def presenceBits (r : RawTicket) : Nat :=
  r.coverId.isSome.toNat + 2 * r.footMargin.isSome.toNat + 4 * r.hinge.isSome.toNat
    + 8 * r.sideGlue.isSome.toNat + 16 * r.sample.toNat

/-- The payload of a TICKET request: the presence byte, then the fields in the order of R1 (R3). -/
def encodeTicket (r : RawTicket) : List Byte :=
  leBytes 1 (presenceBits r) ++ leBytes 4 r.id ++ leBytes 8 r.blockId ++ optBytes 8 r.coverId
    ++ leBytes 1 r.profile ++ leBytes 4 r.blockWidth ++ leBytes 4 r.blockHeight ++ leBytes 4 r.nominal
    ++ leBytes 4 r.tolerance ++ leBytes 4 r.millDepth ++ leBytes 4 r.trimWidth ++ leBytes 4 r.trimHeight
    ++ optBytes 4 r.footMargin ++ leBytes 4 r.coverStock ++ leBytes 4 r.coverWidth ++ optBytes 4 r.hinge
    ++ optBytes 4 r.sideGlue

/-- The three trims lie in 2,000 to 30,000 micrometres (R8). -/
structure TrimsInLimits (t : Ticket) : Prop where
  front : 2000 ≤ (t.blockWidth : Int) - t.millDepth - t.trimWidth
    ∧ (t.blockWidth : Int) - t.millDepth - t.trimWidth ≤ 30000
  foot  : 2000 ≤ t.footMargin ∧ t.footMargin ≤ 30000
  head  : 2000 ≤ (t.blockHeight : Int) - t.footMargin - t.trimHeight
    ∧ (t.blockHeight : Int) - t.footMargin - t.trimHeight ≤ 30000

/-- Every field of a profile entry lies in its range (R19). -/
structure Profile.InRange (p : Profile) : Prop where
  fixedStep : p.fields.fixedStep ≤ 15
  thinStep  : p.fields.thinStep ≤ 15
  thickStep : p.fields.thickStep ≤ 15
  baseStep  : p.fields.baseStep ≤ 15
  threshold : Dimension 2000 60000 p.fields.threshold
  offset    : -7 ≤ p.fields.offset ∧ p.fields.offset ≤ 7
  sideStep  : p.fields.sideStep ≤ 15
  openTime  : 20 ≤ p.fields.openTime ∧ p.fields.openTime ≤ 150
  coolDwell : 50 ≤ p.fields.coolDwell ∧ p.fields.coolDwell ≤ 1800

/-- Every line setting lies in its range (11.4). -/
structure Settings.InRange (c : Settings) : Prop where
  workTemp      : 100 ≤ c.workTemp ∧ c.workTemp ≤ 200
  standbyDrop   : 10 ≤ c.standbyDrop ∧ c.standbyDrop ≤ 80
  standbyDelay  : 10 ≤ c.standbyDelay ∧ c.standbyDelay ≤ 600
  parkDelay     : 60 ≤ c.parkDelay ∧ c.parkDelay ≤ 7200
  loadWait      : 100 ≤ c.loadWait ∧ c.loadWait ≤ 2000
  leadThreshold : c.leadThreshold ≤ 63

/-! ## Terms of the statements -/

/-- The part hears a request's frame as a frame of its own: it is not held in reset, and no frame is begun (R172,
R175). -/
def Hears (s : State) : Prop := s.pins.inReset = false ∧ frameOpen s = false

/-- The part takes a request at once: its frame is heard, no request is pending and no reply is owed (R175, R176). -/
def TakesRequest (s : State) : Prop := Hears s ∧ overlapped s = false

/-- The state in which a host request's owner takes it: the outputs of the step empty, no frame begun. -/
def begun (s : State) : State := clearRx (clearOut s)

/-- The bytes of a reply's payload: the result code and the data (R177). -/
def replyBytes (r : Result) (data : List Byte) : List Byte := leBytes 1 r.code ++ data

/-- A request of the kind and tag is answered: its reply is on the transmit line or waits for it (R176). -/
def Answered (kind tag : Byte) (r : Result) (data : List Byte) (t : State) : Prop :=
  t.host.tx = some ⟨replyKind kind, tag, replyBytes r data⟩
    ∨ t.host.request = some ⟨kind, tag, some (replyBytes r data)⟩

/-- A NOTICE with a code and a subject is on the transmit line or in its latch (R181). -/
def Noticed (n : Notice) (subject : BitVec 32) (t : State) : Prop :=
  t.host.notice = some (n, subject)
    ∨ t.host.tx = some ⟨0x40, 0, leBytes 1 n.code ++ leBytes 4 subject.toNat⟩

/-- Kind and tag of a host request that its owner answers at once (R177): STORE, RESET and a request taken under
the overlap rule have statements of their own. -/
def requestOf : Instr → Option (Byte × Byte)
  | .ticket g _ => some (0x01, g) | .withdraw g _ => some (0x02, g) | .profilePut g _ => some (0x03, g)
  | .profileGet g _ => some (0x04, g) | .clampPut g _ => some (0x05, g) | .clampGet g _ => some (0x06, g)
  | .glueChange g _ => some (0x07, g) | .start g _ => some (0x08, g) | .halt g _ => some (0x09, g)
  | .hold g _ => some (0x0A, g) | .resume g _ => some (0x0B, g) | .park g _ => some (0x0C, g)
  | .clearLine g _ => some (0x0D, g) | .clearTrimmer g => some (0x0D, g) | .collect g _ => some (0x0E, g)
  | .nodes g _ => some (0x0F, g) | .contacts g _ => some (0x10, g) | .status g _ => some (0x11, g)
  | .trace g _ => some (0x12, g) | .settingsPut g _ => some (0x13, g) | .settingsGet g _ => some (0x14, g)
  | _ => none

/-- The frame of a request command; an overlap is told of by the request's own command (R174, R177). -/
def requestFrame : Instr → Option HostFrame
  | .store g p => some ⟨0x15, g, p⟩
  | .reset g p => some ⟨0x16, g, p⟩
  | .unknownKind k g p => if isRequestKind k then none else some ⟨k, g, p⟩
  | c => (requestOf c).map fun e => ⟨e.1, e.2, c.payload⟩

/-- A reply that comes to be owed stays owed for now: a frame is on the transmit line, or a STORE's save is pending with
no report to send (R176, R182). -/
def OwedWaits (h : HostLink) : Prop :=
  h.tx ≠ none ∨ ((∃ k g, h.request = some ⟨k, g, none⟩) ∧ h.notice = none ∧ h.stateRep = none ∧ h.doneReady = none
    ∧ h.ticketsLow = none)

/-- The record that a holder waits to write (R132). -/
def waitingRecord (s : State) : Holder → Option Book
  | .clamp c => bookIn s c
  | .cooling => s.dlv.cooling.head?
  | .trimmer => match s.trim.held with
    | .out b => some b
    | _ => none

/-- The outcome that a holder gives as producer to a record without a reason (R127, R131, R146, R147). -/
def producerOutcome (s : State) : Holder → BookOutcome
  | .trimmer => match s.trim.dest with
    | .good => .good
    | .sample => .sample
    | .reject => .rejected
  | _ => .rejected

/-- A waiting record as it is written: its out time, and REJECT when it carries a reason (R17, R132). -/
def writtenRecord (s : State) (h : Holder) : Option Book :=
  (waitingRecord s h).map fun b => { b with
    outTime := some s.clock, outcome := some (if b.reason = none then producerOutcome s h else .rejected) }

/-- Length of the payload of a request whose kind fixes it (R177); TICKET has its own format check (R3). -/
def payloadLength : Instr → Option Nat
  | .withdraw _ _ | .trace _ _ => some 4
  | .profilePut _ _ => some 17
  | .profileGet _ _ | .clampGet _ _ | .glueChange _ _ | .clearLine _ _ | .collect _ _ => some 1
  | .clampPut _ _ => some 5
  | .settingsPut _ _ => some 10
  | .start _ _ | .halt _ _ | .hold _ _ | .resume _ _ | .park _ _ | .nodes _ _ | .contacts _ _ | .status _ _
  | .settingsGet _ _ => some 0
  | _ => none

/-- A TICKETS_LOW report with a count is on the transmit line or in its latch (R15, R181). -/
def LowReported (n : Nat) (t : State) : Prop :=
  t.host.ticketsLow = some n ∨ t.host.tx = some ⟨0x43, 0, leBytes 1 n⟩

/-- A DONE_READY report with a count is on the transmit line or in its latch (R134, R181). -/
def ReadyReported (n : Nat) (t : State) : Prop :=
  t.host.doneReady = some n ∨ t.host.tx = some ⟨0x42, 0, leBytes 1 n⟩

/-- The carousel makes no index decision on a request: it is not standing with its worked mark set (R57). -/
def Undecided (s : State) : Prop := s.car.state ≠ .standing ∨ s.car.worked = false

/-- The request waits at a requester, or is on the bus, or waits its 5 ms (R156, R162). -/
def Asked (b : Bus) (n : NodeId) (k : ReqKind) : Prop :=
  (∃ f ∈ b.carQ ++ b.trimQ ++ b.coolQ ++ b.probeQ, ∃ q, f = .req ⟨n, k, q⟩)
    ∨ (∃ q g w, b.current = some (.request ⟨n, k, q⟩ g w)) ∨ (∃ q w, (⟨n, k, q⟩, w) ∈ b.busyWait)

/-- A book record is as it was, or has been given a reject reason that it did not have (R17). -/
def BookKept (a b : Book) : Prop := b = a ∨ (a.reason = none ∧ ∃ r, b = { a with reason := some r })

/-- Every clamp keeps its use mark, its zero offset and its book, which may have been given a reject reason. -/
structure ClampsKept (s t : State) : Prop where
  mark  : ∀ c, (clampRec t c).mark = (clampRec s c).mark
  zero  : ∀ c, (clampRec t c).zero = (clampRec s c).zero
  empty : ∀ c, bookIn s c = none → bookIn t c = none
  book  : ∀ c b, bookIn s c = some b → ∃ b', bookIn t c = some b' ∧ BookKept b b'

/-- The tables, settings, contacts, pins and stored image are as they were. -/
structure TablesKept (s t : State) : Prop where
  clock    : t.clock = s.clock
  profiles : t.profiles = s.profiles
  settings : t.settings = s.settings
  family   : t.glue.family = s.glue.family
  scan     : t.scan = s.scan
  pins     : t.pins = s.pins
  store    : t.store = s.store
  pending  : t.pending = s.pending

/-- The books outside the carousel and their counts are as they were. -/
structure DeliveryKept (s t : State) : Prop where
  cooling   : t.dlv.cooling = s.dlv.cooling
  done      : t.dlv.done = s.dlv.done
  waiters   : t.dlv.waiters = s.dlv.waiters
  loaded    : t.dlv.loaded = s.dlv.loaded
  collected : t.dlv.collected = s.dlv.collected
  held      : t.trim.held = s.trim.held

/-- The frame of the line's and the carousel's own work: the ticket queue, the clamps, the books outside the
carousel, the tables, settings, contacts, pins and the stored image are as they were. -/
structure LineKept (s t : State) : Prop where
  tables : TablesKept s t
  books  : DeliveryKept s t
  clamps : ClampsKept s t
  queue  : t.tickets.queue = s.tickets.queue

/-- A fresh entry into RUNNING or DRAINING finds no hold cause: no guard open, no closed COVER_EMPTY contact, and no
pot out of its band that matters (R105, R110). -/
structure EntryClear (s : State) : Prop where
  guards : anyGuardOpen s = false
  covers : coverEmptyClosed s = false
  band   : s.glue.target.isWorking = true → s.glue.outOfBand = false
  heat   : s.glue.target.isWorking = false → outOfBandOf s.glue.reading s.settings.workTemp = false

/-- The enable outputs, the FAULT lamp and a READY lamp that does not flash follow the line state and the e-stop latch,
and the pot target follows the line state and the settings (R75, R121). -/
structure OutputsFollow (s : State) : Prop where
  fault  : s.line.lamps.fault = (s.line.state == .faulted)
  heat   : s.line.lamps.heat = !(s.line.state == .starting || s.line.state == .parked || s.line.state == .faulted)
  drive  : s.line.lamps.drive = !(s.line.state == .starting || s.line.state == .parked || s.line.state == .faulted)
  trim   : s.line.lamps.trim = (s.line.state != .starting && !s.line.estopLatch)
  ready  : s.line.state ≠ .warming → s.line.state ≠ .held →
    s.line.lamps.ready = (s.line.state == .running || s.line.state == .draining)
  target : s.glue.target = match s.line.state with
    | .warming | .running | .draining | .held => .working s.settings.workTemp
    | .standby => .standby (s.settings.workTemp - s.settings.standbyDrop)
    | .parked | .starting | .faulted => .off

/-- A job of a station is in flight in the present dwell, the slot of its node is the one on the bus, and the node's
other jobs are not in flight: the next slot answer of the node speaks of this job alone (R50, R154). -/
structure AnswersJob (s : State) (st : Station) (j : Job) (tag : Byte) (slot : Nat) : Prop where
  live     : s.pins.inReset = false
  bus      : s.bus.current = some (.poll tag slot)
  slot     : slotNode slot = some (stationNode st)
  tag      : tag = s.car.tag
  dwelling : s.car.state = .dwelling
  job      : jobAt s st = some j
  sent     : j.status = .issued ∨ j.status = .busy
  open_    : j.releaseDone = false
  alone    : ∀ k ∈ s.car.jobs, stationNode k.item.station = stationNode st →
    k.item.station = st ∨ k.status ≠ .issued ∧ k.status ≠ .busy

/-- A job of another station has not ended, so that the dwell goes on (R53). -/
def DwellGoesOn (s : State) (st : Station) : Prop := ∃ k ∈ s.car.jobs, k.item.station ≠ st ∧ k.ended = false

/-- The job has ended with a status and the node's slot has closed (R50, R153). -/
structure JobClosed (t : State) (st : Station) (j : Job) (e : JobStatus) (tag : Byte) (slot : Nat) : Prop where
  job     : jobAt t st = some { j with status := e, limit := .suspended }
  bus     : t.bus.current = some (.poll tag (slot + 1))
  dwell   : t.car.state = .dwelling
  present : present t (stationNode st) = true ∧ (nodeRec t (stationNode st)).misses = 0

/-- No frame waits at a requester (R162). -/
structure NothingWaits (b : Bus) : Prop where
  carousel : b.carQ = []
  trimmer  : b.trimQ = []
  cooling  : b.coolQ = []
  probe    : b.probeQ = []

/-- The request is on the bus with its number, not given up and in its reply window, its node PRESENT, and nothing waits
for the bus (R153, R156). -/
structure AnswersRequest (s : State) (n : NodeId) (k : ReqKind) (q : Byte) : Prop where
  live    : s.pins.inReset = false
  bus     : ∃ w, s.bus.current = some (.request ⟨n, k, some q⟩ false w) ∧ (s.clock - w).toNat ≤ 2
  present : present s n = true
  quiet   : NothingWaits s.bus

/-- An answer of a node has been taken: PRESENT with no miss, and the transaction has ended (R152, R153). -/
def heard (n : NodeId) (s : State) : State :=
  { clearOut s with bus := { s.bus with
    current := none
    nodes := s.bus.nodes.set (nodeIdx n).val
      { nodeRec s n with state := .present, misses := 0, lastAnswer := s.clock } } }

/-- A request of nodes 7 to 9 has been sent as the one frame of the step, with the next sequence number and the
acknowledgement that was pending (R156, R160). -/
def SentNow (s t : State) (n : NodeId) (k : ReqKind) : Prop :=
  t.bus.current = some (.request ⟨n, k, some ((nodeRec s n).seq + 1)⟩ false s.clock)
    ∧ t.busOut = [BusContent.frame (.request n k ((nodeRec s n).seq + 1) (nodeRec s n).ackPending)]

/-- The line is in a state that a fault takes it out of (R118). -/
def Faultable (s : State) : Prop :=
  s.line.state = .warming ∨ s.line.state = .running ∨ s.line.state = .draining ∨ s.line.state = .held
    ∨ s.line.state = .standby

/-- The line has entered FAULTED from a state it can: the cause, the outputs, no holds and no timers, and every loaded
book carries a reason; from any other state the line has not moved (R118). -/
structure LineFaulted (s t : State) (c : FaultCause) : Prop where
  state   : Faultable s → t.line.state = .faulted
  cause   : Faultable s → t.line.cause = some c
  lamps   : Faultable s → t.line.lamps = ⟨false, true, false, false, !s.line.estopLatch⟩
  holds   : Faultable s → t.line.holds.any = false
  timers  : Faultable s → t.line.warmTimer = none ∧ t.line.standbyTimer = none ∧ t.line.parkTimer = none
  target  : Faultable s → t.glue.target = .off
  reasons : Faultable s → ∀ d b, bookIn t d = some b → b.reason ≠ none
  still   : s.line.state = .starting ∨ s.line.state = .parked → t.line = s.line
  again   : s.line.state = .faulted → t.line = { s.line with cause := some c }

/-- A scan falls due whose one change for an owner is a contact's closing or opening, with no new ghost at a guard
(R165 to R169). -/
structure HandsChange (s : State) (r : BitVec 64) (i : Fin 64) (closing : Bool) : Prop where
  live  : s.pins.inReset = false
  due   : 2 ≤ (s.clock - s.scan.scanBase).toNat
  later : s.scan.firstScan = false
  only  : handedChanges false s.scan.contacts (scanPass false r (List.finRange 64) s.scan.contacts) = [(i, closing)]
  quiet : ∀ k ∈ guards, (scanPass false r (List.finRange 64) s.scan.contacts)[k].uncertain = true →
    s.scan.contacts[k].uncertain = true

/-- The state in which the owners take a scan's changes (R165). -/
def scanned (r : BitVec 64) (s : State) : State :=
  { clearOut s with scan :=
    ⟨scanPass false r (List.finRange 64) s.scan.contacts, false, s.scan.scanBase + 2⟩ }

/-- The count of a station (R51). -/
def overrunCount (s : State) (st : Station) : Nat := s.car.overruns[stationIdx st]

/-- Every job of the present list but the station's has ended (R53). -/
def LastOpen (s : State) (st : Station) : Prop := ∀ k ∈ s.car.jobs, k.item.station = st ∨ k.ended = true

/-- The answer ends the job, moves no book from or to a clamp, and makes no hold and no fault: a draw whose attempts
leave the mismatch count below 2, a divert that is not the third, a FAILED release after none (R51, R65, R87). -/
def EndsQuietly (s : State) (j : Job) (a : JobAnswer) : Prop :=
  match j.item.station with
  | .mill | .spine | .side | .apply | .nip => (∃ r, a = .done r) ∨ ∃ l, a = .failed l
  | .load => (∃ l, a = .failed l)
      ∨ ((∃ b w, j.item.params = .load b w) ∧ (a = .done .noBlock
        ∨ s.car.diverts < 2 ∧ (a = .done .unreadable ∨ ∃ x, a = .done (.mismatch x))))
      ∨ (j.item.params = .learn ∧ ∃ g, a = .done (.gap g))
  | .draw => (∃ l, a = .failed l ∧ (l = [] ∨ countAttempts s.cover.mismatch l < 2))
      ∨ ∃ f e n c l, j.item.params = .draw f e n c ∧ a = .done (.draw l) ∧ l ≠ [] ∧ l.length ≤ n
        ∧ countAttempts s.cover.mismatch l < 2
  | .release => (∃ l, a = .failed l) ∧ overrunCount s .release = 0

/-- The command ends the last open job of a dwell, the job of the clamp `at_`, and empties the clamp `out`: a slot
answer that ends it, GLUE's with a reading in its band or none; its overrun limit, the first of its station; a release's DONE
with an early drop; and a closing of DROP_CONFIRM with the drop watch open, whose release job has not ended (R51, R53,
R125, R126). A cooling queue that is not empty makes no head decision at the drop (R126). -/
inductive EndsDwell (s : State) : Instr → Fin 20 → Option (Fin 20) → Prop
  | answer {st : Station} {j : Job} {tag : Byte} {slot : Nat} {a : JobAnswer} {temp : Option Nat} :
    AnswersJob s st j tag slot → LastOpen s st → EndsQuietly s j a →
    (∀ x, temp = some x → outOfBandOf (some x) s.settings.workTemp = false) →
    EndsDwell s (.slotAnswer (stationNode st) [(st, a)] temp ⟨false, true⟩) j.item.clamp none
  | overrun {st : Station} {j : Job} {w : Time} :
    s.pins.inReset = false → s.car.state = .dwelling → LastOpen s st → jobAt s st = some j → j.inFlight = true →
    j.limit = .running w → 3000 ≤ (s.clock - w).toNat → overrunCount s st = 0 →
    EndsDwell s (.jobOverrun st) j.item.clamp none
  | earlyDrop {j : Job} {tag : Byte} {slot : Nat} {r : JobResult} {b : Book} :
    AnswersJob s .release j tag slot → LastOpen s .release → s.dlv.dropWatch = .early →
    bookIn s j.item.clamp = some b → s.dlv.cooling ≠ [] →
    EndsDwell s (.slotAnswer .release [(.release, .done r)] none ⟨false, true⟩) j.item.clamp (some j.item.clamp)
  | drop {j : Job} {r : BitVec 64} {k : Fin 20} {w : Time} {b : Book} :
    HandsChange s r 1 true → s.car.state = .dwelling → LastOpen s .release → jobAt s .release = some j →
    j.ended = false → s.dlv.dropWatch = .opened k w → bookIn s k = some b → s.dlv.cooling ≠ [] →
    EndsDwell s (.scanEnd r) k (some k)

/-! ## Invariants -/

/-- The conservation of books, with what it rests on: the trimmer holds no book while it is IDLE or while an
infeed push is in flight (R129, R135, R136). -/
structure Conserved (s : State) : Prop where
  balance    : s.dlv.loaded = BitVec.ofNat 32 (booksOnLine s) + s.dlv.collected
  idleEmpty  : s.trim.state = .idle → s.trim.held = .none
  infeedFree : s.dlv.gate = .infeedPush → s.trim.held = .none

/-- Ticket ids are unique on the line and never 0 (R4, R6). -/
def IdsUnique (s : State) : Prop := (heldIds s).Nodup ∧ 0 ∉ heldIds s

/-- The bounds of eleven counts: queued tickets, done records, diverts, cover mismatches, settle timeouts, overruns,
misses, restarts, contact readings, jobs and owed BUSY tags (R9, R47, R51, R65, R83, R123, R136, R152, R165, R176). -/
structure Bounded (s : State) : Prop where
  tickets   : s.tickets.queue.length ≤ 64
  jobs      : s.car.jobs.length ≤ 8
  owed      : busyOwed s.host ≤ 8
  done      : s.dlv.done.length ≤ 32
  diverts   : s.car.diverts ≤ 3
  mismatch  : s.cover.mismatch ≤ 2
  settles   : s.trim.settleCount ≤ 2
  overruns  : ∀ i : Fin 8, s.car.overruns[i] ≤ 2
  misses    : ∀ i : Fin 9, s.bus.nodes[i].misses ≤ 3
  restarts  : ∀ i : Fin 9, s.bus.nodes[i].restarts ≤ 255
  counts    : ∀ i : Fin 64, s.scan.contacts[i].count ≤ 2

/-- The fault causes of the line and of the trimmer are none in every state but FAULTED, and named in it (R99,
R118, R136, R149). -/
structure CausesMatch (s : State) : Prop where
  line    : s.line.cause.isSome = (s.line.state == .faulted)
  trimmer : s.trim.cause.isSome = (s.trim.state == .faulted)

/-- Four contacts are the corners of a rectangle of the matrix, all four CLOSED (R167). -/
def closedRectangle (v : Vector Contact 64) (a c b d : Fin 8) : Bool :=
  a != c && b != d && v[crossing a b].closed && v[crossing a d].closed && v[crossing c b].closed
    && v[crossing c d].closed

/-- An UNCERTAIN contact holds OPEN, and no rectangle is held with four corners closed (R167). -/
structure MatrixSound (s : State) : Prop where
  uncertainOpen : ∀ i : Fin 64, s.scan.contacts[i].uncertain = true → s.scan.contacts[i].closed = false
  noRectangle   : ∀ a c b d : Fin 8, closedRectangle s.scan.contacts a c b d = false

/-- Nothing that could be sent waits behind a free line: a free transmit line has no reply and no report to send,
and a free bus has no frame waiting (R162, R182). -/
structure LinesServed (s : State) : Prop where
  transmit : s.host.tx = none → nextFrame s.host = none
  bus      : s.bus.current = none → s.bus.waiting = 0

end Sys2Proof.Machine
end

