-- ==== Sys2Proof/Certificates/Slice0/Obligations.lean ====
section
/-! DEFINITION. The statements for the provers, in the order of OBLIGATIONS.json. -/

open Sys2Proof Sys2Proof.Machine

/-! ## The queue of commands -/

/-- A command at the front of the queue is run, as its meaning says, with the queue's rest. The model's own choice
(log 1): with no command waiting 1 ms of line clock passes, but not in reset. -/
def Obligations.StepRunsFrontCommandElseTicks : Prop :=
  (∀ (c : Instr) (s : State), step { s with pending := c :: s.pending } = exec c s)
  ∧ (∀ s : State, s.pending = [] →
      (s.pins.inReset = false → step s = .next { s with clock := s.clock + 1, busOut := [] })
        ∧ (s.pins.inReset = true → step s = .next s))

/-- No command stops the part, and no command touches the queue behind it. -/
def Obligations.EveryCommandCompletes : Prop :=
  ∀ (c : Instr) (s : State), ∃ t, exec c s = .next t ∧ t.pending = s.pending

/-! ## Requests in general (R177, R186) -/

/-- A request that is not overlapped has one reply. A refusal carries no data and changes nothing; whatever else
happens, the reply is on the transmit line or is the next to go there (R177, R182). The model's own choices in it:
the reply is ready within the event (log 4). -/
def Obligations.RequestsAnsweredRefusalsChangeNothing : Prop :=
  ∀ (c : Instr) (s : State) (k g : Byte), requestOf c = some (k, g) → TakesRequest s →
    (∃ r, r ≠ .ok ∧ exec c s = .next (respond k g r [] (begun s)) ∧ Answered k g r [] (respond k g r [] (begun s)))
      ∨ ∃ u data, exec c s = .next (respond k g .ok data u) ∧ Answered k g .ok data (respond k g .ok data u)
        ∧ u.pending = s.pending

/-- In STARTING every request but STATUS, RESET and one of an unknown kind is answered WRONG_STATE (R186). Outside
STARTING a payload of another length than the kind's is answered BAD_FORMAT (R177). The model's own choices in it:
the reply is ready within the event (log 4). -/
def Obligations.RequestStateAndFormatChecks : Prop :=
  (∀ (s : State), TakesRequest s → s.line.state = .starting →
      (∀ (c : Instr) (k g : Byte), requestOf c = some (k, g) → k ≠ 0x11 →
        exec c s = .next (respond k g .wrongState [] (begun s)))
      ∧ ∀ (g : Byte) (p : List Byte), exec (.store g p) s = .next (respond 0x15 g .wrongState [] (begun s)))
  ∧ (∀ (s : State), TakesRequest s → s.line.state ≠ .starting →
      (∀ (c : Instr) (k g : Byte) (n : Nat), requestOf c = some (k, g) → payloadLength c = some n →
        c.payload.length ≠ n → exec c s = .next (respond k g .badFormat [] (begun s)))
      ∧ ∀ (g : Byte) (p : List Byte), p ≠ [] → exec (.store g p) s = .next (respond 0x15 g .badFormat [] (begun s)))

/-! ## Tickets (chapter 1) -/

/-- The fields of an in-range ticket survive the link: the payload of R3 is read back field for field. -/
def Obligations.TicketPayloadRoundTrip : Prop :=
  ∀ r : RawTicket, TicketInRange r →
    parseTicket (encodeTicket r) = some r ∧ (encodeTicket r).length = ticketLength (presenceBits r)

/-- A ticket that passes the six checks of R4 joins the tail of the queue, and the reply carries the new count (R9).
All else is as the arrival leaves it: the rest of the part is untouched, but for what a standing carousel or a line
in STANDBY does with the arrival. The first check that fails gives the result code, and the ticket is discarded
(R4). The model's own choices in it: the reply is ready within the event (log 4); each line state passed through has
its effects (log 12). -/
def Obligations.TicketJoinsTailOrIsRefused : Prop :=
  (∀ (g : Byte) (r : RawTicket) (s : State), TakesRequest s → s.line.state ≠ .starting → TicketInRange r →
      r.id ≠ 0 → r.toTicket.id ∉ heldIds s → s.profiles[r.toTicket.profile].valid = true →
      s.profiles[r.toTicket.profile].fields.family = s.glue.family → TrimsInLimits r.toTicket →
      s.tickets.queue.length < 64 →
      let u := { s with tickets := { s.tickets with queue := s.tickets.queue ++ [r.toTicket] } }
      ∃ t, exec (.ticket g (encodeTicket r)) s = .next t
        ∧ LineKept u t ∧ Answered 0x01 g .ok (leBytes 1 (s.tickets.queue.length + 1)) t
        ∧ (s.line.state ≠ .standby → Undecided s →
          t = respond 0x01 g .ok (leBytes 1 (s.tickets.queue.length + 1)) (begun u)))
  ∧ (∀ (g : Byte) (p : List Byte) (s : State), TakesRequest s → s.line.state ≠ .starting →
      let refused := fun code => exec (.ticket g p) s = .next (respond 0x01 g code [] (begun s))
      (parseTicket p = none → refused .badFormat)
      ∧ ∀ r, parseTicket p = some r →
        (¬TicketInRange r → refused .badRange)
        ∧ (TicketInRange r → (r.id = 0 ∨ r.toTicket.id ∈ heldIds s) → refused .duplicate)
        ∧ (TicketInRange r → r.id ≠ 0 → r.toTicket.id ∉ heldIds s →
          let e := s.profiles[r.toTicket.profile]
          (e.valid = false → refused .profile)
          ∧ (e.valid = true → e.fields.family ≠ s.glue.family → refused .family)
          ∧ (e.valid = true → e.fields.family = s.glue.family →
            (¬TrimsInLimits r.toTicket → refused .badGeometry)
            ∧ (TrimsInLimits r.toTicket → 64 ≤ s.tickets.queue.length → refused .full))))

/-- WITHDRAW takes an unreserved ticket out of the queue, the others keeping their order; TICKETS_LOW is raised when
the count falls to the lead threshold (R13, R15). Nothing else changes. The refusals of R13: a reserved head is
LOCKED, an id held beyond the queue gives WRONG_STATE, and one not held gives NOT_FOUND. The model's own choices in
it: the reply is ready within the event (log 4); a report raised by the request goes before its reply (log 29). -/
def Obligations.WithdrawRemovesOrRefuses : Prop :=
  (∀ (g : Byte) (id : TicketId) (s : State), TakesRequest s → s.line.state ≠ .starting → IdsUnique s →
      id ∈ queueIds s → reservedHead id s = false →
      let n := s.tickets.queue.length - 1
      let u := { s with tickets := { s.tickets with queue := s.tickets.queue.filter (fun t => t.id != id) } }
      ∃ t, exec (.withdraw g (leBytes 4 id.toNat)) s = .next t
        ∧ (∃ h, t = { begun u with host := h }) ∧ t.tickets.queue.length = n
        ∧ Answered 0x02 g .ok [] t
        ∧ (s.settings.leadThreshold = n → LowReported n t)
        ∧ (s.settings.leadThreshold ≠ n → t = respond 0x02 g .ok [] (begun u)))
  ∧ (∀ (g : Byte) (id : TicketId) (s : State), TakesRequest s → s.line.state ≠ .starting → IdsUnique s →
      let refused := fun code => exec (.withdraw g (leBytes 4 id.toNat)) s = .next (respond 0x02 g code [] (begun s))
      (s.tickets.reserved = true → s.tickets.queue.head?.map (·.id) = some id → refused .locked)
      ∧ (id ∈ heldIds s → id ∉ queueIds s → refused .wrongState)
      ∧ (id = 0 ∨ id ∉ heldIds s → refused .notFound))

/-! ## Profiles, clamps, settings (chapters 2, 3 and 11) -/

/-- A PROFILE_PUT of an in-range entry replaces the twelve fields of its profile and nothing else; it is LOCKED when
a queued ticket names the profile and the entry changes the family or is not valid (R21, R22). A PROFILE_PUT with a
byte outside its coding or range is BAD_RANGE: the entry of a 17-byte payload is in range whenever it is accepted,
and the payload is the layout of 2.2 of that entry (R21). The model's own choices in it: the reply is ready within
the event (log 4). -/
def Obligations.ProfilePutChecksAndReplaces : Prop :=
  (∀ (g : Byte) (n : Fin 16) (p : Profile) (s : State), TakesRequest s → s.line.state ≠ .starting → p.InRange →
      let locked := (∃ t ∈ s.tickets.queue, t.profile = n)
        ∧ (p.fields.family ≠ s.profiles[n].fields.family ∨ p.valid = false)
      (¬locked → exec (.profilePut g (encodeProfile n p)) s =
        .next (respond 0x03 g .ok [] { begun s with profiles := s.profiles.set n.val p }))
      ∧ (locked → exec (.profilePut g (encodeProfile n p)) s = .next (respond 0x03 g .locked [] (begun s))))
  ∧ (∀ (g : Byte) (payload : List Byte) (s : State), TakesRequest s → s.line.state ≠ .starting → payload.length = 17 →
      (∃ n p, p.InRange ∧ payload = encodeProfile n p)
        ∨ exec (.profilePut g payload) s = .next (respond 0x03 g .badRange [] (begun s)))

/-- The bytes of a PROFILE_GET's reply are the entry as it stands, field for field; nothing changes (R24). The 10
bytes of a CLAMP_GET's reply show the clamp as it stands, and nothing changes (R42). The model's own choices in it:
the reply is ready within the event (log 4). -/
def Obligations.ProfileAndClampGetShowTables : Prop :=
  (∀ (g : Byte) (p : List Byte) (s : State), TakesRequest s →
      (s.line.state = .starting → exec (.profileGet g p) s = .next (respond 0x04 g .wrongState [] (begun s)))
      ∧ (s.line.state ≠ .starting →
        (p.length ≠ 1 → exec (.profileGet g p) s = .next (respond 0x04 g .badFormat [] (begun s)))
        ∧ ∀ b : Byte, p = [b] →
          (16 ≤ b.toNat → exec (.profileGet g p) s = .next (respond 0x04 g .badRange [] (begun s)))
          ∧ ∀ n : Fin 16, b.toNat = n.val → ∃ d, exec (.profileGet g p) s = .next (respond 0x04 g .ok d (begun s))
            ∧ d.length = 17 ∧ byteAt d 0 = n.val ∧ byteAt d 1 = s.profiles[n].valid.toNat
            ∧ (s.profiles[n].InRange →
              let f := s.profiles[n].fields
              byteAt d 2 = (match f.family with | .hotmelt => 0 | .pur => 1)
              ∧ byteAt d 3 = (match f.mode with | .fixed => 0 | .twoClass => 1 | .computed => 2)
              ∧ byteAt d 4 = f.fixedStep ∧ byteAt d 5 = f.thinStep ∧ byteAt d 6 = f.thickStep
              ∧ byteAt d 7 = f.baseStep ∧ natAt d 8 4 = f.threshold ∧ toSigned 8 (byteAt d 12) = f.offset
              ∧ byteAt d 13 = f.sideStep ∧ byteAt d 14 = f.openTime ∧ natAt d 15 2 = f.coolDwell)))
  ∧ (∀ (g : Byte) (p : List Byte) (s : State), TakesRequest s →
      (s.line.state = .starting → exec (.clampGet g p) s = .next (respond 0x06 g .wrongState [] (begun s)))
      ∧ (s.line.state ≠ .starting →
        (p.length ≠ 1 → exec (.clampGet g p) s = .next (respond 0x06 g .badFormat [] (begun s)))
        ∧ ∀ b : Byte, p = [b] →
          (20 ≤ b.toNat → exec (.clampGet g p) s = .next (respond 0x06 g .badRange [] (begun s)))
          ∧ ∀ c : Fin 20, b.toNat = c.val → -500 ≤ (clampRec s c).zero → (clampRec s c).zero ≤ 500 →
            ∃ d, exec (.clampGet g p) s = .next (respond 0x06 g .ok d (begun s)) ∧ d.length = 10
              ∧ byteAt d 0 = c.val
              ∧ byteAt d 1 = (match (clampRec s c).mark with | .inUse => 0 | .outOfUse => 1 | .suspect => 2)
              ∧ toSigned 16 (natAt d 2 2) = (clampRec s c).zero
              ∧ (∀ φ, s.car.phaseKnown = true → s.car.phase = some φ → byteAt d 4 = (c.val + φ.val) % 20)
              ∧ (s.car.phaseKnown = false → byteAt d 4 = 255)
              ∧ (bookIn s c = none → byteAt d 5 = 0 ∧ natAt d 6 4 = 0)
              ∧ (∀ b, bookIn s c = some b → byteAt d 5 = 1 ∧ natAt d 6 4 = b.ticket.id.toNat)))

/-- A CLAMP_PUT replaces the fields its selector names and the carousel, standing, decides again; a clamp that is
loaded or has a P0 job in flight is LOCKED against a change (R40, R41). Check 3 of R40 covers all four fields: a
clamp number above 19, a selector other than 1 to 3, a use mark other than 0 and 1 or an offset beyond 500 either
way is BAD_RANGE. The model's own choices in it: the reply is ready within the event (log 4). -/
def Obligations.ClampPutChecksAndReplaces : Prop :=
  (∀ (g : Byte) (c : Fin 20) (selector : Nat) (out : Bool) (z : Int) (s : State), TakesRequest s →
      s.line.state ≠ .starting → 1 ≤ selector → selector ≤ 3 → -500 ≤ z → z ≤ 500 →
      let payload := leBytes 1 c.val ++ leBytes 1 selector ++ leBytes 1 out.toNat ++ leBytes 2 (ofSigned 16 z)
      let mark := if selector = 2 then (clampRec s c).mark else if out then UseMark.outOfUse else .inUse
      let zero := if selector = 1 then (clampRec s c).zero else z
      let guarded := (bookIn s c).isSome = true
        ∨ ∃ j ∈ s.car.jobs, j.item.station = .load ∧ j.item.clamp = c ∧ j.ended = false
      let changes := mark ≠ (clampRec s c).mark ∨ zero ≠ (clampRec s c).zero
      (guarded ∧ changes → exec (.clampPut g payload) s = .next (respond 0x05 g .locked [] (begun s)))
      ∧ (¬(guarded ∧ changes) →
        let u := setClamp c { clampRec s c with mark := mark, zero := zero } s
        ∃ t, exec (.clampPut g payload) s = .next t ∧ LineKept u t ∧ Answered 0x05 g .ok [] t
          ∧ (Undecided s → t = respond 0x05 g .ok [] (begun u))))
  ∧ (∀ (g : Byte) (b₀ b₁ b₂ b₃ b₄ : Byte) (s : State), TakesRequest s → s.line.state ≠ .starting →
      (19 < b₀.toNat ∨ b₁.toNat = 0 ∨ 3 < b₁.toNat ∨ 1 < b₂.toNat ∨ (b₄ ++ b₃).toInt < -500 ∨ 500 < (b₄ ++ b₃).toInt) →
      exec (.clampPut g [b₀, b₁, b₂, b₃, b₄]) s = .next (respond 0x05 g .badRange [] (begun s)))

/-- A SETTINGS_PUT of in-range values replaces the seven settings together and moves the pot target with them; the
running timers, the ticket queue and the reports' latches do not see it. With an unchanged working temperature that
is all (R79, R180). A SETTINGS_PUT with a value outside its range is BAD_RANGE and changes nothing: the settings of
a 10-byte payload are in range whenever they are accepted, and the payload is their layout of 11.4 (R180).
SETTINGS_GET returns the ten bytes of the settings and the pot family, and changes nothing (R180). GLUE_CHANGE gives
the pot the family of its byte in PARKED with an empty queue, and is WRONG_STATE otherwise; a byte other than 0 and
1 is BAD_RANGE (R80). The model's own choices in it: the reply is ready within the event (log 4). -/
def Obligations.SettingsAndFamilyRequests : Prop :=
  ((∀ (g : Byte) (c : Settings) (s : State), TakesRequest s → s.line.state ≠ .starting → c.InRange →
        let target := match s.glue.target with
          | .off => PotTarget.off
          | .working _ => .working c.workTemp
          | .standby _ => .standby (c.workTemp - c.standbyDrop)
        (c.workTemp = s.settings.workTemp → exec (.settingsPut g (encodeSettings c)) s =
          .next (respond 0x13 g .ok [] { begun s with settings := c, glue := { s.glue with target := target } }))
        ∧ (c.workTemp ≠ s.settings.workTemp →
          ∃ t, exec (.settingsPut g (encodeSettings c)) s = .next t ∧ Answered 0x13 g .ok [] t
            ∧ LineKept { s with settings := c } t ∧ t.glue.target = target ∧ t.glue.reading = s.glue.reading
            ∧ t.glue.cond = .notAtTemp ∧ t.glue.window = none
            ∧ (t.glue.target.isWorking = true → t.glue.outOfBand = outOfBandOf s.glue.reading c.workTemp)
            ∧ (s.line.state ≠ .running → s.line.state ≠ .draining → s.line.state ≠ .held → t.line = s.line)))
    ∧ (∀ (g : Byte) (p : List Byte) (s : State), TakesRequest s → s.line.state ≠ .starting → p.length = 10 →
        (∃ c : Settings, c.InRange ∧ p = encodeSettings c)
          ∨ exec (.settingsPut g p) s = .next (respond 0x13 g .badRange [] (begun s)))
    ∧ (∀ (g : Byte) (s : State), TakesRequest s → s.line.state ≠ .starting → s.settings.InRange →
        let c := s.settings
        ∃ d, exec (.settingsGet g []) s = .next (respond 0x14 g .ok d (begun s)) ∧ d.length = 11
          ∧ byteAt d 0 = c.workTemp ∧ byteAt d 1 = c.standbyDrop ∧ natAt d 2 2 = c.standbyDelay
          ∧ natAt d 4 2 = c.parkDelay ∧ natAt d 6 2 = c.loadWait ∧ byteAt d 8 = c.leadThreshold
          ∧ byteAt d 9 = c.zeroLearning.toNat
          ∧ byteAt d 10 = (match s.glue.family with | .hotmelt => 0 | .pur => 1)))
  ∧ (∀ (g b : Byte) (s : State), TakesRequest s → s.line.state ≠ .starting →
      (1 < b.toNat → exec (.glueChange g [b]) s = .next (respond 0x07 g .badRange [] (begun s)))
      ∧ (b.toNat ≤ 1 →
        (s.line.state ≠ .parked ∨ s.tickets.queue ≠ [] →
          exec (.glueChange g [b]) s = .next (respond 0x07 g .wrongState [] (begun s)))
        ∧ (s.line.state = .parked → s.tickets.queue = [] →
          exec (.glueChange g [b]) s = .next (respond 0x07 g .ok []
            { begun s with glue := { s.glue with family := if b = 0 then .hotmelt else .pur } }))))

/-! ## Reading the part (chapters 9 to 11) -/

/-- The 36 bytes of NODES show the node table as it stands, four bytes a node in address order (R164). The 64 bytes
of CONTACTS show the contact records as they stand, in contact-number order (R170). The model's own choices in it:
the reply is ready within the event (log 4). -/
def Obligations.NodesAndContactsShowTables : Prop :=
  (∀ (g : Byte) (p : List Byte) (s : State), TakesRequest s →
      (s.line.state = .starting → exec (.nodes g p) s = .next (respond 0x0F g .wrongState [] (begun s)))
      ∧ (s.line.state ≠ .starting →
        (p ≠ [] → exec (.nodes g p) s = .next (respond 0x0F g .badFormat [] (begun s)))
        ∧ (p = [] → (∀ i : Fin 9, s.bus.nodes[i].misses ≤ 3 ∧ s.bus.nodes[i].restarts ≤ 255) →
          ∃ d, exec (.nodes g p) s = .next (respond 0x0F g .ok d (begun s)) ∧ d.length = 36
            ∧ ∀ i : Fin 9, byteAt d (4 * i.val) = i.val + 1
              ∧ byteAt d (4 * i.val + 1) =
                (match s.bus.nodes[i].state with | .absent => 0 | .present => 1 | .lost => 2)
              ∧ byteAt d (4 * i.val + 2) = s.bus.nodes[i].misses
              ∧ byteAt d (4 * i.val + 3) = s.bus.nodes[i].restarts)))
  ∧ (∀ (g : Byte) (p : List Byte) (s : State), TakesRequest s →
      (s.line.state = .starting → exec (.contacts g p) s = .next (respond 0x10 g .wrongState [] (begun s)))
      ∧ (s.line.state ≠ .starting →
        (p ≠ [] → exec (.contacts g p) s = .next (respond 0x10 g .badFormat [] (begun s)))
        ∧ (p = [] → (∀ i : Fin 64, s.scan.contacts[i].count ≤ 2) →
          ∃ d, exec (.contacts g p) s = .next (respond 0x10 g .ok d (begun s)) ∧ d.length = 64
            ∧ ∀ i : Fin 64, let k := s.scan.contacts[i]
              byteAt d i.val = (if k.closed then 1 else 0) + (if k.uncertain then 2 else 0)
                + (if k.reading = some true then 4 else 0) + 8 * k.count)))

/-- The 24 bytes of STATUS show each value as it stands, in every line state, and nothing changes (R178). The
model's own choices in it: the reply is ready within the event (log 4). -/
def Obligations.StatusShowsPart : Prop :=
  ∀ (g : Byte) (p : List Byte) (s : State), TakesRequest s →
    (p ≠ [] → exec (.status g p) s = .next (respond 0x11 g .badFormat [] (begun s)))
    ∧ (p = [] → (∀ t, s.glue.reading = some t → t ≤ 300) →
      (∀ w, s.glue.target = .working w ∨ s.glue.target = .standby w → w ≤ 200) → s.tickets.queue.length ≤ 64 →
      s.cover.entries.length ≤ 3 → s.dlv.cooling.length ≤ 40 → s.dlv.done.length ≤ 32 → s.car.diverts ≤ 3 →
      ∃ d, exec (.status g p) s = .next (respond 0x11 g .ok d (begun s)) ∧ d.length = 24
        ∧ byteAt d 0 = (match s.line.state with
          | .starting => 0 | .parked => 1 | .warming => 2 | .running => 3
          | .draining => 4 | .held => 5 | .standby => 6 | .faulted => 7)
        ∧ byteAt d 1 = (match s.line.cause with
          | none => 0 | some .estop => 1 | some .nodeLost => 2 | some .indexTimeout => 3 | some .bookLost => 4
          | some .heatTimeout => 5 | some .stationOverrun => 6 | some .coverJam => 7)
        ∧ natAt d 2 2 = (match s.glue.reading with | some t => t | none => 0xFFFF)
        ∧ natAt d 4 2 = (match s.glue.target with | .off => 0 | .working w => w | .standby w => w)
        ∧ (∀ φ, s.car.phaseKnown = true → s.car.phase = some φ → byteAt d 6 = φ.val)
        ∧ (s.car.phaseKnown = false → byteAt d 6 = 255)
        ∧ byteAt d 7 = s.tickets.queue.length ∧ byteAt d 8 = loadedClamps s
        ∧ byteAt d 9 = s.cover.entries.length ∧ byteAt d 10 = s.dlv.cooling.length
        ∧ byteAt d 11 = (if heldBook s = none then 0 else 1) ∧ byteAt d 12 = s.dlv.done.length
        ∧ natAt d 13 4 = s.dlv.loaded.toNat ∧ natAt d 17 4 = s.dlv.collected.toNat ∧ byteAt d 21 = s.car.diverts
        ∧ byteAt d 22 = (match s.pins.strapA with | .low => 0 | .pullDown => 1 | .floating => 2 | .high => 3)
        ∧ byteAt d 23 = (match s.pins.strapB with | .low => 0 | .pullDown => 1 | .floating => 2 | .high => 3))

/-- TRACE finds an id in the one holder that has it and says where; an id of 0 or one not held is NOT_FOUND. Nothing
changes (R179). The model's own choices in it: the reply is ready within the event (log 4). -/
def Obligations.TraceFindsHolder : Prop :=
  ∀ (g : Byte) (id : TicketId) (s : State), TakesRequest s → s.line.state ≠ .starting → IdsUnique s →
    let answers := fun d => exec (.trace g (leBytes 4 id.toNat)) s = .next (respond 0x12 g .ok d (begun s))
    let row := fun a b c d : Nat => [BitVec.ofNat 8 a, BitVec.ofNat 8 b, BitVec.ofNat 8 c, BitVec.ofNat 8 d]
    (id = 0 ∨ id ∉ heldIds s →
      exec (.trace g (leBytes 4 id.toNat)) s = .next (respond 0x12 g .notFound [] (begun s)))
    ∧ (∀ n t, s.tickets.queue[n]? = some t → t.id = id →
      answers (if s.tickets.reserved = true ∧ n = 0 then row 1 1 255 255 else row 0 (n + 1) 255 255))
    ∧ (∀ c b, bookIn s c = some b → b.ticket.id = id →
      (s.car.phaseKnown = false → answers (row 2 255 c.val 255))
      ∧ ∀ φ, s.car.phaseKnown = true → s.car.phase = some φ → answers (row 2 ((c.val + φ.val) % 20) c.val 255))
    ∧ (∀ n b, s.dlv.cooling[n]? = some b → b.ticket.id = id → answers (row 3 (n + 1) 255 255))
    ∧ (∀ b, heldBook s = some b → b.ticket.id = id → answers (row 4 255 255 s.trim.state.code))
    ∧ (∀ n b, s.dlv.done[n]? = some b → b.ticket.id = id → answers (row 5 (n + 1) 255 255))

/-! ## The done list (chapter 7) -/

/-- COLLECT takes the oldest records, at most the number asked and at most 8, into its reply and adds them to the
collected count; an empty list changes nothing (R133). The records that wait for room are written into the freed
places in the order in which they began to wait, as far as the places go, and each leaves its holder; the others
wait on (R132, R133). With no record waiting nothing else moves but the gate. The model's own choices in it: the
reply is ready within the event (log 4). -/
def Obligations.CollectTakesOldestRecords : Prop :=
  ∀ (g b : Byte) (s : State), TakesRequest s → s.line.state ≠ .starting →
    (b.toNat = 0 ∨ 8 < b.toNat → exec (.collect g [b]) s = .next (respond 0x0E g .badRange [] (begun s)))
    ∧ (1 ≤ b.toNat → b.toNat ≤ 8 →
      let k := min b.toNat s.dlv.done.length
      let data := leBytes 1 k ++ (s.dlv.done.take k).flatMap encodeDone
      let u := { s with dlv := { s.dlv with
        done := s.dlv.done.drop k, collected := s.dlv.collected + BitVec.ofNat 32 k } }
      (s.dlv.done = [] → exec (.collect g [b]) s = .next (respond 0x0E g .ok [0] (begun s)))
      ∧ ∃ t, exec (.collect g [b]) s = .next t ∧ Answered 0x0E g .ok data t
        ∧ t.dlv.collected = u.dlv.collected ∧ u.dlv.done <+: t.dlv.done
        ∧ (s.dlv.waiters = [] → LineKept u t ∧ t.line = s.line ∧ t.car.state = s.car.state)
        ∧ (s.dlv.done ≠ [] → s.dlv.waiters.Nodup → (∀ h ∈ s.dlv.waiters, waitingRecord s h ≠ none) →
          present s .drive = true →
          let n := min s.dlv.waiters.length (32 - u.dlv.done.length)
          let writes := s.dlv.waiters.take n
          t.dlv.waiters = s.dlv.waiters.drop n ∧ t.dlv.done = u.dlv.done ++ writes.filterMap (writtenRecord s)
            ∧ (∀ c, bookIn t c = if .clamp c ∈ writes then none else bookIn s c)
            ∧ t.dlv.cooling = (if .cooling ∈ writes then s.dlv.cooling.drop 1 else s.dlv.cooling)
            ∧ t.trim.held = (if .trimmer ∈ writes then .none else s.trim.held)))

/-- The layout of a done record on the link: 59 bytes, each field at its place, an absent field with its mark clear
and its bytes 0 (7.4). -/
def Obligations.DoneRecordLayout : Prop :=
  ∀ b : Book, -500 ≤ b.measured → b.measured ≤ 66035 → (Profile.mk true b.snapshot).InRange →
    (∀ t, b.settleTime = some t → t ≤ 65535) →
    (∀ sp, b.setpoints = some sp → sp.glueStep ≤ 15 ∧ 0 ≤ sp.spineWidth ∧ sp.spineWidth ≤ 64500
      ∧ 0 ≤ sp.s2 ∧ sp.s2 ≤ 600000 ∧ 0 ≤ sp.s3 ∧ sp.s3 ≤ 600000
      ∧ ∀ s1 s4, sp.outer = some (s1, s4) → 0 ≤ s1 ∧ s1 ≤ 600000 ∧ 0 ≤ s4 ∧ s4 ≤ 600000) →
    let d := encodeDone b
    let f := b.snapshot
    d.length = 59
      ∧ (byteAt d 0).testBit 0 = b.setpoints.isSome
      ∧ (byteAt d 0).testBit 1 = (b.setpoints.bind (·.outer)).isSome
      ∧ (byteAt d 0).testBit 2 = b.glueTime.isSome ∧ (byteAt d 0).testBit 3 = b.coverTime.isSome
      ∧ (byteAt d 0).testBit 4 = b.coolEntry.isSome ∧ (byteAt d 0).testBit 5 = b.revibrate.isSome
      ∧ (byteAt d 0).testBit 6 = b.settleTime.isSome ∧ (byteAt d 0).testBit 7 = false
      ∧ natAt d 1 4 = b.ticket.id.toNat ∧ byteAt d 5 = b.clamp.val ∧ natAt d 6 2 = b.jawGap.toNat
      ∧ toSigned 24 (natAt d 8 3) = b.measured ∧ byteAt d 11 = f.family.code * 3 + f.mode.code
      ∧ byteAt d 12 = f.fixedStep + 16 * f.thinStep ∧ byteAt d 13 = f.thickStep + 16 * f.baseStep
      ∧ natAt d 14 2 = f.threshold ∧ (byteAt d 16 : Int) = (f.offset + 7) + 16 * f.sideStep
      ∧ byteAt d 17 = f.openTime ∧ natAt d 18 2 = f.coolDwell
      ∧ (b.setpoints = none → byteAt d 20 = 0 ∧ natAt d 21 10 = 0)
      ∧ (∀ sp, b.setpoints = some sp →
        byteAt d 20 = sp.glueStep + (if sp.clamped then 16 else 0) + (if b.verdict = .fail then 32 else 0)
        ∧ (natAt d 21 2 : Int) = sp.spineWidth ∧ (natAt d 25 2 : Int) = sp.s2 / 10
        ∧ (natAt d 27 2 : Int) = sp.s3 / 10 ∧ (sp.outer = none → natAt d 23 2 = 0 ∧ natAt d 29 2 = 0)
        ∧ ∀ s1 s4, sp.outer = some (s1, s4) → (natAt d 23 2 : Int) = s1 / 10 ∧ (natAt d 29 2 : Int) = s4 / 10)
      ∧ natAt d 31 4 = b.loadTime.toNat ∧ natAt d 35 4 = b.glueTime.elim 0 BitVec.toNat
      ∧ natAt d 39 4 = b.coverTime.elim 0 BitVec.toNat ∧ natAt d 43 4 = b.releaseTime.elim 0 BitVec.toNat
      ∧ natAt d 47 4 = b.coolEntry.elim 0 BitVec.toNat ∧ natAt d 51 2 = b.settleTime.getD 0
      ∧ byteAt d 53 = min 255 (b.revibrate.getD 0)
      ∧ (b.reason = none → byteAt d 54 = if b.outcome = some .sample then 1 else 0)
      ∧ (∀ r, b.reason = some r → byteAt d 54 = (match r with
        | .thickness => 2 | .geometry => 3 | .cover => 4 | .openTime => 5 | .station => 6 | .trim => 7 | .fault => 8))
      ∧ natAt d 55 4 = b.outTime.elim 0 BitVec.toNat

/-! ## The overlap rule and the transmit line (R175, R176, R182) -/

/-- A request taken while another is pending or a reply is owed has no effect: its tag is owed a BUSY behind the
others, and with 8 tags owed it is discarded (R176). The transmit line carries a frame meanwhile, or is free behind
a STORE whose save runs. After a RESET whose reply has been sent the BUSY goes out at once (R185). A frame whose
kind is no request kind is answered UNKNOWN_KIND and has no other effect (R175). The model's own choices in it: an
event that nothing asked for does nothing (log 3); the reply is ready within the event (log 4); a RESET's reply
behind others waits in the owed list (log 15); a tag leaves the owed list as its BUSY begins (log 51). -/
def Obligations.OverlappedAndUnknownKinds : Prop :=
  (∀ (s : State), Hears s → overlapped s = true → OwedWaits s.host →
      let owing := fun (k g : Byte) => { begun s with host := { (begun s).host with
        owed := s.host.owed ++ [⟨k, g, .busy⟩] } }
      let busy := fun (c : Instr) (k g : Byte) =>
        (busyOwed s.host < 8 → exec c s = .next (owing k g)) ∧ (8 ≤ busyOwed s.host → exec c s = .next (begun s))
      (∀ c k g, requestOf c = some (k, g) → busy c k g)
      ∧ (∀ g p, busy (.store g p) 0x15 g)
      ∧ (∀ k g p, isRequestKind k = false → busy (.unknownKind k g p) k g)
      ∧ ∀ k g p, k ≠ 0x16 → busy (.overlappedRequest k g p) k g)
  ∧ (∀ (s : State), Hears s → s.host.resetTaken = true → s.host.request = none → s.host.owed = [] → s.host.tx = none →
      let busy := fun (c : Instr) (k g : Byte) => exec c s = .next { begun s with host := { (begun s).host with
        tx := some ⟨k ||| 0x80, g, [1]⟩ } }
      (∀ c k g, requestOf c = some (k, g) → busy c k g)
      ∧ (∀ g p, busy (.store g p) 0x15 g)
      ∧ (∀ k g p, isRequestKind k = false → busy (.unknownKind k g p) k g)
      ∧ ∀ k g p, k ≠ 0x16 → busy (.overlappedRequest k g p) k g)
  ∧ (∀ (k g : Byte) (p : List Byte) (s : State), TakesRequest s → k.toNat = 0 ∨ 0x16 < k.toNat →
      exec (.unknownKind k g p) s = .next (respond k g .unknownKind [] (begun s)))

/-- When the line becomes free the waiting reply is sent; else, with none pending, the oldest owed reply; else the
first non-empty latch in the order NOTICE, STATE, DONE_READY, TICKETS_LOW, which is emptied (R176, R182). The
model's own choices in it: a tag leaves the owed list as its BUSY begins (log 51). -/
def Obligations.TransmitOrder : Prop :=
  ∀ (s : State) (f : HostFrame), s.pins.inReset = false → s.host.tx = some f →
    let h := { s.host with tx := none }
    let sends := fun (x : HostLink) => exec .transmitFrameEnd s = .next { clearOut s with host := x }
    (∀ k g d, h.request = some ⟨k, g, some d⟩ →
      sends { h with tx := some ⟨k ||| 0x80, g, d⟩, request := none })
    ∧ (h.request = none → ∀ k g r l, h.owed = ⟨k, g, r⟩ :: l →
      sends { h with tx := some ⟨k ||| 0x80, g, leBytes 1 r.code⟩, owed := l })
    ∧ ((h.request = none ∧ h.owed = []) ∨ (∃ k g, h.request = some ⟨k, g, none⟩) →
      (∀ n x, h.notice = some (n, x) →
        sends { h with tx := some ⟨0x40, 0, leBytes 1 n.code ++ leBytes 4 x.toNat⟩, notice := none })
      ∧ (h.notice = none → ∀ l, h.stateRep = some l →
        sends { h with tx := some ⟨0x41, 0, leBytes 1 l.code⟩, stateRep := none })
      ∧ (h.notice = none → h.stateRep = none → ∀ n, h.doneReady = some n →
        sends { h with tx := some ⟨0x42, 0, leBytes 1 n⟩, doneReady := none })
      ∧ (h.notice = none → h.stateRep = none → h.doneReady = none → ∀ n, h.ticketsLow = some n →
        sends { h with tx := some ⟨0x43, 0, leBytes 1 n⟩, ticketsLow := none })
      ∧ (h.notice = none → h.stateRep = none → h.doneReady = none → h.ticketsLow = none → sends h))

/-- Received bytes, with those of a begun frame before them (R175). Bytes with no start byte, a frame with a length
above 480, and a whole frame whose check does not match are discarded with no reply and no other effect and leave
nothing begun; a frame that the bytes leave incomplete stays begun. A frame whose check matches is a request: it has
the effect of the request's own command, whose bytes, while a frame is begun, are that frame's next bytes. More than
10 ms after the last byte of a begun frame the frame is discarded, and nothing else happens (R175). The model's own
choices in it: an event whose time has not come does nothing (log 2); an event that nothing asked for does nothing
(log 3); what the assembler keeps of the bytes (log 16). -/
def Obligations.BadFramesDiscarded : Prop :=
  (∀ (bytes : List Byte) (s : State), s.pins.inReset = false →
      let before := if 10 < (s.clock - s.host.rxTime).toNat then [] else s.host.rx
      let all := before ++ bytes
      let leaves := fun r => exec (.badFrameDiscard bytes) s =
        .next { clearOut s with host := { s.host with rx := r, rxTime := s.clock } }
      ((0xA5 : Byte) ∉ all → leaves [])
      ∧ (all = [0xA5] ∨ (∃ lo, all = [0xA5, lo]) → leaves all)
      ∧ (∀ lo hi (rest : List Byte), all = 0xA5 :: lo :: hi :: rest →
        let len := lo.toNat + 256 * hi.toNat
        (480 < len → (0xA5 : Byte) ∉ rest → leaves [])
        ∧ (len ≤ 480 → rest.length < len + 4 → leaves all)
        ∧ (len ≤ 480 → rest.length = len + 4 → leNat (rest.drop (len + 2)) ≠ crc16 (lo :: hi :: rest.take (len + 2)) →
          leaves []))
      ∧ ∀ c f, requestFrame c = some f → f.payload.length ≤ 480 → all = f.bytes →
        ∃ t, exec c { s with host := { s.host with rx := [] } } = .next t
          ∧ exec (.badFrameDiscard bytes) s = .next { t with host := { t.host with rx := [], rxTime := s.clock } })
  ∧ (∀ c f s, requestFrame c = some f → s.pins.inReset = false → frameOpen s = true →
      exec c s = exec (.badFrameDiscard f.bytes) s)
  ∧ (∀ s : State, s.pins.inReset = false →
      (s.host.rx ≠ [] → 10 < (s.clock - s.host.rxTime).toNat → exec .frameByteGapTimeout s = .next (begun s))
      ∧ (s.host.rx = [] ∨ (s.clock - s.host.rxTime).toNat ≤ 10 → exec .frameByteGapTimeout s = .next (clearOut s)))

/-! ## The store, the resets and start-up (chapters 10 and 11) -/

/-- STORE makes its copy and stays pending, its reply not ready, until the save ends; then the copy is the image,
whole, and the OK reply is on the transmit line or next to go there (R184). The model's own choices in it: the image
held as bytes (log 20). -/
def Obligations.StoreSavesCopy : Prop :=
  (∀ (g : Byte) (s : State), TakesRequest s → s.line.state ≠ .starting →
    exec (.store g []) s = .next { begun s with
      store := { s.store with
        saving := some (encodeImage s.profiles s.car.clamps s.settings s.glue.family) }
      host := { (begun s).host with request := some ⟨0x15, g, none⟩ } })
  ∧ ∀ (g : Byte) (image : List Byte) (s : State), s.pins.inReset = false → s.store.saving = some image →
    s.host.request = some ⟨0x15, g, none⟩ →
    ∃ h, exec .saveEnd s = .next { clearOut s with store := ⟨image, false, none⟩, host := h }
      ∧ Answered 0x15 g .ok [] { s with host := h }

/-- The image that STORE writes is good, and a load reads back from it every profile, use mark, offset, setting and
the pot family as they were (R183, R184). The model's own choices in it: the image held as bytes (log 20). -/
def Obligations.ImageRoundTrip : Prop :=
  ∀ (profiles : Vector Profile 16) (clamps : Vector Clamp 20) (c : Settings) (f : Family),
    (∀ i : Fin 16, profiles[i].InRange) → (∀ i : Fin 20, -500 ≤ clamps[i].zero ∧ clamps[i].zero ≤ 500) → c.InRange →
    let image := encodeImage profiles clamps c f
    imageGood image = true ∧ image.length = 347
      ∧ (∀ i : Fin 16, imageProfile image i.val = some profiles[i])
      ∧ (∀ i : Fin 20, imageClamp image i.val = some (clamps[i].mark, clamps[i].zero))
      ∧ imageSettings image = some c ∧ (imageFamily image = 0 ↔ f = .hotmelt)

/-- The load in STARTING takes a good image whole, or the defaults with STORE_DEFAULTS, leaves the stored image as
it is and tells the Line Controller, which enters PARKED when the probes are done too (R20, R101, R183, R186). The
model's own choices in it: a save cut short leaves the image part written (log 19); the image held as bytes (log
20). -/
def Obligations.StoreLoadTakesImageOrDefaults : Prop :=
  ∀ s : State, s.pins.inReset = false → s.line.state = .starting → s.line.loadDone = false →
    ∃ t, exec .storeLoadDone s = .next t ∧ t.line.loadDone = true ∧ t.store = s.store
      ∧ t.line.state = (if s.line.probesDone then .parked else .starting)
      ∧ (∀ i, bookIn t i = bookIn s i) ∧ t.dlv = s.dlv ∧ t.trim = s.trim ∧ t.tickets = s.tickets
      ∧ (imageGood s.store.image = true → s.store.broken = false →
        (∀ i : Fin 16, some t.profiles[i] = imageProfile s.store.image i.val)
        ∧ (∀ i : Fin 20, some ((clampRec t i).mark, (clampRec t i).zero) = imageClamp s.store.image i.val)
        ∧ some t.settings = imageSettings s.store.image
        ∧ (t.glue.family = .hotmelt ↔ imageFamily s.store.image = 0))
      ∧ (imageGood s.store.image = false ∨ s.store.broken = true →
        (t.profiles[(0 : Fin 16)].valid = true ∧ ∀ i : Fin 16, 0 < i.val → t.profiles[i].valid = false)
        ∧ (∀ i : Fin 16, t.profiles[i].fields = ⟨.hotmelt, .computed, 4, 3, 6, 3, 20000, 0, 4, 60, 200⟩)
        ∧ (∀ i : Fin 20, (clampRec t i).mark = .inUse ∧ (clampRec t i).zero = 0)
        ∧ t.settings = ⟨170, 40, 120, 1800, 400, 8, true⟩ ∧ t.glue.family = .hotmelt
        ∧ Noticed .storeDefaults 0 t)

/-- What a reset leaves: every block at its after-reset value, the clock at 0, the line STARTING and the first
start-up PROBE on the bus; the stored image and the straps are as given (R185, R186). The model's own choices in it:
a free bus is granted within the event (log 5); the check value of a bus frame is free (log 45). -/
def Obligations.AfterResetValues : Prop :=
  ∀ (a b : StrapLevel) (x : Store) (l : List Instr),
    let s := State.afterReset a b x l
    let axis : AxisRec := ⟨none, none, false, none, none, 0, false⟩
    s.clock = 0 ∧ s.tickets = ⟨[], false⟩ ∧ (∀ c, bookIn s c = none) ∧ s.car.state = .unhomed ∧ s.car.worked = false
      ∧ s.car.phaseKnown = false ∧ s.car.phase = none ∧ s.car.jobs = [] ∧ s.car.tag = 0 ∧ s.car.diverts = 0
      ∧ (∀ i : Fin 8, s.car.overruns[i] = 0)
      ∧ s.glue.target = .off ∧ s.glue.reading = none ∧ s.glue.cond = .notAtTemp ∧ s.glue.outOfBand = false
      ∧ s.cover = ⟨[], 0, false⟩ ∧ s.line.state = .starting ∧ s.line.cause = none ∧ s.line.holds.any = false
      ∧ s.line.halt = false ∧ s.line.park = false ∧ s.line.returnState = .running ∧ s.line.drainRelease = false
      ∧ s.line.warmTimer = none ∧ s.line.standbyTimer = none ∧ s.line.parkTimer = none ∧ s.line.estopLatch = false
      ∧ s.line.lamps = ⟨false, false, false, false, false⟩
      ∧ s.dlv = ⟨[], none, .idle, .none, false, .none, [], [], 0, 0⟩
      ∧ s.trim = ⟨.idle, .none, none, none, .good, 0, false, none, .stopped, none, .none, axis, axis, axis, false⟩
      ∧ (∀ n, (nodeRec s n).state = .absent ∧ (nodeRec s n).misses = 0 ∧ (nodeRec s n).restarts = 0
        ∧ (nodeRec s n).ackPending = false)
      ∧ (∀ i : Fin 64, s.scan.contacts[i] = ⟨none, false, 0, false⟩) ∧ s.scan.firstScan = true
      ∧ s.pins = ⟨a, b, false, 0, false⟩ ∧ s.host = ⟨[], 0, none, [], false, none, none, none, none, none⟩
      ∧ s.store.saving = none ∧ s.store.image = x.image
      ∧ s.bus.current = some (.request ⟨.loader, .probe true, some 1⟩ false 0) ∧ s.bus.pollOn = false
      ∧ s.bus.probeQ.length = 8 ∧ s.busOut = [BusContent.frame (.request .loader (.probe true) 1 false)]

/-- A well-formed RESET is answered OK after every reply owed before it, and the reset begins once its reply has
been sent whole, no reply is owed and no save runs; every block then takes its after-reset value and the straps are
kept. A badly formed one is BAD_FORMAT (R185). The model's own choices in it: an event that nothing asked for does
nothing (log 3); the reply is ready within the event (log 4); a RESET's reply behind others waits in the owed list
(log 15); a report cut off by a reset (log 48). -/
def Obligations.ResetRequestAndBegin : Prop :=
  (∀ (g : Byte) (p : List Byte) (s : State), TakesRequest s →
    exec (.reset g p) s = .next (if p = []
      then respond 0x16 g .ok [] { begun s with host := { (begun s).host with resetTaken := true } }
      else respond 0x16 g .badFormat [] (begun s)))
  ∧ (∀ (g : Byte) (p : List Byte) (s : State), Hears s → overlapped s = true → OwedWaits s.host →
    exec (.reset g p) s = .next { begun s with host := { (begun s).host with
      resetTaken := s.host.resetTaken || p.isEmpty
      owed := s.host.owed ++ [⟨0x16, g, if p = [] then .ok else .badFormat⟩] } })
  ∧ ∀ (low : Bool) (s : State), s.pins.inReset = false →
    let ready := s.host.resetTaken = true ∧ s.host.request = none ∧ s.host.owed = []
      ∧ (∀ f, s.host.tx = some f → f.kind.toNat < 128) ∧ s.store.saving = none
    (¬ready → exec (.resetBegin low) s = .next (clearOut s))
    ∧ (ready → exec (.resetBegin low) s =
      .next (afterReset s.pins.strapA s.pins.strapB low s.store (clearOut s)))

/-- A power-on reset and the end of a reset-line reset latch the straps and start the part; a save that they
interrupt leaves the image part written. While the reset line is low every output is off, nothing is sent and no
command but the line's rise and a power-on has an effect (R172, R173, R184, R186). An e-stop input that reads low at
the end of a reset counts as activated: the latch is set, TRIM_EN is off, the trimmer is FAULTED with ESTOP, the
line stays STARTING and the notice is sent (R119, R149, R171, R186). The model's own choices in it: an event that
nothing asked for does nothing (log 3); the part while the reset line is low (log 18); a save cut short leaves the
image part written (log 19); the levels of the direct lines at reset (log 30). -/
def Obligations.ResetLineAndEstopAtReset : Prop :=
  (∀ (a b : StrapLevel) (low : Bool) (s : State),
      let x : Store := ⟨s.store.image, s.store.broken || s.store.saving.isSome, none⟩
      (exec (.powerOnReset a b low) s = .next (afterReset a b low x s)
        ∧ (s.pins.inReset = false → ∃ t, exec .resetLineLow s = .next t ∧ t.pins.inReset = true ∧ t.store = x
          ∧ t.line.lamps = .off ∧ t.line.state = .starting ∧ t.bus.current = none ∧ t.bus.waiting = 0 ∧ t.busOut = []
          ∧ t.host = .afterReset ∧ t.tickets = ⟨[], false⟩ ∧ t.clock = 0))
      ∧ (s.pins.inReset = true → exec (.resetLineHigh a b low) s = .next (afterReset a b low s.store s)
        ∧ ∀ c : Instr, (∀ a b l, c ≠ .powerOnReset a b l) → (∀ a b l, c ≠ .resetLineHigh a b l) → exec c s = .next s)
      ∧ (s.pins.inReset = false → exec (.resetLineHigh a b low) s = .next s))
  ∧ (∀ (a b : StrapLevel) (x : Store) (s : State),
      afterReset a b false x s = State.afterReset a b x s.pending
      ∧ ∃ t, afterReset a b true x s = t ∧ t.pins = ⟨a, b, true, 0, false⟩ ∧ t.line.estopLatch = true
        ∧ t.line.lamps = .off ∧ t.line.state = .starting ∧ t.line.cause = none ∧ t.trim.state = .faulted
        ∧ t.trim.cause = some .estop ∧ t.car.state = .unhomed ∧ t.pending = s.pending
        ∧ t.host.tx = some ⟨0x40, 0, [1, 0, 0, 0, 0]⟩ ∧ t.bus.current = (State.afterReset a b x []).bus.current)

/-! ## The line requests (chapter 6) -/

/-- START's checks in their order (R102). An accepted START enters WARMING: the warm timer starts, the pot is heated
to its working temperature, HEAT_EN and DRIVE_EN come on, and an UNHOMED carousel is homed (R102, R103). With the
pot already AT_TEMP the START passes on to RUNNING within the event, or on to HELD when the tests of R105 find a
cause on a carousel that stands or is UNHOMED (R103, R104, R105). The model's own choices in it: the reply is ready
within the event (log 4); a free bus is granted within the event (log 5); each line state passed through has its
effects (log 12); the gate stop mark cleared after the line's entry and HOME (log 41). -/
def Obligations.StartChecksAndWarms : Prop :=
  (∀ (g : Byte) (p : List Byte) (s : State), TakesRequest s →
      let refused := fun code => exec (.start g p) s = .next (respond 0x08 g code [] (begun s))
      (s.line.state = .starting → refused .wrongState)
      ∧ (s.line.state ≠ .starting → p ≠ [] → refused .badFormat)
      ∧ (s.line.state ≠ .starting → p = [] →
        (s.line.state ≠ .parked ∧ s.line.state ≠ .standby → refused .wrongState)
        ∧ (s.line.state = .parked ∨ s.line.state = .standby →
          (s.pins.estopActive = true → refused .wrongState)
          ∧ (s.pins.estopActive = false → (∃ n, present s n = false) → refused .nodes))))
  ∧ (∀ (g : Byte) (s : State), TakesRequest s → s.line.state = .parked ∨ s.line.state = .standby →
      s.pins.estopActive = false → (∀ n, present s n = true) → s.glue.cond ≠ .atTemp →
      ∃ t, exec (.start g []) s = .next t ∧ Answered 0x08 g .ok [] t ∧ LineKept s t ∧ t.line.state = .warming
        ∧ t.line.warmTimer = some s.clock ∧ t.line.parkTimer = none ∧ t.line.standbyTimer = none
        ∧ t.line.cause = s.line.cause ∧ t.line.estopLatch = s.line.estopLatch
        ∧ t.line.lamps = ⟨true, false, true, true, !s.line.estopLatch⟩ ∧ t.glue.target = .working s.settings.workTemp
        ∧ t.dlv.gateStop = false
        ∧ (s.car.state = .unhomed → t.car.state = .homing ∧ Asked t.bus .drive .home)
        ∧ (s.car.state ≠ .unhomed → t.car.state = s.car.state ∧ t.car.phase = s.car.phase))
  ∧ (∀ (g : Byte) (s : State), TakesRequest s → s.line.state = .parked ∨ s.line.state = .standby →
      s.pins.estopActive = false → (∀ n, present s n = true) → s.glue.cond = .atTemp →
      s.glue.target.isWorking = false →
      ∃ t, exec (.start g []) s = .next t ∧ Answered 0x08 g .ok [] t ∧ LineKept s t
        ∧ (EntryClear s → t.line.state = .running ∧ t.line.holds.any = false ∧ t.line.warmTimer = none
          ∧ t.car.diverts = 0 ∧ t.cover.mismatch = 0
          ∧ (s.car.state = .unhomed → t.car.state = .homing ∧ Asked t.bus .drive .home))
        ∧ (¬EntryClear s → s.car.state = .standing ∨ s.car.state = .unhomed →
          t.line.state = .held ∧ t.line.returnState = .running ∧ t.car.state = s.car.state
          ∧ t.line.holds = { Holds.empty with
            guardOpen := anyGuardOpen s, coverEmpty := coverEmptyClosed s
            glueTemp := outOfBandOf s.glue.reading s.settings.workTemp }))

/-- The table of HALT (R114). The model's own choices in it: the reply is ready within the event (log 4); each line
state passed through has its effects (log 12). -/
def Obligations.HaltByLineState : Prop :=
  ∀ (g : Byte) (s : State), TakesRequest s →
    let halts := s.line.state = .running ∧ s.car.state = .standing
      ∨ s.line.state = .held ∧ s.line.returnState = .running ∧ resumeConditions s = true
    (halts → EntryClear s → anyLoaded s = true → present s .drive = true →
      ∃ t, exec (.halt g []) s = .next t ∧ Answered 0x09 g .ok [] t ∧ LineKept s t ∧ t.line.state = .draining
        ∧ t.line.holds.any = false ∧ t.line.halt = false ∧ t.line.drainRelease = false ∧ t.line.standbyTimer = none
        ∧ t.cover.mismatch = 0)
    ∧ (s.line.state = .running → s.car.state = .standing → anyGuardOpen s = true ∨ coverEmptyClosed s = true →
      ∃ t, exec (.halt g []) s = .next t ∧ Answered 0x09 g .ok [] t ∧ LineKept s t ∧ t.line.state = .held
        ∧ t.line.returnState = .draining ∧ t.car.state = .standing)
    ∧ (s.line.state = .running → s.car.state ≠ .standing →
      exec (.halt g []) s = .next (respond 0x09 g .ok [] { begun s with line := { s.line with halt := true } }))
    ∧ (s.line.state = .draining ∨ s.line.state = .held ∧ s.line.returnState = .draining →
      exec (.halt g []) s = .next (respond 0x09 g .ok [] (begun s)))
    ∧ (s.line.state = .held → s.line.returnState = .running → resumeConditions s = false →
      exec (.halt g []) s = .next (respond 0x09 g .ok []
        { begun s with line := { s.line with returnState := .draining, drainRelease := true } }))
    ∧ (s.line.state = .parked ∨ s.line.state = .warming ∨ s.line.state = .standby ∨ s.line.state = .faulted →
      exec (.halt g []) s = .next (respond 0x09 g .wrongState [] (begun s)))

/-- The table of HOLD. With the carousel STANDING or UNHOMED the hold takes effect at once; with a carousel that
dwells or moves it is pending, and takes effect at the end of the dwell, as DwellEndIndexes says (R107, R108, R112).
The model's own choices in it: the reply is ready within the event (log 4). -/
def Obligations.HoldByLineState : Prop :=
  ∀ (g : Byte) (s : State), TakesRequest s →
    let holds := { s.line.holds with host := true }
    let moves := s.line.state = .running ∨ s.line.state = .draining
    let stands := s.car.state = .standing ∨ s.car.state = .unhomed
    (moves → stands → ∃ t, exec (.hold g []) s = .next t ∧ Answered 0x0A g .ok [] t ∧ LineKept s t
      ∧ t.line.state = .held ∧ t.line.holds = holds ∧ t.line.halt = false ∧ t.line.park = false
      ∧ t.line.standbyTimer = none ∧ t.car = s.car ∧ t.bus = s.bus
      ∧ t.line.returnState = (if s.line.state = .draining ∨ s.line.halt = true then .draining else .running))
    ∧ (moves → ¬stands → exec (.hold g []) s = .next (respond 0x0A g .ok []
      { begun s with line := { s.line with holds := holds } }))
    ∧ (s.line.state = .held → exec (.hold g []) s = .next (respond 0x0A g .ok []
      { begun s with line := { s.line with holds := holds } }))
    ∧ (s.line.state = .parked ∨ s.line.state = .warming ∨ s.line.state = .standby ∨ s.line.state = .faulted →
      exec (.hold g []) s = .next (respond 0x0A g .wrongState [] (begun s)))

/-- The table of RESUME (R113). The model's own choices in it: the reply is ready within the event (log 4); each
line state passed through has its effects (log 12). -/
def Obligations.ResumeByLineState : Prop :=
  ∀ (g : Byte) (s : State), TakesRequest s → s.line.state ≠ .starting →
    let fit := anyGuardOpen s = false ∧ coverEmptyClosed s = false
      ∧ (s.line.holds.glueTemp = true → s.glue.cond = .atTemp)
    let refused := exec (.resume g []) s = .next (respond 0x0B g .wrongState [] (begun s))
    let waits := (s.line.state = .running ∨ s.line.state = .draining) ∧ s.line.holds.any = true
    (s.line.state = .held → fit → EntryClear s → present s .drive = true →
      ∃ t, exec (.resume g []) s = .next t ∧ Answered 0x0B g .ok [] t ∧ LineKept s t
        ∧ (s.line.returnState = .running → t.line.state = .running ∧ t.line.holds.any = false
          ∧ t.line.drainRelease = false ∧ t.car.diverts = 0 ∧ t.cover.mismatch = 0)
        ∧ (s.line.returnState = .draining → anyLoaded s = true → t.line.state = .draining
          ∧ t.line.holds.any = false ∧ t.line.drainRelease = false ∧ t.cover.mismatch = 0))
    ∧ (waits → fit → Undecided s → exec (.resume g []) s = .next (respond 0x0B g .ok [] { begun s with
      line := { s.line with holds := .empty }, car := { s.car with diverts := 0 }
      cover := { s.cover with mismatch := 0 } }))
    ∧ (s.line.state = .held ∨ waits → ¬fit → refused)
    ∧ (s.line.state ≠ .held → ¬waits → refused)

/-- The table of PARK (R117). The model's own choices in it: the reply is ready within the event (log 4). -/
def Obligations.ParkByLineState : Prop :=
  ∀ (g : Byte) (s : State), TakesRequest s →
    (s.line.state = .standby ∨ s.line.state = .held ∧ anyLoaded s = false →
      ∃ t, exec (.park g []) s = .next t ∧ Answered 0x0C g .ok [] t ∧ LineKept s t ∧ t.line.state = .parked
        ∧ t.line.holds.any = false ∧ t.line.park = false ∧ t.line.drainRelease = false ∧ t.line.warmTimer = none
        ∧ t.line.standbyTimer = none ∧ t.line.parkTimer = none ∧ t.glue.target = .off
        ∧ t.line.lamps = ⟨false, false, false, false, !s.line.estopLatch⟩ ∧ t.car = s.car ∧ t.bus = s.bus)
    ∧ (s.line.state = .draining → anyLoaded s = false → s.car.state ≠ .standing →
      exec (.park g []) s = .next (respond 0x0C g .ok [] { begun s with line := { s.line with park := true } }))
    ∧ (s.line.state = .parked ∨ s.line.state = .warming ∨ s.line.state = .running ∨ s.line.state = .faulted
        ∨ (s.line.state = .held ∨ s.line.state = .draining) ∧ anyLoaded s = true →
      exec (.park g []) s = .next (respond 0x0C g .wrongState [] (begun s)))

/-- CLEAR (LINE): its checks, and its effects with and without a loaded clamp (R120). The model's own choices in it:
the reply is ready within the event (log 4); a free bus is granted within the event (log 5); each line state passed
through has its effects (log 12); CLEAR_LINE carries any CLEAR payload (log 17); the gate stop mark cleared after
the line's entry and HOME (log 41). -/
def Obligations.ClearLineDrainsOrParks : Prop :=
  ∀ (g : Byte) (s : State), TakesRequest s → s.line.state ≠ .starting →
    let refused := fun code => exec (.clearLine g [0]) s = .next (respond 0x0D g code [] (begun s))
    let passes := s.line.state = .faulted ∧ s.pins.estopActive = false ∧ anyGuardOpen s = false
    (¬passes → refused .wrongState)
    ∧ (passes → (∃ n, present s n = false) → refused .nodes)
    ∧ (passes → (∀ n, present s n = true) →
      ∃ t, exec (.clearLine g [0]) s = .next t ∧ Answered 0x0D g .ok [] t ∧ LineKept s t ∧ t.line.cause = none
        ∧ (∀ i : Fin 8, t.car.overruns[i] = 0) ∧ t.car.phaseKnown = false ∧ t.car.worked = false
        ∧ t.dlv.gateStop = false
        ∧ (anyLoaded s = false → t.line.state = .parked ∧ t.car.state = .unhomed ∧ t.line.holds.any = false)
        ∧ (anyLoaded s = true → anyUnrejected s = false → coverEmptyClosed s = false →
          t.line.state = .draining ∧ t.car.state = .homing ∧ Asked t.bus .drive .home))
    ∧ ∀ b : Byte, 1 < b.toNat → exec (.clearLine g [b]) s = .next (respond 0x0D g .badRange [] (begun s))

/-! ## Loading (chapters 2, 3 and 4) -/

/-- The load fields of a book record, as the six steps of R26 make them from the ticket, the snapshot, the jaw gap
and the clamp's zero offset (R27 to R34). -/
def Obligations.LoadFieldsFollowSixSteps : Prop :=
  ∀ (k : Ticket) (p : Snapshot) (c : Fin 20) (gap : BitVec 16) (z : Int) (now : Time),
    let b := loadedBook k p c gap z now
    let tm : Int := gap.toNat - z
    b.ticket = k ∧ b.clamp = c ∧ b.jawGap = gap ∧ b.snapshot = p ∧ b.loadTime = now ∧ b.measured = tm
      ∧ (tm < 1000 ∨ 62000 < tm → b.setpoints = none ∧ b.verdict = .notChecked ∧ b.reason = some .thickness)
      ∧ (1000 ≤ tm → tm ≤ 62000 → ∃ sp, b.setpoints = some sp
        ∧ (let raw : Int := match p.mode with
            | .fixed => p.fixedStep
            | .twoClass => if (p.threshold : Int) ≤ tm then p.thickStep else p.thinStep
            | .computed => p.baseStep + ⌊((tm : ℚ) - 2000) / 4000⌋
          (raw + p.offset < 0 → sp.glueStep = 0 ∧ sp.clamped = true)
          ∧ (15 < raw + p.offset → sp.glueStep = 15 ∧ sp.clamped = true)
          ∧ (0 ≤ raw + p.offset → raw + p.offset ≤ 15 → (sp.glueStep : Int) = raw + p.offset ∧ sp.clamped = false))
        ∧ sp.spineWidth = tm + 2 * k.coverStock + (300 + 40 * sp.glueStep)
        ∧ (let u2 : Int := ⌊(k.coverWidth : ℚ) / 2⌋ - ⌊(sp.spineWidth : ℚ) / 2⌋
          let u3 : Int := u2 + sp.spineWidth
          let rounds := fun x y : Int => x % 10 = 0 ∧ y - 5 < x ∧ x ≤ y + 5
          rounds sp.s2 u2 ∧ rounds sp.s3 u3 ∧ (k.hinge = none → sp.outer = none)
          ∧ ∀ h, k.hinge = some h → ∃ s1 s4, sp.outer = some (s1, s4) ∧ rounds s1 (u2 - h) ∧ rounds s4 (u3 + h))
        ∧ (let s1 : Int := sp.outer.elim sp.s2 Prod.fst
          let s4 : Int := sp.outer.elim sp.s3 Prod.snd
          let fits := 5000 ≤ s1 ∧ s4 ≤ k.coverWidth - 5000 ∧ k.trimWidth ≤ sp.s2 ∧ k.trimWidth ≤ k.coverWidth - sp.s3
          (fits → b.verdict = .pass) ∧ (¬fits → b.verdict = .fail)
          ∧ (k.tolerance < |tm - k.nominal| → b.reason = some .thickness)
          ∧ (|tm - k.nominal| ≤ k.tolerance → b.reason = if fits then none else some .geometry)))

/-- LOADED: the head ticket becomes a complete book record in the clamp within the event, the counts follow, and
TICKETS_LOW is tested (R12, R15, R25, R26, R63). The model's own choices in it: the order of a slot answer's parts
(log 6). -/
def Obligations.LoadedMakesBookRecord : Prop :=
  ∀ (s : State) (j : Job) (tag : Byte) (slot : Nat) (gap : BitVec 16) (block : Identity) (wait : Nat) (k : Ticket)
    (rest : List Ticket),
    AnswersJob s .load j tag slot → DwellGoesOn s .load → j.item.params = .load block wait →
    s.tickets.queue = k :: rest → bookIn s j.item.clamp = none →
    ∃ t, exec (.slotAnswer .loader [(.load, .done (.loaded gap))] none ⟨false, true⟩) s = .next t
      ∧ JobClosed t .load j .done tag slot ∧ t.tickets = ⟨rest, false⟩
      ∧ clampRec t j.item.clamp = { clampRec s j.item.clamp with book := some (loadedBook k
        s.profiles[k.profile].fields j.item.clamp gap (clampRec s j.item.clamp).zero s.clock) }
      ∧ (∀ d, d ≠ j.item.clamp → clampRec t d = clampRec s d)
      ∧ t.dlv = { s.dlv with loaded := s.dlv.loaded + 1 } ∧ t.car.diverts = 0 ∧ overrunCount t .load = 0
      ∧ TablesKept s t ∧ t.trim = s.trim ∧ t.line = s.line ∧ t.glue = s.glue ∧ t.cover = s.cover
      ∧ (s.settings.leadThreshold = rest.length → LowReported rest.length t)

/-- A load job that ends without a book: the reservation is dropped and the clamp stays as it was. A diverted block
raises the divert count, and the third in a row reports INFEED_SEQUENCE with the head ticket; NO_BLOCK and FAILED
leave the count (R12, R64 to R67). The model's own choices in it: the order of a slot answer's parts (log 6). -/
def Obligations.LoadWithoutBook : Prop :=
  ∀ (s : State) (j : Job) (tag : Byte) (slot : Nat) (block : Identity) (wait : Nat),
    AnswersJob s .load j tag slot → DwellGoesOn s .load → j.item.params = .load block wait → s.car.diverts ≤ 2 →
    let ends := fun (a : JobAnswer) (e : JobStatus) (n : Nat) =>
      ∃ t, exec (.slotAnswer .loader [(.load, a)] none ⟨false, true⟩) s = .next t ∧ JobClosed t .load j e tag slot
        ∧ t.tickets = ⟨s.tickets.queue, false⟩ ∧ t.car.clamps = s.car.clamps ∧ LineKept s t ∧ t.car.diverts = n
        ∧ overrunCount t .load = 0 ∧ (n < 3 → t.line = s.line)
        ∧ (n = 3 → Noticed .infeedSequence ((s.tickets.queue.head?.map (·.id)).getD 0) t
          ∧ (s.line.state = .running →
            t.line = { s.line with holds := { s.line.holds with infeedSequence := true } }))
    (∀ x, ends (.done (.mismatch x)) .done (s.car.diverts + 1))
      ∧ ends (.done .unreadable) .done (s.car.diverts + 1) ∧ ends (.done .noBlock) .done s.car.diverts
      ∧ ∀ l, ends (.failed l) .failed s.car.diverts

/-- Zero learning moves the clamp's offset a quarter of the way to the reading, towards zero, within 500 micrometres
either way; a reading beyond 800 makes the clamp SUSPECT and leaves the offset (R44, R45). -/
def Obligations.ZeroLearningMovesOffset : Prop :=
  ∀ (s : State) (j : Job) (tag : Byte) (slot : Nat) (gap : BitVec 16),
    AnswersJob s .load j tag slot → DwellGoesOn s .load → j.item.params = .learn →
    let c := j.item.clamp
    let z := (clampRec s c).zero
    let moved := z + (gap.toInt - z).tdiv 4
    ∃ t, exec (.slotAnswer .loader [(.load, .done (.gap gap))] none ⟨false, true⟩) s = .next t
      ∧ JobClosed t .load j .done tag slot ∧ TablesKept s t ∧ DeliveryKept s t ∧ t.tickets = s.tickets
      ∧ t.line = s.line ∧ overrunCount t .load = 0 ∧ (∀ d, d ≠ c → clampRec t d = clampRec s d)
      ∧ bookIn t c = bookIn s c
      ∧ (-800 ≤ gap.toInt → gap.toInt ≤ 800 → (clampRec t c).mark = (clampRec s c).mark
        ∧ (clampRec t c).zero = if moved < -500 then -500 else if 500 < moved then 500 else moved)
      ∧ (gap.toInt < -800 ∨ 800 < gap.toInt → (clampRec t c).mark = .suspect ∧ (clampRec t c).zero = z
        ∧ Noticed .clampSuspect (BitVec.ofNat 32 c.val) t)

/-! ## The stations (chapters 4 and 5) -/

/-- A DONE of MILL, of side glue or of NIP records nothing in the book; a DONE of spine glue writes the glue time
t_g. Each sets its station's count to 0 (R69, R70, R72, R97). A DONE of an apply removes the head cover-line entry
and, in APPLY form, writes the cover time; in DIVERT form it writes none (R94). A FAILED job at MILL, GLUE or NIP
gives its book the reason STATION, unless it carries one, and sets its station's count to 0; an apply also loses its
cover-line entry (R17, R69, R71, R72, R94, R97). A new restart mark in a node's slot is counted and ends the node's
open jobs FAILED, PENDING ones included, but for a release whose DONE has been taken (R73, R98, R160). A node that
does not speak of a job has none: an ISSUED job is sent again in a repeat WORK of its own unless one waits, a BUSY
job ends FAILED (R154). The model's own choices in it: the order of a slot answer's parts (log 6); a waiting WORK
keeps a restarted node's job (log 47). -/
def Obligations.StationJobsEnd : Prop :=
  (∀ (s : State) (st : Station) (j : Job) (tag : Byte) (slot : Nat) (r : JobResult) (temp : Option Nat),
      AnswersJob s st j tag slot → DwellGoesOn s st → (st = .mill ∨ st = .side ∨ st = .nip ∨ st = .spine) →
      ∃ t, exec (.slotAnswer (stationNode st) [(st, .done r)] temp ⟨false, true⟩) s = .next t
        ∧ JobClosed t st j .done tag slot ∧ TablesKept s t ∧ DeliveryKept s t ∧ t.tickets = s.tickets
        ∧ t.cover = s.cover ∧ t.trim = s.trim ∧ overrunCount t st = 0
        ∧ (∀ d, (st = .spine → d ≠ j.item.clamp) → clampRec t d = clampRec s d)
        ∧ (st = .spine → clampRec t j.item.clamp = { clampRec s j.item.clamp with
          book := (bookIn s j.item.clamp).map (fun b => { b with glueTime := some s.clock }) }))
  ∧ (∀ (s : State) (j : Job) (tag : Byte) (slot : Nat) (r : JobResult) (form : ApplyForm),
      AnswersJob s .apply j tag slot → DwellGoesOn s .apply → j.item.params = .apply form →
      ∃ t, exec (.slotAnswer .cover [(.apply, .done r)] none ⟨false, true⟩) s = .next t ∧ JobClosed t .apply j .done tag slot
        ∧ TablesKept s t ∧ DeliveryKept s t ∧ t.tickets = s.tickets ∧ t.line = s.line ∧ overrunCount t .apply = 0
        ∧ t.cover = { s.cover with entries := s.cover.entries.drop 1 }
        ∧ (∀ d, (form = .apply → d ≠ j.item.clamp) → clampRec t d = clampRec s d)
        ∧ (form = .apply → clampRec t j.item.clamp = { clampRec s j.item.clamp with
          book := (bookIn s j.item.clamp).map (fun b => { b with coverTime := some s.clock }) }))
  ∧ (∀ (s : State) (st : Station) (j : Job) (tag : Byte) (slot : Nat) (l : List Attempt) (temp : Option Nat),
      AnswersJob s st j tag slot → DwellGoesOn s st →
      (st = .mill ∨ st = .spine ∨ st = .side ∨ st = .nip ∨ st = .apply) →
      ∃ t, exec (.slotAnswer (stationNode st) [(st, .failed l)] temp ⟨false, true⟩) s = .next t
        ∧ JobClosed t st j .failed tag slot ∧ LineKept s t ∧ overrunCount t st = 0
        ∧ (∀ d, d ≠ j.item.clamp → clampRec t d = clampRec s d)
        ∧ bookIn t j.item.clamp = (bookIn s j.item.clamp).map (fun b =>
            { b with reason := some (b.reason.getD .station) })
        ∧ t.cover = (if st = .apply then { s.cover with entries := s.cover.entries.drop 1 } else s.cover))
  ∧ (∀ (s : State) (n : NodeId) (tag : Byte) (slot : Nat) (l : List (Station × JobAnswer)) (temp : Option Nat),
      s.pins.inReset = false → s.bus.current = some (.poll tag slot) → slotNode slot = some n →
      s.car.state = .dwelling → (nodeRec s n).ackPending = false →
      (∃ k ∈ s.car.jobs, stationNode k.item.station ≠ n ∧ k.ended = false) →
      ∃ t, exec (.slotAnswer n l temp ⟨true, true⟩) s = .next t ∧ LineKept s t
        ∧ nodeRec t n = { nodeRec s n with
          state := .present, misses := 0, lastAnswer := s.clock
          restarts := min 255 ((nodeRec s n).restarts + 1), ackPending := true }
        ∧ t.bus.current = some (.poll tag (slot + 1))
        ∧ ∀ st j, stationNode st = n → jobAt s st = some j → j.ended = false →
          (j.releaseDone = true → jobAt t st = some j ∧ (st = .release → t.dlv = s.dlv))
          ∧ (j.releaseDone = false → jobAt t st = some { j with status := .failed, limit := .suspended }
            ∧ (st = .load → (∃ a b, j.item.params = .load a b) → t.tickets.reserved = false)
            ∧ (st = .release → s.dlv.dropWatch = .early → t.dlv.dropWatch = .none)
            ∧ (st ≠ .load → st ≠ .release → ∀ b, bookIn s j.item.clamp = some b →
              bookIn t j.item.clamp = some { b with reason := some (b.reason.getD .station) })))
  ∧ (∀ (s : State) (st : Station) (j : Job) (tag : Byte) (slot : Nat) (l : List (Station × JobAnswer))
      (temp : Option Nat),
      AnswersJob s st j tag slot → DwellGoesOn s st → l = [] ∨ l = [(st, .noJob)] →
      ∃ t, exec (.slotAnswer (stationNode st) l temp ⟨false, true⟩) s = .next t ∧ LineKept s t
        ∧ (j.status = .busy → st ≠ .release → JobClosed t st j .failed tag slot
          ∧ ∀ b, st ≠ .load → bookIn s j.item.clamp = some b →
            bookIn t j.item.clamp = some { b with reason := some (b.reason.getD .station) })
        ∧ (j.status = .issued → jobAt t st = some j ∧ t.car = s.car ∧ t.bus.current = some (.poll tag (slot + 1))
          ∧ (let waits := ∃ items, .work tag items true ∈ s.bus.carQ ∧ ∃ i ∈ items, i.station = st
            (waits → t.bus.carQ = s.bus.carQ)
              ∧ (¬waits → t.bus.carQ = s.bus.carQ ++ [.work tag [j.item] true]))))

/-- A draw's outcomes move the mismatch count in their order, a KEEP whose last outcome is a match adds its entry at
the tail of the cover line, any other KEEP gives COVER, and at a count of 2 COVER_SEQUENCE is reported (R83, R86,
R87). A draw that ends FAILED counts its outcomes in the same way, adds no entry and gives COVER when they bring the
count to 2 and STATION otherwise (R83, R88). A DONE with no attempts or with more than allowed counts as FAILED with
no outcomes (R86); so does a DONE whose result is of another job's kind. The model's own choices in it: the order of
a slot answer's parts (log 6); a draw's DONE whose result is of another kind carries no attempts (log 22). -/
def Obligations.DrawOutcomes : Prop :=
  (∀ (s : State) (j : Job) (tag : Byte) (slot : Nat) (l : List Attempt) (form : DrawForm) (expected : Option Identity)
    (allowed : Nat) (scores : Option (Int × Int × Option (Int × Int))),
    AnswersJob s .draw j tag slot → DwellGoesOn s .draw → j.item.params = .draw form expected allowed scores →
    l ≠ [] → l.length ≤ allowed →
    let n := l.foldl (fun n a => if a = .hit then 0 else min 2 (n + 1)) s.cover.mismatch
    let id := j.item.ticket.getD 0
    ∃ t, exec (.slotAnswer .cover [(.draw, .done (.draw l))] none ⟨false, true⟩) s = .next t
      ∧ JobClosed t .draw j .done tag slot ∧ LineKept s t ∧ overrunCount t .draw = 0 ∧ t.cover.mismatch = n
      ∧ (∀ d, d ≠ j.item.clamp → clampRec t d = clampRec s d)
      ∧ (form = .keep → l.getLast? = some .hit →
        t.cover.entries = s.cover.entries ++ [⟨j.item.clamp, id⟩] ∧ t.car.clamps = s.car.clamps)
      ∧ (form = .keep → l.getLast? ≠ some .hit → t.cover.entries = s.cover.entries
        ∧ bookIn t j.item.clamp = (bookIn s j.item.clamp).map (fun b =>
          { b with reason := some (b.reason.getD .cover) }))
      ∧ (form = .divert → t.cover.entries = s.cover.entries ∧ t.car.clamps = s.car.clamps)
      ∧ (n < 2 → t.line = s.line)
      ∧ (n = 2 → Noticed .coverSequence id t ∧ (s.line.state = .running ∨ s.line.state = .draining →
        t.line = { s.line with holds := { s.line.holds with coverSequence := true } })))
  ∧ ∀ (s : State) (j : Job) (tag : Byte) (slot : Nat) (form : DrawForm) (expected : Option Identity)
    (allowed : Nat) (scores : Option (Int × Int × Option (Int × Int))),
    AnswersJob s .draw j tag slot → DwellGoesOn s .draw → j.item.params = .draw form expected allowed scores →
    let fails := fun (a : JobAnswer) (l : List Attempt) =>
      let n := l.foldl (fun n a => if a = .hit then 0 else min 2 (n + 1)) s.cover.mismatch
      let id := j.item.ticket.getD 0
      let why := if l ≠ [] ∧ n = 2 then RejectReason.cover else .station
      ∃ t, exec (.slotAnswer .cover [(.draw, a)] none ⟨false, true⟩) s = .next t ∧ JobClosed t .draw j .failed tag slot
        ∧ LineKept s t ∧ overrunCount t .draw = 0 ∧ t.cover = { s.cover with mismatch := n }
        ∧ (∀ d, d ≠ j.item.clamp → clampRec t d = clampRec s d)
        ∧ bookIn t j.item.clamp = (bookIn s j.item.clamp).map (fun b => { b with reason := some (b.reason.getD why) })
        ∧ (l = [] ∨ n < 2 → t.line = s.line)
        ∧ (l ≠ [] → n = 2 → Noticed .coverSequence id t ∧ (s.line.state = .running ∨ s.line.state = .draining →
          t.line = { s.line with holds := { s.line.holds with coverSequence := true } }))
    (∀ l, fails (.failed l) l)
      ∧ ∀ r, (∀ l, r = .draw l → l = [] ∨ allowed < l.length) → fails (.done r) []

/-- RELEASE's DONE writes the release time and stops the job's limit. Without an early drop the drop window opens
and the job goes on; with one the drop is confirmed: the record passes from the clamp to the tail of the cooling
queue, and the job ends DONE. RELEASE's FAILED leaves the book in its clamp with no reason, discards an early drop
and raises the station's count, which at 2 faults the line (R51, R125). A drop window of 300 ms that runs out makes
the book lost: FAULT, its record in the done list or waiting for room in its clamp, and the line faulted with
BOOK_LOST (R125, R126, R127). The model's own choices in it: an event whose time has not come does nothing (log 2);
the order of a slot answer's parts (log 6); the drop watch names its clamp (log 27); a second RELEASE DONE for a
book (log 53). -/
def Obligations.ReleaseOpensDropWatch : Prop :=
  (∀ (s : State) (j : Job) (tag : Byte) (slot : Nat) (r : JobResult) (b : Book),
    AnswersJob s .release j tag slot → DwellGoesOn s .release → bookIn s j.item.clamp = some b →
    let out := { b with releaseTime := some s.clock }
    ∃ t, exec (.slotAnswer .release [(.release, .done r)] none ⟨false, true⟩) s = .next t ∧ TablesKept s t
      ∧ t.tickets = s.tickets ∧ t.car.state = .dwelling ∧ t.dlv.done = s.dlv.done ∧ t.trim.held = s.trim.held
      ∧ (∀ d, d ≠ j.item.clamp → clampRec t d = clampRec s d)
      ∧ (s.dlv.dropWatch ≠ .early → t.dlv = { s.dlv with dropWatch := .opened j.item.clamp s.clock }
        ∧ bookIn t j.item.clamp = some out ∧ jobAt t .release = some
          { j with status := .busy, limit := .suspended, releaseDone := true })
      ∧ (s.dlv.dropWatch = .early → bookIn t j.item.clamp = none ∧ t.dlv.dropWatch = .none
        ∧ t.dlv.cooling = s.dlv.cooling ++ [{ out with coolEntry := some s.clock }]
        ∧ overrunCount t .release = 0 ∧ jobAt t .release = some
          { j with status := .done, limit := .suspended, releaseDone := true }))
  ∧ (∀ (s : State) (j : Job) (tag : Byte) (slot : Nat) (l : List Attempt),
    AnswersJob s .release j tag slot → DwellGoesOn s .release →
    ∃ t, exec (.slotAnswer .release [(.release, .failed l)] none ⟨false, true⟩) s = .next t ∧ LineKept s t
      ∧ jobAt t .release = some { j with status := .failed, limit := .suspended }
      ∧ t.dlv = { s.dlv with dropWatch := if s.dlv.dropWatch = .early then .none else s.dlv.dropWatch }
      ∧ (overrunCount s .release = 0 → overrunCount t .release = 1 ∧ t.line = s.line ∧ t.car.clamps = s.car.clamps
        ∧ JobClosed t .release j .failed tag slot)
      ∧ (1 ≤ overrunCount s .release → overrunCount t .release = 2 ∧ LineFaulted s t .stationOverrun
        ∧ Noticed .stationOverrun 6 t))
  ∧ ∀ (s : State), s.pins.inReset = false →
    ((∀ c w, s.dlv.dropWatch = .opened c w → (s.clock - w).toNat < 300) →
      exec .dropWindowTimeout s = .next (clearOut s))
    ∧ ∀ c w b, s.dlv.dropWatch = .opened c w → 300 ≤ (s.clock - w).toNat → bookIn s c = some b →
      s.car.state = .dwelling →
      let lost := { b with reason := some (b.reason.getD .fault) }
      ∃ t, exec .dropWindowTimeout s = .next t ∧ TablesKept s t ∧ t.tickets.queue = s.tickets.queue
        ∧ t.dlv.dropWatch = .none ∧ t.dlv.cooling = s.dlv.cooling ∧ t.dlv.loaded = s.dlv.loaded
        ∧ t.dlv.collected = s.dlv.collected ∧ t.trim.held = s.trim.held ∧ LineFaulted s t .bookLost
        ∧ Noticed .bookLost b.ticket.id t
        ∧ (∀ d, d ≠ c → ∀ x, bookIn s d = some x → ∃ y, bookIn t d = some y ∧ BookKept x y)
        ∧ (s.dlv.done.length < 32 → bookIn t c = none ∧ t.dlv.waiters = s.dlv.waiters
          ∧ t.dlv.done = s.dlv.done ++ [{ lost with outTime := some s.clock, outcome := some .rejected }])
        ∧ (32 ≤ s.dlv.done.length → bookIn t c = some lost ∧ t.dlv.done = s.dlv.done
          ∧ t.dlv.waiters = s.dlv.waiters ++ [.clamp c])

/-- The end of a dwell: its last open job, of any station, ends by its node's answer, by its overrun limit or by the
confirm of its drop. A full dwell sets the worked mark (R53). A pending hold puts the line HELD, and a DRAINING line
too, but one with the park mark and no clamp loaded, which enters PARKED (R107, R115). The halt mark turns RUNNING
into DRAINING, and into HELD when a guard is open or the covers are out (R105, R114). In a moving line without a
hold a book at P11 begins a release dwell, a lost record there makes the carousel stand, other loaded clamps begin
an index (R54). With none loaded DRAINING is left for STANDBY, or for WARMING when the wake condition holds, and in
RUNNING the carousel moves an unusable clamp away from P0, or stands and the standby timer starts (R54, R106, R115,
R116). A load's LOADED gives the next index its work. The model's own choices in it: a free bus is granted within
the event (log 5); the order of a slot answer's parts (log 6); each line state passed through has its effects (log
12); a scan's changes go to their owners after its pass (log 21); the drop watch names its clamp (log 27); the
cadences keep their grid (log 28); the check value of a bus frame is free (log 45); an open drop watch beside a
later release job (log 54). -/
def Obligations.DwellEndIndexes : Prop :=
  (∀ (s : State) (c : Instr) (at_ : Fin 20) (out : Option (Fin 20)), EndsDwell s c at_ out →
    let v := match c with
      | .scanEnd r => scanned r s
      | _ => s
    let left := fun d => bookIn s d ≠ none ∧ out ≠ some d
    let draining := s.line.state = .draining
    let held := s.line.holds.any = true
    let blocked := anyGuardOpen v = true ∨ coverEmptyClosed v = true
    let halts := s.line.state = .running ∧ s.line.halt = true ∧ ¬held
    let drains := draining ∧ s.line.park = false ∧ s.line.halt = false ∧ ¬held ∨ halts ∧ EntryClear v
    let runs := s.line.state = .running ∧ s.line.halt = false ∧ ¬held
    let atGate := fun d => clampAt s 11 = some d ∧ left d
    let ends := fun (p : State → Prop) => ∃ t, exec c s = .next t ∧ TablesKept v t ∧ t.tickets.queue = s.tickets.queue
      ∧ (∀ d, d ≠ at_ → out ≠ some d → clampRec t d = clampRec s d)
      ∧ (out = none → DeliveryKept s t) ∧ (∀ d, out = some d → bookIn t d = none)
      ∧ (∀ x, c = .slotAnswer .loader [(.load, .done .noBlock)] x ⟨false, true⟩ → LineKept s t ∧ t.car.clamps = s.car.clamps)
      ∧ t.car.worked = (s.car.worked || s.car.dwell == .full) ∧ t.car.phase = s.car.phase
      ∧ t.car.phaseKnown = s.car.phaseKnown ∧ p t
    let stands := fun t : State => t.car.state = .standing ∧ t.bus.fast = false
    let indexes := fun t : State => t.car.state = .indexing ∧ t.line.standbyTimer = none ∧ t.bus.fast = false
      ∧ Asked t.bus .drive .index
    let shifts := fun t : State => s.tickets.queue ≠ [] ∧ ∃ e, clampAt s 0 = some e ∧ (clampRec t e).mark ≠ .inUse
      ∧ ∃ d, d ≠ e ∧ (clampRec t d).mark = .inUse ∧ bookIn t d = none
    (s.line.state = .running ∨ draining → held → ¬(draining ∧ s.line.park = true ∧ ∀ d, ¬left d) →
      ends fun t => stands t ∧ t.line.state = .held ∧ t.line.holds = s.line.holds ∧ t.line.halt = false
        ∧ t.line.park = false ∧ t.line.standbyTimer = none
        ∧ t.line.returnState = if draining ∨ s.line.halt = true then .draining else .running)
    ∧ (draining → s.line.park = true → (∀ d, ¬left d) → ends fun t => stands t ∧ t.line.state = .parked
      ∧ t.line.holds.any = false ∧ t.line.park = false ∧ t.glue.target = .off)
    ∧ (halts → blocked → ends fun t => stands t ∧ t.line.state = .held ∧ t.line.returnState = .draining
      ∧ t.line.halt = false ∧ t.line.holds.guardOpen = anyGuardOpen v ∧ t.line.holds.coverEmpty = coverEmptyClosed v)
    ∧ (drains → (∀ d, ¬left d) → wakeCondition v = false → ends fun t => stands t ∧ t.line.state = .standby
      ∧ t.line.halt = false ∧ t.line.standbyTimer = none
      ∧ t.line.parkTimer = some (s.clock, s.settings.parkDelay * 1000)
      ∧ t.glue.target = .standby (s.settings.workTemp - s.settings.standbyDrop))
    ∧ (drains → (∀ d, ¬left d) → wakeCondition v = true → s.glue.cond ≠ .atTemp → ends fun t => stands t
      ∧ t.line.state = .warming ∧ t.line.warmTimer = some s.clock ∧ t.line.parkTimer = none
      ∧ t.glue.target = .working s.settings.workTemp)
    ∧ (drains ∨ runs →
      let moving := fun t : State => t.line.halt = false ∧ t.line.holds.any = false
        ∧ (drains → t.line.state = .draining) ∧ (runs → t.line.state = .running)
      ((∃ d, left d) → clampAt s 11 ≠ none → (∀ d, ¬atGate d) → present s .drive = true →
        ends fun t => indexes t ∧ moving t)
      ∧ (∀ d, atGate d → .clamp d ∈ s.dlv.waiters → ends fun t => stands t ∧ moving t)
      ∧ (∀ d, atGate d → out = none → .clamp d ∉ s.dlv.waiters → ends fun t => moving t ∧ t.line.standbyTimer = none
        ∧ t.car.state = .dwelling ∧ t.car.dwell = .release ∧ t.car.tag = s.car.tag + 1
        ∧ ∃ k b, t.car.jobs = [k] ∧ bookIn t d = some b ∧ k.item = ⟨.release, d, some b.ticket.id, .release⟩
          ∧ k.releaseDone = false ∧ (k.status = .pending ↔ 40 ≤ s.dlv.cooling.length)
          ∧ (s.dlv.cooling.length < 40 → .work (s.car.tag + 1) [k.item] false ∈ t.bus.carQ
            ∨ BusContent.frame (.work (s.car.tag + 1) [k.item]) ∈ t.busOut)))
    ∧ (runs → (∀ d, ¬left d) → clampAt s 11 ≠ none → present s .drive = true → ends fun t =>
      t.line.state = .running ∧ (shifts t → indexes t)
        ∧ (¬shifts t → stands t ∧ t.line.standbyTimer = some (s.clock, s.settings.standbyDelay * 1000)))
    ∧ (s.line.state ≠ .running → ¬draining → ends fun t => stands t ∧ t.line = s.line))
  ∧ ∀ (s : State) (j : Job) (tag : Byte) (slot : Nat) (block : Identity) (wait : Nat) (gap : BitVec 16) (d : Fin 20)
    (tk : Ticket) (rest : List Ticket), AnswersJob s .load j tag slot → LastOpen s .load →
    j.item.params = .load block wait → s.tickets.queue = tk :: rest → bookIn s j.item.clamp = none →
    s.line.state = .running → s.line.halt = false → s.line.holds.any = false → clampAt s 11 = some d →
    d ≠ j.item.clamp → bookIn s d = none → present s .drive = true →
    ∃ t, exec (.slotAnswer .loader [(.load, .done (.loaded gap))] none ⟨false, true⟩) s = .next t ∧ TablesKept s t
      ∧ t.line.state = .running ∧ t.car.state = .indexing ∧ t.car.worked = (s.car.worked || s.car.dwell == .full)
      ∧ bookIn t j.item.clamp ≠ none ∧ t.tickets.queue = rest ∧ t.line.standbyTimer = none
      ∧ Asked t.bus .drive .index

/-- A full dwell begins when an index is completed in a moving state: INDEX's DONE moves every clamp on by one
position and clears the draw mark, the dwell tag rises, the job list of R48 is built, station by station, for the
clamps at the working positions, and its WORK is sent on the free bus (R48, R49, R55, R83, R84, R93, R154). The
model's own choices in it: a free bus is granted within the event (log 5); a job not yet sent is neither PENDING nor
ISSUED (log 8); the 2 ms window in whole milliseconds (log 39); the check value of a bus frame is free (log 45). -/
def Obligations.IndexBeginsFullDwell : Prop :=
  ∀ (s : State) (q : Byte) (φ : Fin 20) (book : Book), AnswersRequest s .drive .index q → s.car.state = .indexing →
    s.car.phase = some φ → s.car.phaseKnown = true → s.line.state = .running ∨ s.line.state = .draining →
    let place := fun p : Fin 20 => p - (φ + 1)
    let lost := fun c => .clamp c ∈ s.dlv.waiters
    let sound := fun (p : Fin 20) (b : Book) =>
      bookIn s (place p) = some b ∧ b.reason = none ∧ ¬lost (place p)
    sound 2 book →
    ∃ t, exec (.indexAnswer q .done ⟨false, true⟩) s = .next t ∧ LineKept s t ∧ t.car.phase = some (φ + 1)
      ∧ t.car.state = .dwelling ∧ t.car.dwell = .full ∧ t.car.worked = false ∧ t.car.tag = s.car.tag + 1
      ∧ t.line = { s.line with standbyTimer := none }
      ∧ t.busOut = [BusContent.frame (.work (s.car.tag + 1) ((t.car.jobs.filter (·.status == .issued)).map (·.item)))]
      ∧ (∀ j ∈ t.car.jobs, j.status = .issued ∧ j.limit =
          (if j.item.station = .draw ∧ coverEmptyClosed s = true then .suspended else .running s.clock)
        ∨ j.status = .pending ∧ j.item.station = .release)
      ∧ (t.cover.drawMark = true ↔ ∃ j ∈ t.car.jobs, j.item.station = .draw) ∧ t.bus.fast = true
      ∧ (let has := fun st p id params => ∃ j ∈ t.car.jobs, j.item = ⟨st, place p, id, params⟩
        let hasNone := fun st => ∀ j ∈ t.car.jobs, j.item.station ≠ st
        (∀ k rest, bookIn s (place 0) = none → (clampRec s (place 0)).mark = .inUse → s.line.state = .running →
          s.tickets.queue = k :: rest → has .load 0 none (.load k.blockId s.settings.loadWait)
            ∧ t.tickets.reserved = true)
        ∧ (bookIn s (place 0) = none → (clampRec s (place 0)).mark = .inUse →
          s.line.state = .draining ∨ s.tickets.queue = [] → s.settings.zeroLearning = true → has .load 0 none .learn)
        ∧ (bookIn s (place 0) ≠ none ∨ (clampRec s (place 0)).mark ≠ .inUse → hasNone .load)
        ∧ has .mill 2 (some book.ticket.id) (.mill book.ticket.millDepth)
        ∧ (∀ b, sound 4 b → has .spine 4 (some b.ticket.id) (.spine (b.setpoints.map (·.glueStep))))
        ∧ ((∀ b, ¬sound 4 b) → hasNone .spine)
        ∧ (∀ b w, sound 5 b → b.ticket.sideGlue = some w →
          has .side 5 (some b.ticket.id) (.side w b.snapshot.sideStep))
        ∧ ((∀ b, sound 5 b → b.ticket.sideGlue = none) → hasNone .side)
        ∧ (∀ b, bookIn s (place 5) = some b → ¬lost (place 5) →
          (b.reason = none → has .draw 5 (some b.ticket.id) (.draw .keep b.ticket.coverId
            (if s.cover.mismatch = 0 then 2 else 1) (b.setpoints.map (fun sp => (sp.s2, sp.s3, sp.outer)))))
          ∧ (b.reason ≠ none → has .draw 5 (some b.ticket.id) (.draw .divert b.ticket.coverId
            (if s.cover.mismatch = 0 then 2 else 1) none)))
        ∧ (∀ b, bookIn s (place 7) = some b → ¬lost (place 7) → (∃ e ∈ s.cover.entries, e.clamp = place 7) →
          let late := ∃ g, b.glueTime = some g ∧ 100 * b.snapshot.openTime < (s.clock - g).toNat
          (b.reason = none → ¬late → has .apply 7 (some b.ticket.id) (.apply .apply))
          ∧ (b.reason = none → late → has .apply 7 (some b.ticket.id) (.apply .divert)
            ∧ bookIn t (place 7) = some { b with reason := some .openTime })
          ∧ (b.reason ≠ none → has .apply 7 (some b.ticket.id) (.apply .divert)))
        ∧ ((∀ e ∈ s.cover.entries, e.clamp ≠ place 7) → hasNone .apply)
        ∧ (∀ b, sound 8 b → has .nip 8 (some b.ticket.id) (.nip (b.setpoints.map (·.spineWidth))))
        ∧ ((∀ b, ¬sound 8 b) → hasNone .nip)
        ∧ (∀ b, bookIn s (place 11) = some b → ¬lost (place 11) →
          ∃ j ∈ t.car.jobs, j.item = ⟨.release, place 11, some b.ticket.id, .release⟩
            ∧ (j.status = .pending ↔ 40 ≤ s.dlv.cooling.length))
        ∧ (bookIn s (place 11) = none → hasNone .release))

/-- The endings of INDEX and HOME: HOME's DONE sets the phase and leaves the carousel standing (its draw mark
cleared when the phase is another than the last known), a BUSY waits its 5 ms, and a FAILED, or the limit of 1,500
ms run out, leaves the carousel UNHOMED with the phase unknown and faults a line that can fault (R55, R56, R59, R60,
R83, R156). A new restart mark in any answer of DRIVE ends the move as FAILED (R160). An answer with another number,
or after the reply window of 2 ms, counts as none (R153). The model's own choices in it: an event whose time has not
come does nothing (log 2); an event that nothing asked for does nothing (log 3); a free bus is granted within the
event (log 5); the 2 ms window in whole milliseconds (log 39). -/
def Obligations.MovesEnd : Prop :=
  ∀ (s : State) (q : Byte) (restarted : Bool),
    let fails := fun (c : Instr) => ∃ t, exec c s = .next t ∧ LineKept s t ∧ t.car.state = .unhomed
      ∧ t.car.phaseKnown = false ∧ t.car.phase = s.car.phase ∧ t.car.moveTimer = none ∧ Noticed .indexTimeout 7 t
      ∧ LineFaulted s t .indexTimeout
    (AnswersRequest s .drive .home q → s.car.state = .homing →
      (∀ p, s.line.state = .warming → exec (.homeAnswer q (.done p) ⟨false, true⟩) s = .next { heard .drive s with
        car := { s.car with state := .standing, worked := false, moveTimer := none
                            phase := some p, phaseKnown := true }
        cover := if s.car.phase = some p then s.cover else { s.cover with drawMark := false } })
      ∧ fails (.homeAnswer q .failed ⟨false, true⟩)
      ∧ exec (.homeAnswer q .busy ⟨false, true⟩) s = .next { heard .drive s with bus := { (heard .drive s).bus with
        busyWait := s.bus.busyWait ++ [(⟨.drive, .home, some q⟩, s.clock)] } })
    ∧ (AnswersRequest s .drive .index q → s.car.state = .indexing →
      fails (.indexAnswer q .failed ⟨false, true⟩)
      ∧ exec (.indexAnswer q .busy ⟨false, true⟩) s = .next { heard .drive s with bus := { (heard .drive s).bus with
        busyWait := s.bus.busyWait ++ [(⟨.drive, .index, some q⟩, s.clock)] } })
    ∧ (∀ k, AnswersRequest s .drive k q → (nodeRec s .drive).ackPending = false →
      s.car.state = .indexing ∨ s.car.state = .homing →
      (k = .index → ∀ a, fails (.indexAnswer q a ⟨true, true⟩)) ∧ (k = .home → ∀ a, fails (.homeAnswer q a ⟨true, true⟩))
        ∧ (k = .nodeStatus → fails (.nodeStatusAnswer .drive q ⟨true, true⟩)))
    ∧ (s.pins.inReset = false →
      let out := ∃ w, s.car.moveTimer = some w ∧ 1500 ≤ (s.clock - w).toNat
      (s.car.state = .indexing → out → fails .indexTimeout)
      ∧ (s.car.state = .homing → out → fails .homingTimeout)
      ∧ (s.car.state ≠ .indexing ∨ ¬out → exec .indexTimeout s = .next (clearOut s))
      ∧ (s.car.state ≠ .homing ∨ ¬out → exec .homingTimeout s = .next (clearOut s))
      ∧ ((∀ r g w, s.bus.current = some (.request r g w) → r.seq ≠ some q ∨ 2 < (s.clock - w).toNat) →
        exec (.indexAnswer q .done ⟨restarted, true⟩) s = .next (clearOut s)
          ∧ exec (.homeAnswer q (.done 0) ⟨restarted, true⟩) s = .next (clearOut s)))

/-- A job that has been in flight for 3,000 ms of its limit is ABORTED: ABORT goes to its node, its book gets
STATION unless it carries a reason, a load drops its reservation, an apply its cover-line entry, and the station's
count rises; at 2 the line faults with STATION_OVERRUN. No other job is overrun (R51, R67, R94, R125). The model's
own choices in it: an event whose time has not come does nothing (log 2); a free bus is granted within the event
(log 5); the check value of a bus frame is free (log 45). -/
def Obligations.OverrunAbortsJob : Prop :=
  ∀ (s : State) (st : Station) (j : Job) (w : Time), s.pins.inReset = false → s.car.state = .dwelling →
    jobAt s st = some j → DwellGoesOn s st →
    let out := (j.status = .issued ∨ j.status = .busy) ∧ j.limit = .running w ∧ 3000 ≤ (s.clock - w).toNat
    ((j.status ≠ .issued ∧ j.status ≠ .busy) ∨ (∀ x, j.limit = .running x → (s.clock - x).toNat < 3000) →
      exec (.jobOverrun st) s = .next (clearOut s))
    ∧ (out → ∃ t, exec (.jobOverrun st) s = .next t ∧ LineKept s t
      ∧ jobAt t st = some { j with status := .aborted, limit := .suspended }
      ∧ (present s (stationNode st) = true →
        .abortJob st ∈ t.bus.carQ ∨ BusContent.frame (.abortJob (stationNode st) st) ∈ t.busOut)
      ∧ (∀ b, st ≠ .load → bookIn s j.item.clamp = some b →
        bookIn t j.item.clamp = some { b with reason := some (b.reason.getD .station) })
      ∧ (st = .load → (∃ a b, j.item.params = .load a b) → t.tickets.reserved = false)
      ∧ (st = .apply → t.cover.entries = s.cover.entries.drop 1)
      ∧ (st = .release → s.dlv.dropWatch = .early → t.dlv.dropWatch = .none)
      ∧ (overrunCount s st = 0 → overrunCount t st = 1 ∧ t.line = s.line ∧ t.car.state = .dwelling)
      ∧ (1 ≤ overrunCount s st → overrunCount t st = 2 ∧ LineFaulted s t .stationOverrun
        ∧ Noticed .stationOverrun (BitVec.ofNat 32 (nodeAddr (stationNode st))) t))

/-! ## The pot (chapter 4) -/

/-- GLUE's temperature outside a dwell: the latest reading, the settling window that a reading in the working band
starts and one outside it ends, and the out-of-band condition while the target is the working temperature; the
window's end makes the pot AT_TEMP (R76, R77, R78, R104, R110). The model's own choices in it: an event whose time
has not come does nothing (log 2); the order of a slot answer's parts (log 6); each line state passed through has
its effects (log 12). -/
def Obligations.PotFollowsReadings : Prop :=
  ∀ (s : State), s.pins.inReset = false →
    (∀ (tag : Byte) (x : Nat), s.bus.current = some (.poll tag 3) → s.car.state ≠ .dwelling →
      let work := s.settings.workTemp
      let near := x ≤ work + 3 ∧ work ≤ x + 3
      let oob := if s.glue.target.isWorking = true then decide (work + 8 < x ∨ x + 8 < work) else s.glue.outOfBand
      let news := oob = true ∧ s.glue.outOfBand = false
      let u := { clearOut s with bus := { s.bus with
        current := some (.poll tag 4)
        nodes := s.bus.nodes.set 2 { nodeRec s .glue with state := .present, misses := 0, lastAnswer := s.clock } } }
      ∃ t, exec (.slotAnswer .glue [] (some x) ⟨false, true⟩) s = .next t ∧ LineKept s t ∧ t.glue.reading = some x
        ∧ (near → s.glue.cond = .notAtTemp → t.glue.cond = .settling ∧ t.glue.window = some s.clock)
        ∧ (near → s.glue.cond ≠ .notAtTemp → t.glue.cond = s.glue.cond ∧ t.glue.window = s.glue.window)
        ∧ (¬near → t.glue.cond = .notAtTemp ∧ t.glue.window = none)
        ∧ t.glue.outOfBand = oob ∧ t.bus.current = some (.poll tag 4)
        ∧ (¬news → t = { u with glue := t.glue } ∧ t.glue.target = s.glue.target)
        ∧ (news → s.line.state = .running → Noticed .glueTemp 3 t
          ∧ t.line.holds = { s.line.holds with glueTemp := true }
          ∧ (s.car.state = .standing ∨ s.car.state = .unhomed → t.line.state = .held)
          ∧ (s.car.state = .indexing ∨ s.car.state = .homing → t.line.state = .running)))
    ∧ (let out := s.glue.cond = .settling ∧ ∃ w, s.glue.window = some w ∧ 30000 ≤ (s.clock - w).toNat
      (¬out → exec .glueSettlingWindow s = .next (clearOut s))
      ∧ (out → s.line.state ≠ .warming → s.line.state ≠ .held → exec .glueSettlingWindow s =
        .next { clearOut s with glue := { s.glue with cond := .atTemp, window := none } })
      ∧ (out → s.line.state = .warming → s.car.state = .homing →
        ∃ t, exec .glueSettlingWindow s = .next t ∧ LineKept s t ∧ t.glue.cond = .atTemp ∧ t.line.state = .running
          ∧ t.line.warmTimer = none ∧ t.line.holds.guardOpen = anyGuardOpen s
          ∧ t.line.holds.coverEmpty = coverEmptyClosed s ∧ t.car.state = .homing ∧ t.car.diverts = 0
          ∧ t.cover.mismatch = 0)
      ∧ (out → s.line.state = .warming → s.car.state = .standing ∨ s.car.state = .unhomed →
        ∃ t, exec .glueSettlingWindow s = .next t ∧ LineKept s t ∧ t.glue.cond = .atTemp ∧ t.glue.window = none
          ∧ t.line.warmTimer = none ∧ t.car.diverts = 0 ∧ t.cover.mismatch = 0
          ∧ (¬EntryClear s → t.line.state = .held ∧ t.line.returnState = .running ∧ t.car.state = s.car.state
            ∧ t.line.holds.guardOpen = anyGuardOpen s ∧ t.line.holds.coverEmpty = coverEmptyClosed s)
          ∧ (EntryClear s → present s .drive = true → t.line.state = .running ∧ t.line.holds.any = false
            ∧ (s.car.state = .unhomed → t.car.state = .homing ∧ Asked t.bus .drive .home)
            ∧ (s.car.state = .standing → s.car.worked = true → anyLoaded s = false → s.tickets.queue = [] →
              t.car.state = .standing
                ∧ t.line.standbyTimer = some (s.clock, s.settings.standbyDelay * 1000)))))

/-! ## The line's timers and the e-stop (chapters 6 and 10) -/

/-- The warm timer faults the line with HEAT_TIMEOUT, the standby timer puts it into STANDBY (or back to WARMING on
the wake condition), the park timer into PARKED, and a flashing READY lamp changes every 500 ms. A timer that is not
running or has not run out does nothing (R104, R106, R116, R117, R121). The model's own choices in it: an event
whose time has not come does nothing (log 2); each line state passed through has its effects (log 12); the cadences
keep their grid (log 28). -/
def Obligations.LineTimersRunOut : Prop :=
  ∀ (s : State), s.pins.inReset = false →
    let warm := s.line.state = .warming ∧ ∃ w, s.line.warmTimer = some w ∧ 2400000 ≤ (s.clock - w).toNat
    let stand := s.line.state = .running ∧ ∃ w n, s.line.standbyTimer = some (w, n) ∧ n ≤ (s.clock - w).toNat
    let park := s.line.state = .standby ∧ ∃ w n, s.line.parkTimer = some (w, n) ∧ n ≤ (s.clock - w).toNat
    let flash := (s.line.state = .warming ∨ s.line.state = .held) ∧ 500 ≤ (s.clock - s.line.flashBase).toNat
    let wakes := s.tickets.queue ≠ [] ∧ s.scan.contacts[(0 : Fin 64)].closed = true
      ∧ s.scan.contacts[(0 : Fin 64)].uncertain = false
    (¬warm → exec .warmTimeout s = .next (clearOut s))
    ∧ (warm → ∃ t, exec .warmTimeout s = .next t ∧ LineKept s t ∧ LineFaulted s t .heatTimeout
      ∧ Noticed .heatTimeout 3 t)
    ∧ (¬stand → exec .standbyTimeout s = .next (clearOut s))
    ∧ (stand → ¬wakes → ∃ t, exec .standbyTimeout s = .next t ∧ LineKept s t ∧ t.line.state = .standby
      ∧ t.line.standbyTimer = none ∧ t.line.parkTimer = some (s.clock, s.settings.parkDelay * 1000)
      ∧ t.line.lamps = ⟨false, false, true, true, !s.line.estopLatch⟩
      ∧ t.glue.target = .standby (s.settings.workTemp - s.settings.standbyDrop) ∧ t.car = s.car ∧ t.bus = s.bus)
    ∧ (stand → wakes → s.glue.cond ≠ .atTemp → s.car.state ≠ .unhomed → ∃ t, exec .standbyTimeout s = .next t ∧ LineKept s t
      ∧ t.line.state = .warming ∧ t.line.warmTimer = some s.clock ∧ t.line.standbyTimer = none
      ∧ t.line.parkTimer = none ∧ t.glue.target = .working s.settings.workTemp)
    ∧ (¬park → exec .parkTimeout s = .next (clearOut s))
    ∧ (park → ∃ t, exec .parkTimeout s = .next t ∧ LineKept s t ∧ t.line.state = .parked ∧ t.glue.target = .off
      ∧ t.line.holds.any = false ∧ t.line.warmTimer = none ∧ t.line.standbyTimer = none ∧ t.line.parkTimer = none
      ∧ t.line.lamps = ⟨false, false, false, false, !s.line.estopLatch⟩ ∧ t.car = s.car ∧ t.bus = s.bus)
    ∧ (¬flash → exec .lampFlashToggle s = .next (clearOut s))
    ∧ (flash → exec .lampFlashToggle s = .next { clearOut s with line := { s.line with
      flashBase := s.line.flashBase + 500
      lamps := { s.line.lamps with ready := !s.line.lamps.ready } } })

/-- The e-stop's activation sets the latch with TRIM_EN off, faults the line and leaves the carousel UNHOMED, faults
the trimmer with FAULT for a book inside it, and raises ESTOP. An active input that reads low again gives no second
activation. Once it has read high for 50 ms it is released, which changes the input and nothing else (R118, R119,
R121, R149, R171). The model's own choices in it: an event whose time has not come does nothing (log 2); each line
state passed through has its effects (log 12); when a chattering e-stop input is released (log 37). -/
def Obligations.EstopFaultsLineAndTrimmer : Prop :=
  ∀ s : State, s.pins.inReset = false →
    let high := s.pins.estopActive = true ∧ 50 ≤ (s.clock - s.pins.estopLowAt).toNat
    (high → exec .estopReleased s = .next { clearOut s with pins := { s.pins with estopActive := false } })
    ∧ (¬high → exec .estopReleased s = .next (clearOut s))
    ∧ (s.pins.estopActive = true →
      exec .estopActivated s = .next { clearOut s with pins := { s.pins with estopLowAt := s.clock } })
    ∧ (s.pins.estopActive = false → ∃ t, exec .estopActivated s = .next t
      ∧ TablesKept { s with pins := { s.pins with estopActive := true, estopLowAt := s.clock } } t ∧ ClampsKept s t
      ∧ t.tickets.queue = s.tickets.queue ∧ t.dlv.cooling = s.dlv.cooling ∧ t.dlv.done = s.dlv.done
      ∧ t.dlv.loaded = s.dlv.loaded ∧ t.dlv.collected = s.dlv.collected ∧ t.line.lamps.trim = false
      ∧ Noticed .estop 0 t ∧ t.trim.state = .faulted ∧ t.trim.cause = some .estop
      ∧ LineFaulted { s with line := { s.line with
        estopLatch := true, lamps := { s.line.lamps with trim := false } } } t .estop
      ∧ t.line.estopLatch = true
      ∧ (Faultable s → s.car.state ≠ .unhomed →
        t.car.state = .unhomed ∧ t.car.phaseKnown = false ∧ t.car.phase = s.car.phase)
      ∧ (s.line.state = .faulted → s.car.state = .standing → t.car.state = .unhomed ∧ t.car.phaseKnown = false)
      ∧ (s.line.state = .starting ∨ s.line.state = .parked → t.car.state = s.car.state)
      ∧ (s.trim.state = .faulted → t.trim.held = s.trim.held)
      ∧ (s.trim.state ≠ .faulted →
        t.trim.front.converged = false ∧ t.trim.foot.converged = false ∧ t.trim.head.converged = false
        ∧ t.trim.settleTimer = .stopped ∧ t.trim.stepTimer = none ∧ t.trim.pendingFault = none
        ∧ (∀ b, s.trim.held = .inside b → t.trim.held = .inside { b with reason := some (b.reason.getD .fault) })
        ∧ ((∀ b, s.trim.held ≠ .inside b) → t.trim.held = s.trim.held)))

/-! ## Contacts (chapter 10) -/

/-- A complete scan takes every contact's reading in contact order: a contact is UNCERTAIN, its state kept, when
some rectangle has its other three corners closed and certain (earlier ones as this scan left them), and otherwise
changes its state on the third reading in a row that differs, or at once in the first scan. With no change for an
owner nothing else moves. A scan is due 2 ms after the last (R165, R166, R167, R168). The model's own choices in it:
an event whose time has not come does nothing (log 2); a scan's changes go to their owners after its pass (log 21);
the cadences keep their grid (log 28). -/
def Obligations.ScanDebouncesContacts : Prop :=
  ∀ (r : BitVec 64) (s : State), s.pins.inReset = false →
    ((s.clock - s.scan.scanBase).toNat < 2 → exec (.scanEnd r) s = .next (clearOut s))
    ∧ (2 ≤ (s.clock - s.scan.scanBase).toNat → ∃ t, exec (.scanEnd r) s = .next t
      ∧ t.scan.firstScan = false ∧ t.scan.scanBase = s.scan.scanBase + 2
      ∧ (∀ i : Fin 64,
        let old := s.scan.contacts[i]
        let new := t.scan.contacts[i]
        let reads := r.getLsbD i.val
        let shut := fun k : Fin 64 =>
          if k < i then certainClosed t.scan.contacts k else certainClosed s.scan.contacts k
        let ghost := ∃ c d, c ≠ driveOf i ∧ d ≠ senseOf i ∧ shut (crossing (driveOf i) d) = true
          ∧ shut (crossing c (senseOf i)) = true ∧ shut (crossing c d) = true
        new.reading = some reads
        ∧ (ghost → new.uncertain = true ∧ new.closed = old.closed ∧ new.count = 0)
        ∧ (¬ghost → new.uncertain = false
          ∧ (s.scan.firstScan = true → new.closed = reads ∧ new.count = 0)
          ∧ (s.scan.firstScan = false →
            (reads = old.closed → new.closed = old.closed ∧ new.count = 0)
            ∧ (reads ≠ old.closed → old.count < 2 → new.closed = old.closed ∧ new.count = old.count + 1)
            ∧ (reads ≠ old.closed → 2 ≤ old.count → new.closed = reads ∧ new.count = 0))))
      ∧ (s.scan.firstScan = false → (∀ i ∈ owned, t.scan.contacts[i].closed = s.scan.contacts[i].closed) →
        (∀ i ∈ guards, t.scan.contacts[i].uncertain = true → s.scan.contacts[i].uncertain = true) →
        t = { clearOut s with scan := t.scan }))

/-- What the owners make of one change: a block at the infeed that wakes the line or begins a fresh load dwell (R57,
R116), the drop and push confirms and their early marks (R125, R126, R130), the exits' confirm and early mark
(R146), the cover notices and the cover jam (R92, R118), an empty cover stack with its hold and the limit of the
draw in flight (R90, R91), a carousel guard that opens (R109), a guard that closes or a stack that is refilled with
a HALT waiting in HELD (R114), the infeed jam (R111), the trim guard (R148) and the trimmer's jam (R149, R169). The
model's own choices in it: an event whose time has not come does nothing (log 2); a free bus is granted within the
event (log 5); each line state passed through has its effects (log 12); a scan's changes go to their owners after
its pass (log 21); the two bits the model adds to the trimmer (log 24); the drop watch names its clamp (log 27); the
cadences keep their grid (log 28); a drop's dwell end after its head decision (log 42); a room report before the
trimmer and the next push (log 43); an open drop watch beside a later release job (log 54). -/
def Obligations.OwnersTakeContactChanges : Prop :=
  ∀ (r : BitVec 64) (i : Fin 64) (closing : Bool) (s : State), HandsChange s r i closing →
    let u := scanned r s
    let written := fun (b : Book) (o : BookOutcome) => { b with
      outTime := some s.clock, outcome := some (if b.reason = none then o else .rejected) }
    let takes := fun (p : State → Prop) => ∃ t, exec (.scanEnd r) s = .next t ∧ t.scan = u.scan ∧ p t
    let moves := s.line.state = .running ∨ s.line.state = .draining
    let stands := s.car.state = .standing ∨ s.car.state = .unhomed
    let holding := fun (h : Holds) (t : State) =>
      (moves ∨ s.line.state = .held → t.line.holds = h)
        ∧ (moves → t.line.state = if stands then .held else s.line.state) ∧ (s.line.state = .held → t.line.state = .held)
        ∧ (¬moves → s.line.state ≠ .held → t.line = s.line)
    let limited := fun l : Limit => { u with car := { s.car with jobs := s.car.jobs.map fun j =>
      if j.item.station = .draw ∧ (j.status = .issued ∨ j.status = .busy) then { j with limit := l } else j } }
    let released := fun v : State =>
      let drains := s.line.state = .held ∧ s.line.drainRelease = true ∧ resumeConditions u = true
      (¬drains → exec (.scanEnd r) s = .next v)
        ∧ (drains → EntryClear u → anyLoaded s = true → present s .drive = true → takes fun t => t.line.state = .draining
          ∧ t.line.holds.any = false ∧ t.line.drainRelease = false ∧ LineKept { s with scan := u.scan } t)
    (i = 0 → closing = true →
      (s.tickets.queue = [] → exec (.scanEnd r) s = .next u)
      ∧ (s.line.state = .standby → s.tickets.queue ≠ [] → s.glue.cond ≠ .atTemp → s.car.state ≠ .unhomed →
        takes fun t => t.line.state = .warming ∧ t.line.warmTimer = some s.clock ∧ t.line.standbyTimer = none
          ∧ t.line.parkTimer = none ∧ t.glue.target = .working s.settings.workTemp ∧ t.car = s.car)
      ∧ (∀ k rest c, s.line.state = .running → s.line.holds.any = false → s.car.state = .standing → s.car.worked = true →
        s.tickets.queue = k :: rest → clampAt s 0 = some c → bookIn s c = none → (clampRec s c).mark = .inUse →
        takes fun t => t.car.state = .dwelling ∧ t.car.dwell = .freshLoad ∧ t.car.tag = s.car.tag + 1
          ∧ t.car.jobs.map (·.item) = [⟨.load, c, none, .load k.blockId s.settings.loadWait⟩]
          ∧ t.tickets = ⟨s.tickets.queue, true⟩ ∧ t.line = { s.line with standbyTimer := none }
          ∧ t.car.clamps = s.car.clamps))
    ∧ (i = 1 → closing = true →
      (∀ c w b, s.dlv.dropWatch = .opened c w → bookIn s c = some b → s.car.state = .dwelling →
        DwellGoesOn s .release → takes (fun t => bookIn t c = none ∧ (∀ d, d ≠ c → clampRec t d = clampRec s d)
          ∧ t.dlv.dropWatch = .none ∧ t.dlv.cooling = s.dlv.cooling ++ [{ b with coolEntry := some s.clock }]
          ∧ t.dlv.done = s.dlv.done ∧ t.line = s.line ∧ t.car.state = .dwelling
          ∧ ∀ j, jobAt s .release = some j → j.ended = false → overrunCount t .release = 0
            ∧ jobAt t .release = some { j with status := .done, limit := .suspended }))
      ∧ ((∀ c w, s.dlv.dropWatch ≠ .opened c w) → exec (.scanEnd r) s = .next
        (if releaseInFlight s = true then { u with dlv := { s.dlv with dropWatch := .early } } else u)))
    ∧ (i = 3 → closing = true →
      (s.dlv.gate ≠ .infeedPush → exec (.scanEnd r) s = .next u)
      ∧ (s.dlv.gate = .infeedPush → (∀ w, s.dlv.gateConfirm ≠ .window w) →
        exec (.scanEnd r) s = .next { u with dlv := { s.dlv with gateConfirm := .early } })
      ∧ ∀ w b rest, s.dlv.gate = .infeedPush → s.dlv.gateConfirm = .window w → s.dlv.cooling = b :: rest →
        takes (fun t => t.dlv.cooling = rest ∧ t.dlv.done = s.dlv.done
          ∧ (s.trim.state = .faulted → t.trim.state = .faulted
            ∧ ∃ b', t.trim.held = .inside b' ∧ b'.ticket = b.ticket ∧ b'.reason = some (b.reason.getD .fault))
          ∧ (s.trim.state ≠ .faulted → present s .trimmer = true →
            t.trim.dest = (if b.ticket.sample then .sample else .good)
            ∧ (t.trim.state = .positioning ↔ s.trim.guardPause = true)
            ∧ ∃ b', t.trim.held = .inside b' ∧ b'.ticket = b.ticket ∧ b'.reason = b.reason
              ∧ b'.revibrate = some 0)))
    ∧ (i = 5 → closing = true →
      (s.dlv.gate ≠ .rejectPush → exec (.scanEnd r) s = .next u)
      ∧ (s.dlv.gate = .rejectPush → (∀ w, s.dlv.gateConfirm ≠ .window w) →
        exec (.scanEnd r) s = .next { u with dlv := { s.dlv with gateConfirm := .early } }))
    ∧ (i = 5 → closing = true → ∀ w b rest, s.dlv.gate = .rejectPush → s.dlv.gateConfirm = .window w →
      s.dlv.cooling = b :: rest →
      (s.dlv.done.length < 32 → takes (fun t => t.dlv.cooling = rest ∧ LineKept { s with
          scan := u.scan, dlv := t.dlv } t ∧ t.dlv.done = s.dlv.done ++ [written b .rejected]
          ∧ (s.dlv.done.length = 0 ∨ s.dlv.done.length = 23 → ReadyReported (s.dlv.done.length + 1) t)))
      ∧ (32 ≤ s.dlv.done.length → takes (fun t => t.dlv = { s.dlv with
          gate := .waitingRoom, gateConfirm := .none, waiters := s.dlv.waiters ++ [.cooling] })))
    ∧ (i = 4 ∨ i = 6 → closing = true → s.trim.dest = (if i = 4 then .good else .sample) →
      ∀ w b, s.trim.exitConfirm = .window w → s.trim.held = .out b → s.trim.state = .eject →
      (s.dlv.done.length < 32 → takes (fun t => t.trim.held = .none ∧ t.trim.state = .idle
          ∧ t.trim.exitConfirm = .none
          ∧ t.dlv.done = s.dlv.done ++ [written b (if i = 4 then .good else .sample)]))
      ∧ (32 ≤ s.dlv.done.length → takes (fun t => t.trim = { s.trim with exitConfirm := .none }
          ∧ t.dlv = { s.dlv with waiters := s.dlv.waiters ++ [.trimmer] })))
    ∧ (i = 4 ∨ i = 6 → closing = true →
      let here := s.trim.dest = (if i = 4 then .good else .sample)
      (¬here → exec (.scanEnd r) s = .next u)
      ∧ (here → (∀ w, s.trim.exitConfirm ≠ .window w) → exec (.scanEnd r) s = .next
        (if ejectInFlight s = true then { u with trim := { s.trim with exitConfirm := .early } } else u)))
    ∧ (i = 9 → closing = true → takes fun t => Noticed .coverEmpty 4 t ∧ t.car = (limited .suspended).car
      ∧ holding { s.line.holds with coverEmpty := true } t ∧ LineKept { s with scan := u.scan } t)
    ∧ (i = 9 → closing = false → released (limited (.running s.clock)))
    ∧ (i = 24 → closing = true → takes fun t => Noticed .infeedSequence 24 t ∧ t.car = s.car
      ∧ holding { s.line.holds with infeedSequence := true } t ∧ LineKept { s with scan := u.scan } t)
    ∧ (16 ≤ i → i ≤ 21 → closing = true → released u)
    ∧ (i = 8 → closing = true → takes (fun t => Noticed .coverLow 4 t ∧ ∃ h, t = { u with host := h }))
    ∧ (i = 10 → closing = true → takes (fun t => Noticed .coverJam 4 t ∧ LineKept { s with scan := u.scan } t
      ∧ LineFaulted s t .coverJam))
    ∧ (16 ≤ i → i ≤ 21 → closing = false →
      (s.line.state ≠ .running → s.line.state ≠ .draining → s.line.state ≠ .held →
        exec (.scanEnd r) s = .next u)
      ∧ (moves ∨ s.line.state = .held → takes fun t => Noticed .guardOpen (BitVec.ofNat 32 i) t ∧ t.car = s.car
        ∧ holding { s.line.holds with guardOpen := true } t ∧ LineKept { s with scan := u.scan } t))
    ∧ (i = 22 → closing = false →
      exec (.scanEnd r) s = .next { u with trim := { s.trim with guardPause := true } })
    ∧ (i = 22 → closing = true → s.trim.state = .idle ∨ s.trim.state = .faulted →
      exec (.scanEnd r) s = .next { u with trim := { s.trim with guardPause := false } })
    ∧ (i = 25 → closing = true → takes (fun t => Noticed .trimmerFault 25 t ∧ t.trim.state = .faulted
      ∧ t.trim.cause = some .trimmerFault ∧ t.line = s.line))

/-! ## The station bus (chapter 9) -/

/-- A POLL round falls due at its cadence and is sent on a free bus with the tag, the pot target and the pending
acknowledgements, or waits once; at the end of a round the bus goes to the carousel's oldest frame, else to the
first of the three others that waits, counting from the one after the last served (R153, R155, R160, R162). A
granted request or POLL takes the bus. A WORK or an ABORT is sent and the bus is granted on at once, as at the end
of a round with that frame taken away; a first WORK of the dwell in progress issues its jobs and begins the fast
cadence, and a WORK with a draw sets the draw mark (R49, R83, R154). The model's own choices in it: an event whose
time has not come does nothing (log 2); an event that nothing asked for does nothing (log 3); a free bus is granted
within the event (log 5); the cadences keep their grid (log 28); a WORK left from an ended dwell is still sent (log
40); the check value of a bus frame is free (log 45). -/
def Obligations.PollRoundsAndGrants : Prop :=
  ∀ s : State, s.pins.inReset = false →
    let gap := if s.bus.fast then 5 else 100
    let later := { s.bus with pollBase := s.bus.pollBase + BitVec.ofNat 32 gap }
    let isDue := s.bus.pollOn = true ∧ gap ≤ (s.clock - s.bus.pollBase).toNat
    let polled := fun (c : Instr) (b : Bus) => ∃ t acks, exec c s = .next t
      ∧ t.busOut = [BusContent.frame (.poll s.car.tag s.glue.target acks)]
      ∧ (∀ n, n ∈ acks ↔ isGroup n = true ∧ (nodeRec s n).ackPending = true)
      ∧ t = { clearOut s with
        busOut := t.busOut
        bus := { b with nodes := t.bus.nodes, current := some (.poll s.car.tag 1), lastPoll := s.clock } }
      ∧ ∀ n, nodeRec t n = { nodeRec s n with ackPending := (nodeRec s n).ackPending && !isGroup n }
    (¬isDue → exec .pollRoundDue s = .next (clearOut s))
    ∧ (isDue → .poll ∈ s.bus.carQ → exec .pollRoundDue s = .next { clearOut s with bus := later })
    ∧ (isDue → .poll ∉ s.bus.carQ → s.bus.current ≠ none →
      exec .pollRoundDue s = .next { clearOut s with bus := { later with carQ := s.bus.carQ ++ [.poll] } })
    ∧ (isDue → NothingWaits s.bus → s.bus.current = none → polled .pollRoundDue later)
    ∧ ∀ tag slot, s.bus.current = some (.poll tag slot) →
      (1 ≤ slot → slot ≤ 6 → exec .pollRoundEnd s = .next (clearOut s))
      ∧ (slot = 7 →
        let waits := fun (b : Bus) (x : Rotation) => match x with
          | .trimmer => b.trimQ
          | .cooling => b.coolQ
          | .probe => b.probeQ
        let order := match s.bus.lastServed with
          | .trimmer => [Rotation.cooling, .probe, .trimmer]
          | .cooling => [Rotation.probe, .trimmer, .cooling]
          | .probe => [Rotation.trimmer, .cooling, .probe]
        let granted := fun (q : Request) => ∃ t, exec .pollRoundEnd s = .next t ∧ LineKept s t
          ∧ ∃ n, (∀ m, q.seq = some m → n = m) ∧ (q.seq = none → n = (nodeRec s q.node).seq + 1)
            ∧ t.bus.current = some (.request ⟨q.node, q.kind, some n⟩ false s.clock)
            ∧ t.bus.carQ = s.bus.carQ.drop 1
        let passes := fun (f : BusContent) (u : State) => ∃ t, exec .pollRoundEnd u = .next t
          ∧ exec .pollRoundEnd s = .next { t with busOut := f.frame :: t.busOut }
        (NothingWaits s.bus → exec .pollRoundEnd s = .next { clearOut s with bus := { s.bus with current := none } })
        ∧ (∀ q rest, s.bus.carQ = .req q :: rest → granted q)
        ∧ (∀ rest, s.bus.carQ = .poll :: rest → polled .pollRoundEnd { s.bus with carQ := rest })
        ∧ (∀ rest, s.bus.carQ = .abortAll :: rest → passes .abortAll { s with bus := { s.bus with carQ := rest } })
        ∧ (∀ st rest, s.bus.carQ = .abortJob st :: rest →
          passes (.abortJob (stationNode st) st) { s with bus := { s.bus with carQ := rest } })
        ∧ (∀ g items again rest, s.bus.carQ = .work g items again :: rest →
          let first := s.car.state == .dwelling && s.car.tag == g && !again
          let issued := fun (j : Job) =>
            if j.status = .built ∧ ∃ i ∈ items, i.station = j.item.station then { j with
              status := .issued
              limit := if coverEmptyClosed s && j.item.station == .draw then .suspended else .running s.clock }
            else j
          passes (.work g items) { s with
            car := { s.car with jobs := if first then s.car.jobs.map issued else s.car.jobs }
            cover := { s.cover with drawMark := s.cover.drawMark || items.any (·.station == .draw) }
            bus := { s.bus with
              carQ := rest
              fast := s.bus.fast || first
              pollBase := if first && !s.bus.fast then s.clock else s.bus.pollBase } })
        ∧ ∀ x, s.bus.carQ = [] → order.find? (fun y => !(waits s.bus y).isEmpty) = some x →
          (∀ q rest, waits s.bus x = .req q :: rest → granted q
            ∧ ∃ t, exec .pollRoundEnd s = .next t ∧ waits t.bus x = rest ∧ t.bus.lastServed = x)
          ∧ (∀ rest, x = .trimmer → s.bus.trimQ = .abortTrimmer :: rest →
            passes .abortTrimmer { s with bus := { s.bus with trimQ := rest, lastServed := .trimmer } }))

/-- A frame of a node that fails its check is discarded and changes nothing (R153). An empty slot and a reply window
closed after its 2 ms count a miss for a PRESENT node and for no other; an unanswered request is offered again with
its number; the third miss in a row makes the node LOST, gives up its requests and faults the line (nodes 1 to 7) or
the trimmer (nodes 8 and 9) with NODE_LOST (R131, R149, R152, R153, R157, R158, R159). The model's own choices in
it: an event whose time has not come does nothing (log 2); an event that nothing asked for does nothing (log 3); a
free bus is granted within the event (log 5); an unanswered PROBE of a PRESENT node is a miss (log 26); the 2 ms
window in whole milliseconds (log 39); the check value of a bus frame is free (log 45); the order of the owners at a
loss (log 55). -/
def Obligations.MissesAndLoss : Prop :=
  ∀ s : State, s.pins.inReset = false →
    let missed := fun (n : NodeId) => s.bus.nodes.set (nodeIdx n).val
      { nodeRec s n with misses := (nodeRec s n).misses + 1 }
    let lost := fun (n : NodeId) (t : State) => (nodeRec t n).state = .lost ∧ (nodeRec t n).misses = 3
      ∧ (∀ f ∈ t.bus.carQ ++ t.bus.trimQ ++ t.bus.coolQ ++ t.bus.probeQ, ∀ q, f = .req q → q.node ≠ n)
    (∀ n q l temp a x e p m, ∀ c ∈ [Instr.slotAnswer n l temp ⟨m, false⟩, .indexAnswer q a ⟨m, false⟩, .homeAnswer q x ⟨m, false⟩,
      .pushAnswer q a ⟨m, false⟩, .setAxesAnswer q a ⟨m, false⟩, .readAxesAnswer q e ⟨m, false⟩, .stepAnswer q a ⟨m, false⟩,
      .nodeStatusAnswer n q ⟨m, false⟩, .probeAnswer n q p ⟨m, false⟩], exec c s = .next (clearOut s))
    ∧ (∀ tag slot n, s.bus.current = some (.poll tag slot) → slotNode slot = some n →
      let next := some (Transaction.poll tag (slot + 1))
      (present s n = false → exec .slotEmpty s = .next { clearOut s with bus := { s.bus with current := next } })
      ∧ (present s n = true → (nodeRec s n).misses < 2 → exec .slotEmpty s =
        .next { clearOut s with bus := { s.bus with current := next, nodes := missed n } })
      ∧ (present s n = true → 2 ≤ (nodeRec s n).misses → ∃ t, exec .slotEmpty s = .next t ∧ LineKept s t ∧ lost n t
        ∧ t.bus.current = next ∧ LineFaulted s t .nodeLost
        ∧ Noticed .nodeLost (BitVec.ofNat 32 (nodeAddr n)) t
        ∧ (n = .glue → t.glue.reading = none ∧ t.glue.cond = .notAtTemp ∧ t.glue.window = none)))
    ∧ ((∀ tag slot, s.bus.current ≠ some (.poll tag slot)) → exec .slotEmpty s = .next (clearOut s))
    ∧ (∀ n k q g w, s.bus.current = some (.request ⟨n, k, q⟩ g w) → (s.clock - w).toNat < 2 →
      exec .replyWindowClosed s = .next (clearOut s))
    ∧ (∀ n k q w, s.bus.current = some (.request ⟨n, k, some q⟩ false w) → 2 ≤ (s.clock - w).toNat →
      NothingWaits s.bus →
      let ended := { s.bus with current := none }
      (k = .probe false → present s n = false →
        exec .replyWindowClosed s = .next { clearOut s with bus := ended })
      ∧ (k = .probe true → 2 ≤ s.bus.probesLeft → exec .replyWindowClosed s =
        .next { clearOut s with bus := { ended with probesLeft := s.bus.probesLeft - 1 } })
      ∧ (k ≠ .probe true → present s n = true → (nodeRec s n).misses < 2 → ∃ t, exec .replyWindowClosed s = .next t
        ∧ LineKept s t ∧ t.line = s.line ∧ (nodeRec t n).misses = (nodeRec s n).misses + 1
        ∧ (nodeRec t n).state = .present ∧ (nodeRec t n).seq = (nodeRec s n).seq
        ∧ t.bus.current = some (.request ⟨n, k, some q⟩ false s.clock) ∧ ∃ ack, t.busOut = [BusContent.frame (.request n k q ack)])
      ∧ (k ≠ .probe true → present s n = true → 2 ≤ (nodeRec s n).misses → ∃ t, exec .replyWindowClosed s = .next t
        ∧ lost n t ∧ TablesKept s t
        ∧ (n = .drive → LineKept s t ∧ LineFaulted s t .nodeLost ∧ Noticed .nodeLost 7 t
          ∧ (Faultable s → s.car.state = .indexing ∨ s.car.state = .homing → t.car.state = .unhomed))
        ∧ (n = .cooling ∨ n = .trimmer → t.trim.state = .faulted ∧ t.trim.cause = some .nodeLost)
        ∧ (n = .trimmer → t.line = s.line ∧ Noticed .nodeLost 9 t)
        ∧ (n = .cooling → pushing s = true → s.dlv.cooling ≠ [] → t.dlv.gateStop = true ∧ LineFaulted s t .bookLost)
        ∧ (n = .cooling → pushing s = false → t.line = s.line ∧ t.dlv = s.dlv ∧ Noticed .nodeLost 8 t)))
    ∧ ((∀ q g w, s.bus.current ≠ some (.request q g w)) → exec .replyWindowClosed s = .next (clearOut s))

/-- Presence on the bus: answers to PROBE and NODE_STATUS make a node PRESENT with no miss, a new restart mark is
counted and its acknowledgement set pending, a BUSY request is sent again after 5 ms with its number, a node of 7 to
9 silent for 100 ms is asked its status, and every second each node that is not PRESENT is probed (R37, R152, R156,
R159, R160, R161). An answer after the reply window of 2 ms counts as none (R153). The model's own choices in it: an
event whose time has not come does nothing (log 2); an event that nothing asked for does nothing (log 3); a free bus
is granted within the event (log 5); the cadences keep their grid (log 28); the 2 ms window in whole milliseconds
(log 39); the check value of a bus frame is free (log 45). -/
def Obligations.NodesKeptInTouch : Prop :=
  ∀ (s : State) (n : NodeId) (q : Byte), s.pins.inReset = false →
    let asked := fun (k : ReqKind) => ∃ w, s.bus.current = some (.request ⟨n, k, some q⟩ false w) ∧ (s.clock - w).toNat ≤ 2
    let silent := isGroup n = false ∧ present s n = true ∧ 100 ≤ (s.clock - (nodeRec s n).lastAnswer).toNat
      ∧ holdsRequest s.bus n = false
    let second := s.line.state ≠ .starting ∧ 1000 ≤ (s.clock - s.bus.probeBase).toNat
    let none_ := fun (b : Bus) => ∀ e ∈ b.busyWait, e.1.node ≠ n ∨ (s.clock - e.2).toNat < 5
    (AnswersRequest s n .nodeStatus q → exec (.nodeStatusAnswer n q ⟨false, true⟩) s = .next (heard n s))
    ∧ (AnswersRequest s n .nodeStatus q → (nodeRec s n).ackPending = true →
      exec (.nodeStatusAnswer n q ⟨true, true⟩) s = .next (heard n s))
    ∧ (AnswersRequest s n .nodeStatus q → (nodeRec s n).ackPending = false → isGroup n = false →
      s.car.state = .standing → pushing s = false → s.trim.state = .idle →
      ∃ t, exec (.nodeStatusAnswer n q ⟨true, true⟩) s = .next t ∧ LineKept s t ∧ t.line = s.line
        ∧ nodeRec t n = { nodeRec s n with
          state := .present, misses := 0, lastAnswer := s.clock
          restarts := min 255 ((nodeRec s n).restarts + 1), ackPending := true })
    ∧ (NothingWaits s.bus → asked (.probe false) → n ≠ .cooling ∨ present s n = true →
      exec (.probeAnswer n q none ⟨false, true⟩) s = .next (heard n s))
    ∧ (NothingWaits s.bus → asked (.probe true) → n ≠ .cooling → 2 ≤ s.bus.probesLeft →
      (n ≠ .drive → exec (.probeAnswer n q none ⟨false, true⟩) s = .next { heard n s with bus := { (heard n s).bus with
        probesLeft := s.bus.probesLeft - 1 } })
      ∧ (n = .drive → s.car.state = .unhomed → ∀ p, exec (.probeAnswer n q (some p) ⟨false, true⟩) s = .next { heard n s with
        bus := { (heard n s).bus with probesLeft := s.bus.probesLeft - 1 }
        car := { s.car with phase := some p, phaseKnown := true, state := .standing, worked := false } }))
    ∧ (NothingWaits s.bus → asked (.probe true) → n = .trimmer → s.bus.probesLeft = 1 → s.line.state = .starting →
      s.line.loadDone = true → ∃ t, exec (.probeAnswer n q none ⟨false, true⟩) s = .next t ∧ LineKept s t
        ∧ t.line.state = .parked ∧ t.bus.pollOn = true ∧ t.bus.pollBase = s.clock ∧ t.bus.probeBase = s.clock
        ∧ present t n = true ∧ t.bus.current = none)
    ∧ (∀ k w rest, s.bus.busyWait = (⟨n, k, some q⟩, w) :: rest → 5 ≤ (s.clock - w).toNat → s.bus.current = none →
      NothingWaits s.bus → ∃ t, exec (.requestRepeatDue n) s = .next t ∧ LineKept s t ∧ t.bus.busyWait = rest
        ∧ t.bus.current = some (.request ⟨n, k, some q⟩ false s.clock) ∧ (nodeRec t n).seq = (nodeRec s n).seq
        ∧ ∃ ack, t.busOut = [BusContent.frame (.request n k q ack)])
    ∧ (none_ s.bus → exec (.requestRepeatDue n) s = .next (clearOut s))
    ∧ (∀ r g w, s.bus.current = some (.request r g w) → 2 < (s.clock - w).toNat → ∀ a e m p,
      let unheard := fun c : Instr => exec c s = .next (clearOut s)
      unheard (.nodeStatusAnswer n q ⟨m, true⟩) ∧ unheard (.probeAnswer n q p ⟨m, true⟩) ∧ unheard (.pushAnswer q a ⟨m, true⟩)
        ∧ unheard (.setAxesAnswer q a ⟨m, true⟩) ∧ unheard (.readAxesAnswer q e ⟨m, true⟩) ∧ unheard (.stepAnswer q a ⟨m, true⟩))
    ∧ (silent → s.bus.current = none → NothingWaits s.bus →
      ∃ t, exec (.nodeStatusDue n) s = .next t ∧ LineKept s t ∧ SentNow s t n .nodeStatus)
    ∧ (¬silent → exec (.nodeStatusDue n) s = .next (clearOut s))
    ∧ (second → ∃ t, exec .recoveryProbeDue s = .next t ∧ LineKept s t
      ∧ t.bus.probeBase = s.bus.probeBase + 1000
      ∧ (present s n = false → (∀ f ∈ s.bus.probeQ, ∃ m b r, f = .req ⟨m, .probe b, r⟩) →
        ∃ b, Asked t.bus n (.probe b))
      ∧ ((∀ m, present s m = true) → t = { clearOut s with bus := { s.bus with
        probeBase := s.bus.probeBase + 1000 } }))
    ∧ (¬second → exec .recoveryProbeDue s = .next (clearOut s))

/-! ## Delivery and the trimmer (chapters 7 and 8) -/

/-- The head timer begins the infeed push of a book without a reason. A push's DONE opens its 500 ms window, or with
the early mark confirms it; a FAILED push and a window run out lose the head: FAULT, its record in the done list or
waiting in the cooling queue, the gate stop mark, the line faulted and BOOK_LOST (R128, R129, R130, R131). So does a
new restart mark in any answer of COOLING before the push's DONE, and the push is asked no more, whether it has been
sent or waits for the bus; an open window runs on (R160). The model's own choices in it: an event whose time has not
come does nothing (log 2); a free bus is granted within the event (log 5); the head decision comes last (log 13); a
push that still waits for the bus is in flight for a restart mark (log 35); the 2 ms window in whole milliseconds
(log 39); a room report before the trimmer and the next push (log 43); a request given up is still answered by its
node (log 46). -/
def Obligations.PushesConfirmedOrLost : Prop :=
  ∀ (s : State), s.pins.inReset = false →
    let headDue := ∃ w n, s.dlv.headTimer = some (w, n) ∧ n ≤ (s.clock - w).toNat
    let allowed := s.dlv.done.length < 32 ∧ s.line.estopLatch = false ∧ present s .cooling = true
      ∧ s.dlv.gateStop = false
    let loses := fun (c : Instr) => ∀ b rest, s.dlv.cooling = b :: rest →
      let lost := { b with reason := some (b.reason.getD .fault) }
      ∃ t, exec c s = .next t ∧ LineKept { s with dlv := t.dlv } t ∧ t.dlv.gateStop = true
        ∧ t.dlv.gateConfirm = .none ∧ t.dlv.loaded = s.dlv.loaded ∧ t.dlv.collected = s.dlv.collected
        ∧ LineFaulted s t .bookLost ∧ Noticed .bookLost b.ticket.id t
        ∧ (s.dlv.done.length < 32 → t.dlv.gate = .idle ∧ t.dlv.cooling = rest ∧ t.dlv.waiters = s.dlv.waiters
          ∧ t.dlv.done = s.dlv.done ++ [{ lost with outTime := some s.clock, outcome := some .rejected }])
        ∧ (32 ≤ s.dlv.done.length → t.dlv.gate = .waitingRoom ∧ t.dlv.cooling = lost :: rest
          ∧ t.dlv.done = s.dlv.done ∧ t.dlv.waiters = s.dlv.waiters ++ [.cooling])
    (¬headDue → exec .headTimerExpiry s = .next (clearOut s))
    ∧ (headDue → s.dlv.gate ≠ .idle ∨ s.dlv.cooling = [] ∨ ¬allowed →
      exec .headTimerExpiry s = .next { clearOut s with dlv := { s.dlv with headTimer := none } })
    ∧ (headDue → s.dlv.gate = .idle → allowed → ∀ b rest, s.dlv.cooling = b :: rest → b.reason = none →
      (∀ e, b.coolEntry = some e → 100 * b.snapshot.coolDwell ≤ (s.clock - e).toNat) → s.trim.state = .idle →
      ∃ t, exec .headTimerExpiry s = .next t ∧ LineKept s t ∧ Asked t.bus .cooling (.infeedPush b.ticket.id)
        ∧ t.dlv = { s.dlv with headTimer := none, gate := .infeedPush, gateConfirm := .none })
    ∧ (∀ k q, AnswersRequest s .cooling k q → isPush k = true → pushing s = true →
      (s.dlv.gateConfirm ≠ .early → exec (.pushAnswer q .done ⟨false, true⟩) s =
        .next { heard .cooling s with dlv := { s.dlv with gateConfirm := .window s.clock } })
      ∧ (s.dlv.gateConfirm = .early → s.dlv.gate = .rejectPush → s.dlv.done.length < 32 →
        ∀ b rest, s.dlv.cooling = b :: rest → ∃ t, exec (.pushAnswer q .done ⟨false, true⟩) s = .next t
          ∧ LineKept { s with dlv := t.dlv } t ∧ t.dlv.cooling = rest
          ∧ t.dlv.done = s.dlv.done ++ [{ b with outTime := some s.clock, outcome := some .rejected }])
      ∧ (s.dlv.gateConfirm = .early → s.dlv.gate = .infeedPush → s.trim.state = .idle → s.trim.guardPause = true →
        ∀ b rest, s.dlv.cooling = b :: rest → ∃ t, exec (.pushAnswer q .done ⟨false, true⟩) s = .next t
          ∧ t.dlv.cooling = rest ∧ t.dlv.done = s.dlv.done ∧ t.trim.state = .positioning
          ∧ t.trim.held = .inside { b with revibrate := some 0 }
          ∧ t.trim.dest = (if b.ticket.sample then .sample else .good))
      ∧ exec (.pushAnswer q .busy ⟨false, true⟩) s = .next { heard .cooling s with bus := { (heard .cooling s).bus with
        busyWait := s.bus.busyWait ++ [(⟨.cooling, k, some q⟩, s.clock)] } }
      ∧ loses (.pushAnswer q .failed ⟨false, true⟩))
    ∧ (∀ k q, AnswersRequest s .cooling k q → pushing s = true → (nodeRec s .cooling).ackPending = false →
      (∀ w, s.dlv.gateConfirm ≠ .window w) →
      (isPush k = true → ∀ a, loses (.pushAnswer q a ⟨true, true⟩))
        ∧ (k = .nodeStatus → loses (.nodeStatusAnswer .cooling q ⟨true, true⟩)))
    ∧ (∀ q g w, s.bus.current = some (.request ⟨.cooling, .nodeStatus, some q⟩ g w) → (s.clock - w).toNat ≤ 2 →
      pushing s = true → (nodeRec s .cooling).ackPending = false →
      ∃ t, exec (.nodeStatusAnswer .cooling q ⟨true, true⟩) s = .next t
        ∧ (∀ x, s.dlv.gateConfirm = .window x → t.dlv = s.dlv)
        ∧ ((∀ x, s.dlv.gateConfirm ≠ .window x) → t.dlv.gateStop = true
          ∧ ∀ k, isPush k = true → ¬Asked t.bus .cooling k))
    ∧ (let out := pushing s = true ∧ ∃ w, s.dlv.gateConfirm = .window w ∧ 500 ≤ (s.clock - w).toNat
      (¬out → exec .pushWindowTimeout s = .next (clearOut s)) ∧ (out → loses .pushWindowTimeout))

/-- Positioning: SET_AXES' DONE asks for the first reading, each reading judges every axis by the table of R141 and
asks for the next, an axis in its band for 50 ms is converged, with the third CLAMPING begins, and the settle timer
run out ejects the book to reject with TRIM, the second time in a row with TRIM_SETTLE pending (R138, R141, R142,
R143, R148). At the closing of the trim guard the positioning decision is made: an axis needs a move unless its flag
is set and its known position lies within 20 micrometres of the book's target; SET_AXES names the axes that do, with
none CLAMPING begins with a settle time of 0 (R35, R140). In SETTLING the closing begins CLAMPING or takes the
deferred timeout (R148). The model's own choices in it: an event whose time has not come does nothing (log 2); a
free bus is granted within the event (log 5); a scan's changes go to their owners after its pass (log 21); the two
bits the model adds to the trimmer (log 24); the 2 ms window in whole milliseconds (log 39); a waiting reading is
withdrawn (log 44); the check value of a bus frame is free (log 45). -/
def Obligations.TrimmerSettlesAxes : Prop :=
  (∀ (s : State) (q : Byte) (b : Book), s.pins.inReset = false → s.trim.state = .settling →
    s.trim.held = .inside b →
    let heldKept := fun t : State => LineKept { s with trim := { s.trim with held := t.trim.held } } t ∧ t.line = s.line
    (∀ f o h, AnswersRequest s .trimmer (.setAxes f o h) q → ∃ t, exec (.setAxesAnswer q .done ⟨false, true⟩) s = .next t
      ∧ LineKept s t ∧ t.trim = s.trim ∧ SentNow s t .trimmer .readAxes)
    ∧ (AnswersRequest s .trimmer .readAxes q → ∀ ef eo eh, ∃ t,
      exec (.readAxesAnswer q (.errors ef eo eh) ⟨false, true⟩) s = .next t ∧ heldKept t ∧ SentNow s t .trimmer .readAxes
        ∧ t.trim.state = .settling ∧ t.trim.settleTimer = s.trim.settleTimer
        ∧ t.trim.held = .inside { b with
          revibrate := some (t.trim.front.revibrate + t.trim.foot.revibrate + t.trim.head.revibrate) }
        ∧ ∀ a, let old := axisOf s.trim a
          let new := axisOf t.trim a
          let e := match a with
            | .front => ef
            | .foot => eo
            | .head => eh
          let inside := -20 ≤ e ∧ e ≤ 20
          (inside → old.converged = false → old.window = none →
            new = { old with error := some e, window := some s.clock })
          ∧ (inside → old.converged = true ∨ old.window ≠ none → new = { old with error := some e })
          ∧ (¬inside → old.converged = false → new = { old with error := some e, window := none })
          ∧ (¬inside → old.converged = true → new = { old with
            error := some e, converged := false, window := none, revibrate := old.revibrate + 1 }))
    ∧ (AnswersRequest s .trimmer .readAxes q → exec (.readAxesAnswer q .busy ⟨false, true⟩) s =
      .next { heard .trimmer s with bus := { (heard .trimmer s).bus with
        busyWait := s.bus.busyWait ++ [(⟨.trimmer, .readAxes, some q⟩, s.clock)] } })
    ∧ (∀ a, let old := axisOf s.trim a
      let out := ∃ w, old.window = some w ∧ 50 ≤ (s.clock - w).toNat
      let u := setAxis a { old with
        converged := true, window := none, sinceMove := true
        settleTime := s.trim.moveTime.map (fun m => (s.clock - m).toNat) } s.trim
      let third := (∀ x, (axisOf u x).converged = true) ∧ s.trim.guardPause = false
      (¬out → exec (.axisSettleWindow a) s = .next (clearOut s))
      ∧ (out → ¬third → exec (.axisSettleWindow a) s = .next { clearOut s with trim := u })
      ∧ (out → third → present s .trimmer = true → ∃ t, exec (.axisSettleWindow a) s = .next t ∧ heldKept t
        ∧ t.trim.state = .clamping ∧ t.trim.settleTimer = .stopped ∧ t.trim.settleCount = 0
        ∧ Asked t.bus .trimmer (.step .clamp)
        ∧ ∃ n, t.trim.held = .inside { b with settleTime := some n } ∧ (s.trim.moveTime = none → n = 0)
          ∧ (s.trim.moveTime ≠ none → n ≤ 65535
            ∧ (∀ x v, (axisOf u x).sinceMove = true → (axisOf u x).settleTime = some v → min v 65535 ≤ n)
            ∧ (n = 65535 ∨ ∃ x, (axisOf u x).sinceMove = true ∧ (axisOf u x).settleTime = some n))))
    ∧ (let out := ∃ w, s.trim.settleTimer = .running w ∧ 2000 ≤ (s.clock - w).toNat
      (¬out → exec .settleTimeout s = .next (clearOut s))
      ∧ (out → s.trim.guardPause = true → exec .settleTimeout s =
        .next { clearOut s with trim := { s.trim with settleTimer := .runOut } })
      ∧ (out → s.trim.guardPause = false → present s .trimmer = true → ∃ t, exec .settleTimeout s = .next t
        ∧ heldKept t ∧ t.trim.state = .eject ∧ t.trim.dest = .reject ∧ t.trim.settleTimer = .stopped
        ∧ t.trim.held = .inside { b with reason := some (b.reason.getD .trim) }
        ∧ Asked t.bus .trimmer (.step (.eject .reject))
        ∧ t.trim.settleCount = min 2 (s.trim.settleCount + 1)
        ∧ (s.trim.settleCount = 0 → t.trim.pendingFault = s.trim.pendingFault)
        ∧ (1 ≤ s.trim.settleCount → t.trim.pendingFault = some .trimSettle ∧ Noticed .trimSettle b.ticket.id t))))
  ∧ ∀ (r : BitVec 64) (s : State) (b : Book), HandsChange s r 22 true → s.trim.held = .inside b →
    present s .trimmer = true →
    let target := fun a : Axis => match a with
      | .front => (b.ticket.trimWidth : Int)
      | .foot => b.ticket.footMargin
      | .head => b.ticket.footMargin + b.ticket.trimHeight
    let rests := fun a : Axis => (axisOf s.trim a).converged = true ∧ ∃ w e, (axisOf s.trim a).target = some w
      ∧ (axisOf s.trim a).error = some e ∧ -20 ≤ w + e - target a ∧ w + e - target a ≤ 20
    let takes := fun p : State → Prop => ∃ t, exec (.scanEnd r) s = .next t ∧ t.trim.guardPause = false ∧ t.line = s.line
      ∧ LineKept { s with scan := t.scan, trim := { s.trim with held := t.trim.held } } t ∧ p t
    (s.trim.state = .positioning →
      ((∃ a, ¬rests a) → takes fun t => t.trim.state = .settling ∧ t.trim.held = .inside b ∧ ∃ named : Axis → Option Int,
        (∀ a, (rests a → named a = none ∧ axisOf t.trim a = { axisOf s.trim a with sinceMove := false })
          ∧ (¬rests a → named a = some (target a) ∧ axisOf t.trim a = { axisOf s.trim a with
            target := some (target a), converged := false, window := none, settleTime := none, sinceMove := false }))
        ∧ (let k := ReqKind.setAxes (named .front) (named .foot) (named .head)
          Asked t.bus .trimmer k
          ∧ (s.bus.current ≠ none → t.trim.moveTime = none ∧ t.trim.settleTimer = .stopped)
          ∧ (s.bus.current = none → NothingWaits s.bus → SentNow s t .trimmer k ∧ t.trim.moveTime = some s.clock
            ∧ t.trim.settleTimer = .running s.clock)))
      ∧ ((∀ a, rests a) → takes fun t => t.trim.state = .clamping ∧ t.trim.settleTimer = .stopped
        ∧ t.trim.settleCount = 0 ∧ t.trim.held = .inside { b with settleTime := some 0 }
        ∧ Asked t.bus .trimmer (.step .clamp)))
    ∧ (s.trim.state = .settling →
      let all := ∀ a, (axisOf s.trim a).converged = true
      (all → takes fun t => t.trim.state = .clamping ∧ t.trim.settleTimer = .stopped ∧ t.trim.settleCount = 0
        ∧ Asked t.bus .trimmer (.step .clamp))
      ∧ (¬all → s.trim.settleTimer = .runOut → takes fun t => t.trim.state = .eject ∧ t.trim.dest = .reject
        ∧ t.trim.settleTimer = .stopped ∧ t.trim.settleCount = min 2 (s.trim.settleCount + 1)
        ∧ t.trim.held = .inside { b with reason := some (b.reason.getD .trim) }
        ∧ Asked t.bus .trimmer (.step (.eject .reject)))
      ∧ (¬all → s.trim.settleTimer ≠ .runOut → exec (.scanEnd r) s =
        .next { scanned r s with trim := { s.trim with guardPause := false } }))

/-- The cut cycle: each STEP's DONE sends the next or, with the guard open, holds it; the eject's DONE opens the
exit window, or ends a reject eject with the record in the done list. A step that fails outside EJECT rejects the
book and ejects it, in EJECT it faults the trimmer; a book that does not reach its exit in 500 ms is lost (R144 to
R149). At the closing of the trim guard the held step is begun (R148). A new restart mark of TRIMMER clears the
axes' flags and fails the step under way: outside EJECT the book is rejected, with the STEP EJECT in flight the
trimmer faults; in any other state nothing else follows (R150, R160). The model's own choices in it: an event whose
time has not come does nothing (log 2); a free bus is granted within the event (log 5); a scan's changes go to their
owners after its pass (log 21); the two bits the model adds to the trimmer (log 24); the 2 ms window in whole
milliseconds (log 39); the check value of a bus frame is free (log 45). -/
def Obligations.TrimmerRunsCutCycle : Prop :=
  (∀ (s : State) (k : StepKind) (q : Byte) (b : Book), s.trim.held = .inside b →
    let cutting := s.trim.state = .clamping ∨ s.trim.state = .frontCut ∨ s.trim.state = .hfCut
    let rejected := { b with reason := some (b.reason.getD .trim) }
    let written := fun o : BookOutcome => { b with
      outTime := some s.clock, outcome := some (if b.reason = none then o else .rejected) }
    let heldKept := fun t : State => LineKept { s with trim := { s.trim with held := t.trim.held } } t
    let fails := fun (c : Instr) =>
      (cutting → s.trim.guardPause = false → ∃ t, exec c s = .next t ∧ heldKept t ∧ t.line = s.line
        ∧ t.trim.state = .eject ∧ t.trim.dest = .reject ∧ t.trim.held = .inside rejected
        ∧ t.trim.pendingFault = some .trimmerFault ∧ Asked t.bus .trimmer (.step (.eject .reject))
        ∧ Noticed .trimmerFault b.ticket.id t)
      ∧ (s.trim.state = .eject → ∃ t, exec c s = .next t ∧ heldKept t ∧ t.line = s.line ∧ t.trim.state = .faulted
        ∧ t.trim.cause = some .trimmerFault ∧ t.trim.held = .inside rejected ∧ t.trim.pendingFault = none
        ∧ t.trim.dest = s.trim.dest ∧ Noticed .trimmerFault b.ticket.id t)
    (AnswersRequest s .trimmer (.step k) q →
      let next := fun (st : TrimState) (k' : StepKind) => ∃ t, exec (.stepAnswer q .done ⟨false, true⟩) s = .next t
        ∧ LineKept s t ∧ t.line = s.line ∧ SentNow s t .trimmer (.step k') ∧ t.trim.stepTimer = some s.clock
        ∧ t.trim.state = st
      (s.trim.state = .clamping → s.trim.guardPause = false → next .frontCut .front)
      ∧ (s.trim.state = .frontCut → s.trim.guardPause = false → next .hfCut .headFoot)
      ∧ (s.trim.state = .hfCut → s.trim.guardPause = false → next .eject (.eject s.trim.dest))
      ∧ (cutting → s.trim.guardPause = true → exec (.stepAnswer q .done ⟨false, true⟩) s = .next { heard .trimmer s with
        trim := { s.trim with stepTimer := none, stepHeld := true } })
      ∧ (s.trim.state = .eject → s.trim.dest ≠ .reject →
        (s.trim.exitConfirm ≠ .early → exec (.stepAnswer q .done ⟨false, true⟩) s = .next { heard .trimmer s with
          trim := { s.trim with held := .out b, stepTimer := none, exitConfirm := .window s.clock } })
        ∧ (s.trim.exitConfirm = .early → s.dlv.done.length < 32 →
          ∃ t, exec (.stepAnswer q .done ⟨false, true⟩) s = .next t ∧ t.trim.held = .none ∧ t.trim.state = .idle
            ∧ t.dlv.done = s.dlv.done ++ [written (if s.trim.dest = .good then .good else .sample)]))
      ∧ (s.trim.state = .eject → s.trim.dest = .reject →
        (s.dlv.done.length < 32 → ∃ t, exec (.stepAnswer q .done ⟨false, true⟩) s = .next t ∧ t.trim.held = .none
          ∧ t.dlv.done = s.dlv.done ++ [written .rejected]
          ∧ (s.trim.pendingFault = none → t.trim.state = .idle)
          ∧ (∀ c, s.trim.pendingFault = some c → t.trim.state = .faulted ∧ t.trim.cause = some c))
        ∧ (32 ≤ s.dlv.done.length → s.trim.pendingFault = none → exec (.stepAnswer q .done ⟨false, true⟩) s =
          .next { heard .trimmer s with
            trim := { s.trim with held := .out b, stepTimer := none }
            dlv := { s.dlv with waiters := s.dlv.waiters ++ [.trimmer] } }))
      ∧ fails (.stepAnswer q .failed ⟨false, true⟩))
    ∧ (s.pins.inReset = false →
      let out := (cutting ∨ s.trim.state = .eject) ∧ ∃ w, s.trim.stepTimer = some w ∧ 1500 ≤ (s.clock - w).toNat
      (¬out → exec .stepTimeout s = .next (clearOut s))
      ∧ (out → present s .trimmer = true → fails .stepTimeout
        ∧ ∃ t, exec .stepTimeout s = .next t ∧ (.abortTrimmer ∈ t.bus.trimQ ∨ BusContent.frame .abortTrimmer ∈ t.busOut)))
    ∧ (∀ r, HandsChange s r 22 true → present s .trimmer = true →
      let resumes := fun (st : TrimState) (k' : StepKind) => ∃ t, exec (.scanEnd r) s = .next t ∧ t.trim.state = st
        ∧ t.trim.guardPause = false ∧ t.trim.stepHeld = false ∧ t.trim.held = .inside b ∧ t.trim.dest = s.trim.dest
        ∧ Asked t.bus .trimmer (.step k') ∧ LineKept { s with scan := t.scan } t ∧ t.line = s.line
      (s.trim.stepHeld = true →
        (s.trim.state = .clamping → resumes .frontCut .front) ∧ (s.trim.state = .frontCut → resumes .hfCut .headFoot)
          ∧ (s.trim.state = .hfCut ∨ s.trim.state = .eject → resumes .eject (.eject s.trim.dest)))
      ∧ (s.trim.stepHeld = false → cutting ∨ s.trim.state = .eject → exec (.scanEnd r) s =
        .next { scanned r s with trim := { s.trim with guardPause := false } })))
  ∧ (∀ (s : State) (k : ReqKind) (q : Byte) (c : Instr), AnswersRequest s .trimmer k q →
    (nodeRec s .trimmer).ackPending = false →
    c = .nodeStatusAnswer .trimmer q ⟨true, true⟩ ∧ k = .nodeStatus ∨ (∃ a, c = .stepAnswer q a ⟨true, true⟩) ∧ (∃ x, k = .step x)
      ∨ (∃ a, c = .readAxesAnswer q a ⟨true, true⟩) ∧ k = .readAxes
      ∨ (∃ a, c = .setAxesAnswer q a ⟨true, true⟩) ∧ (∃ f o h, k = .setAxes f o h) →
    let lost := fun a : AxisRec => { a with converged := false, window := none }
    let cleared := { s.trim with front := lost s.trim.front, foot := lost s.trim.foot, head := lost s.trim.head }
    let working := s.trim.state = .settling ∨ s.trim.state = .clamping ∨ s.trim.state = .frontCut ∨ s.trim.state = .hfCut
    let ejecting := s.trim.state = .eject ∧ s.trim.stepHeld = false ∧ ∃ b, s.trim.held = .inside b
    ∃ t, exec c s = .next t ∧ LineKept { s with trim := { s.trim with held := t.trim.held } } t ∧ t.line = s.line
      ∧ (nodeRec t .trimmer).restarts = min 255 ((nodeRec s .trimmer).restarts + 1)
      ∧ (∀ a, (axisOf t.trim a).converged = false ∧ (axisOf t.trim a).window = none)
      ∧ (¬working → ¬ejecting → t.trim = cleared)
      ∧ ∀ b, s.trim.held = .inside b →
        (working → t.trim.state = .eject ∧ t.trim.dest = .reject ∧ t.trim.pendingFault = some .trimmerFault
          ∧ t.trim.held = .inside { b with reason := some (b.reason.getD .trim) } ∧ Noticed .trimmerFault b.ticket.id t
          ∧ (if s.trim.guardPause = true then t.trim.stepHeld = true
            else Asked t.bus .trimmer (.step (.eject .reject))))
        ∧ (ejecting → t.trim.state = .faulted ∧ t.trim.cause = some .trimmerFault ∧ t.trim.dest = s.trim.dest
          ∧ t.trim.held = .inside { b with reason := some (b.reason.getD .trim) } ∧ Noticed .trimmerFault b.ticket.id t))
  ∧ ∀ (s : State) (b : Book), s.pins.inReset = false → s.trim.held = .out b →
    let out := ∃ w, s.trim.exitConfirm = .window w ∧ 500 ≤ (s.clock - w).toNat
    let lost := { b with reason := some (b.reason.getD .fault) }
    (¬out → exec .exitWindowTimeout s = .next (clearOut s))
    ∧ (out → ∃ t, exec .exitWindowTimeout s = .next t ∧ LineKept { s with dlv := t.dlv, trim := t.trim } t
      ∧ LineFaulted s t .bookLost ∧ Noticed .bookLost b.ticket.id t ∧ t.trim.state = .faulted
      ∧ t.trim.cause = some .bookLost ∧ t.dlv.cooling = s.dlv.cooling ∧ t.dlv.loaded = s.dlv.loaded
      ∧ (s.dlv.done.length < 32 → t.trim.held = .none
        ∧ t.dlv.done = s.dlv.done ++ [{ lost with outTime := some s.clock, outcome := some .rejected }])
      ∧ (32 ≤ s.dlv.done.length → t.trim.held = .out lost ∧ t.dlv.done = s.dlv.done
        ∧ t.dlv.waiters = s.dlv.waiters ++ [.trimmer]))

/-- CLEAR (TRIMMER): its checks, and its effects with no book, with one inside and with one out. Both spellings of
the command are one (R120, R147, R148, R151). The model's own choices in it: the reply is ready within the event
(log 4); a free bus is granted within the event (log 5); CLEAR_LINE carries any CLEAR payload (log 17); the two bits
the model adds to the trimmer (log 24). -/
def Obligations.ClearTrimmerChecksAndEjects : Prop :=
  ∀ (g : Byte) (s : State), exec (.clearTrimmer g) s = exec (.clearLine g [1]) s
    ∧ (TakesRequest s → s.line.state ≠ .starting →
      let refused := fun code => exec (.clearTrimmer g) s = .next (respond 0x0D g code [] (begun s))
      let passes := s.trim.state = .faulted ∧ s.pins.estopActive = false ∧ trimGuardOpen s = false
      (¬passes → refused .wrongState)
      ∧ (passes → present s .trimmer = false → refused .nodes)
      ∧ (passes → present s .trimmer = true → ∃ t, exec (.clearTrimmer g) s = .next t ∧ Answered 0x0D g .ok [] t
        ∧ LineKept s t ∧ t.trim.cause = none ∧ t.trim.settleCount = 0 ∧ t.car.state = s.car.state
        ∧ t.line = { s.line with estopLatch := false, lamps := { s.line.lamps with trim := true } }
        ∧ (s.trim.held = .none → t.trim.state = .idle)
        ∧ (∀ b, s.trim.held = .out b → t.trim.state = .eject)
        ∧ (∀ b, s.trim.held = .inside b → t.trim.state = .eject ∧ t.trim.dest = .reject
          ∧ t.trim.exitConfirm = .none ∧ (s.trim.guardPause = true → t.trim.stepHeld = true)
          ∧ (s.trim.guardPause = false → t.trim.stepHeld = false ∧ Asked t.bus .trimmer (.step (.eject .reject))))))

/-! ## Invariants -/

/-- The part right after reset meets every invariant. The model's own choices in it: the stored image and the tables
before the load (log 7); the levels of the direct lines at reset (log 30). -/
def Obligations.InvariantsHoldAtReset : Prop :=
  Conserved State.reset ∧ IdsUnique State.reset ∧ Bounded State.reset ∧ LinesServed State.reset
    ∧ CausesMatch State.reset ∧ OutputsFollow State.reset ∧ MatrixSound State.reset

/-- Every step keeps the balance of books: the loaded count is the books on the line and the collected count (R135).
-/
def Obligations.BooksConservedByEveryStep : Prop :=
  ∀ s t : State, Conserved s → step s = .next t → Conserved t

/-- Every step keeps the ticket ids on the line unique and non-zero (R4, R6). -/
def Obligations.TicketIdsStayUnique : Prop :=
  ∀ s t : State, IdsUnique s → step s = .next t → IdsUnique t

/-- Every step keeps eleven counts within their bounds: queued tickets 64, done records 32, jobs 8, BUSY tags owed
8, diverts 3, cover mismatches 2, settle timeouts 2, overruns 2, misses 3, restarts 255, and a contact's readings 2
(R9, R47, R51, R65, R83, R123, R136, R152, R165, R176). No bound is claimed for the cooling queue, the room waiters
and the cover line, which other rules keep short only along the part's own runs. Every step also leaves nothing
waiting behind a free transmit line or a free bus (R162, R182). -/
def Obligations.BoundsAndLinesKept : Prop :=
  ∀ s t : State, step s = .next t → (Bounded s → Bounded t) ∧ (LinesServed s → LinesServed t)

/-- Every step keeps the causes with the FAULTED states, and the lamps, the enables and the pot target with the line
state (R75, R99, R118, R121, R136, R149). -/
def Obligations.CausesAndOutputsFollowStates : Prop :=
  ∀ s t : State, step s = .next t → (CausesMatch s → CausesMatch t) ∧ (OutputsFollow s → OutputsFollow t)

/-- Every step keeps the contact matrix free of a closed rectangle, and every UNCERTAIN contact OPEN (R167). -/
def Obligations.MatrixKeptSound : Prop :=
  ∀ s t : State, MatrixSound s → step s = .next t → MatrixSound t
end

