-- ==== Sys2Proof/Laws/State.lean ====
section
/-! SUPPORT. What each plain update of the state leaves in each field: true by definition, for `simp`. -/

namespace Sys2Proof.Machine

variable (s : State)

/-! ### `setClamp` -/

@[simp] theorem setClamp_clock (c : Fin 20) (k : Clamp) : (setClamp c k s).clock = s.clock := rfl
@[simp] theorem setClamp_tickets (c : Fin 20) (k : Clamp) : (setClamp c k s).tickets = s.tickets := rfl
@[simp] theorem setClamp_profiles (c : Fin 20) (k : Clamp) : (setClamp c k s).profiles = s.profiles := rfl
@[simp] theorem setClamp_settings (c : Fin 20) (k : Clamp) : (setClamp c k s).settings = s.settings := rfl
@[simp] theorem setClamp_glue (c : Fin 20) (k : Clamp) : (setClamp c k s).glue = s.glue := rfl
@[simp] theorem setClamp_cover (c : Fin 20) (k : Clamp) : (setClamp c k s).cover = s.cover := rfl
@[simp] theorem setClamp_line (c : Fin 20) (k : Clamp) : (setClamp c k s).line = s.line := rfl
@[simp] theorem setClamp_dlv (c : Fin 20) (k : Clamp) : (setClamp c k s).dlv = s.dlv := rfl
@[simp] theorem setClamp_trim (c : Fin 20) (k : Clamp) : (setClamp c k s).trim = s.trim := rfl
@[simp] theorem setClamp_bus (c : Fin 20) (k : Clamp) : (setClamp c k s).bus = s.bus := rfl
@[simp] theorem setClamp_scan (c : Fin 20) (k : Clamp) : (setClamp c k s).scan = s.scan := rfl
@[simp] theorem setClamp_pins (c : Fin 20) (k : Clamp) : (setClamp c k s).pins = s.pins := rfl
@[simp] theorem setClamp_host (c : Fin 20) (k : Clamp) : (setClamp c k s).host = s.host := rfl
@[simp] theorem setClamp_store (c : Fin 20) (k : Clamp) : (setClamp c k s).store = s.store := rfl
@[simp] theorem setClamp_busOut (c : Fin 20) (k : Clamp) : (setClamp c k s).busOut = s.busOut := rfl
@[simp] theorem setClamp_pending (c : Fin 20) (k : Clamp) : (setClamp c k s).pending = s.pending := rfl
@[simp] theorem setClamp_car_phase (c : Fin 20) (k : Clamp) :
    (setClamp c k s).car.phase = s.car.phase := rfl
@[simp] theorem setClamp_car_phaseKnown (c : Fin 20) (k : Clamp) :
    (setClamp c k s).car.phaseKnown = s.car.phaseKnown := rfl
@[simp] theorem setClamp_car_state (c : Fin 20) (k : Clamp) :
    (setClamp c k s).car.state = s.car.state := rfl
@[simp] theorem setClamp_car_worked (c : Fin 20) (k : Clamp) :
    (setClamp c k s).car.worked = s.car.worked := rfl
@[simp] theorem setClamp_car_jobs (c : Fin 20) (k : Clamp) :
    (setClamp c k s).car.jobs = s.car.jobs := rfl
@[simp] theorem setClamp_car_dwell (c : Fin 20) (k : Clamp) :
    (setClamp c k s).car.dwell = s.car.dwell := rfl
@[simp] theorem setClamp_car_tag (c : Fin 20) (k : Clamp) :
    (setClamp c k s).car.tag = s.car.tag := rfl
@[simp] theorem setClamp_car_overruns (c : Fin 20) (k : Clamp) :
    (setClamp c k s).car.overruns = s.car.overruns := rfl
@[simp] theorem setClamp_car_diverts (c : Fin 20) (k : Clamp) :
    (setClamp c k s).car.diverts = s.car.diverts := rfl
@[simp] theorem setClamp_car_moveTimer (c : Fin 20) (k : Clamp) :
    (setClamp c k s).car.moveTimer = s.car.moveTimer := rfl
@[simp] theorem setClamp_car_clamps (c : Fin 20) (k : Clamp) :
    (setClamp c k s).car.clamps = s.car.clamps.set c.val k := rfl

/-! ### `setBook` -/

@[simp] theorem setBook_clock (c : Fin 20) (b : Option Book) : (setBook c b s).clock = s.clock := rfl
@[simp] theorem setBook_tickets (c : Fin 20) (b : Option Book) : (setBook c b s).tickets = s.tickets := rfl
@[simp] theorem setBook_profiles (c : Fin 20) (b : Option Book) : (setBook c b s).profiles = s.profiles := rfl
@[simp] theorem setBook_settings (c : Fin 20) (b : Option Book) : (setBook c b s).settings = s.settings := rfl
@[simp] theorem setBook_glue (c : Fin 20) (b : Option Book) : (setBook c b s).glue = s.glue := rfl
@[simp] theorem setBook_cover (c : Fin 20) (b : Option Book) : (setBook c b s).cover = s.cover := rfl
@[simp] theorem setBook_line (c : Fin 20) (b : Option Book) : (setBook c b s).line = s.line := rfl
@[simp] theorem setBook_dlv (c : Fin 20) (b : Option Book) : (setBook c b s).dlv = s.dlv := rfl
@[simp] theorem setBook_trim (c : Fin 20) (b : Option Book) : (setBook c b s).trim = s.trim := rfl
@[simp] theorem setBook_bus (c : Fin 20) (b : Option Book) : (setBook c b s).bus = s.bus := rfl
@[simp] theorem setBook_scan (c : Fin 20) (b : Option Book) : (setBook c b s).scan = s.scan := rfl
@[simp] theorem setBook_pins (c : Fin 20) (b : Option Book) : (setBook c b s).pins = s.pins := rfl
@[simp] theorem setBook_host (c : Fin 20) (b : Option Book) : (setBook c b s).host = s.host := rfl
@[simp] theorem setBook_store (c : Fin 20) (b : Option Book) : (setBook c b s).store = s.store := rfl
@[simp] theorem setBook_busOut (c : Fin 20) (b : Option Book) : (setBook c b s).busOut = s.busOut := rfl
@[simp] theorem setBook_pending (c : Fin 20) (b : Option Book) : (setBook c b s).pending = s.pending := rfl
@[simp] theorem setBook_car_phase (c : Fin 20) (b : Option Book) :
    (setBook c b s).car.phase = s.car.phase := rfl
@[simp] theorem setBook_car_phaseKnown (c : Fin 20) (b : Option Book) :
    (setBook c b s).car.phaseKnown = s.car.phaseKnown := rfl
@[simp] theorem setBook_car_state (c : Fin 20) (b : Option Book) :
    (setBook c b s).car.state = s.car.state := rfl
@[simp] theorem setBook_car_worked (c : Fin 20) (b : Option Book) :
    (setBook c b s).car.worked = s.car.worked := rfl
@[simp] theorem setBook_car_jobs (c : Fin 20) (b : Option Book) :
    (setBook c b s).car.jobs = s.car.jobs := rfl
@[simp] theorem setBook_car_dwell (c : Fin 20) (b : Option Book) :
    (setBook c b s).car.dwell = s.car.dwell := rfl
@[simp] theorem setBook_car_tag (c : Fin 20) (b : Option Book) :
    (setBook c b s).car.tag = s.car.tag := rfl
@[simp] theorem setBook_car_overruns (c : Fin 20) (b : Option Book) :
    (setBook c b s).car.overruns = s.car.overruns := rfl
@[simp] theorem setBook_car_diverts (c : Fin 20) (b : Option Book) :
    (setBook c b s).car.diverts = s.car.diverts := rfl
@[simp] theorem setBook_car_moveTimer (c : Fin 20) (b : Option Book) :
    (setBook c b s).car.moveTimer = s.car.moveTimer := rfl
@[simp] theorem setBook_car_clamps (c : Fin 20) (b : Option Book) :
    (setBook c b s).car.clamps = s.car.clamps.set c.val { clampRec s c with book := b } := rfl

/-! ### `updateJob` -/

@[simp] theorem updateJob_clock (st : Station) (f : Job → Job) : (updateJob st f s).clock = s.clock := rfl
@[simp] theorem updateJob_tickets (st : Station) (f : Job → Job) : (updateJob st f s).tickets = s.tickets := rfl
@[simp] theorem updateJob_profiles (st : Station) (f : Job → Job) : (updateJob st f s).profiles = s.profiles := rfl
@[simp] theorem updateJob_settings (st : Station) (f : Job → Job) : (updateJob st f s).settings = s.settings := rfl
@[simp] theorem updateJob_glue (st : Station) (f : Job → Job) : (updateJob st f s).glue = s.glue := rfl
@[simp] theorem updateJob_cover (st : Station) (f : Job → Job) : (updateJob st f s).cover = s.cover := rfl
@[simp] theorem updateJob_line (st : Station) (f : Job → Job) : (updateJob st f s).line = s.line := rfl
@[simp] theorem updateJob_dlv (st : Station) (f : Job → Job) : (updateJob st f s).dlv = s.dlv := rfl
@[simp] theorem updateJob_trim (st : Station) (f : Job → Job) : (updateJob st f s).trim = s.trim := rfl
@[simp] theorem updateJob_bus (st : Station) (f : Job → Job) : (updateJob st f s).bus = s.bus := rfl
@[simp] theorem updateJob_scan (st : Station) (f : Job → Job) : (updateJob st f s).scan = s.scan := rfl
@[simp] theorem updateJob_pins (st : Station) (f : Job → Job) : (updateJob st f s).pins = s.pins := rfl
@[simp] theorem updateJob_host (st : Station) (f : Job → Job) : (updateJob st f s).host = s.host := rfl
@[simp] theorem updateJob_store (st : Station) (f : Job → Job) : (updateJob st f s).store = s.store := rfl
@[simp] theorem updateJob_busOut (st : Station) (f : Job → Job) : (updateJob st f s).busOut = s.busOut := rfl
@[simp] theorem updateJob_pending (st : Station) (f : Job → Job) : (updateJob st f s).pending = s.pending := rfl
@[simp] theorem updateJob_car_phase (st : Station) (f : Job → Job) :
    (updateJob st f s).car.phase = s.car.phase := rfl
@[simp] theorem updateJob_car_phaseKnown (st : Station) (f : Job → Job) :
    (updateJob st f s).car.phaseKnown = s.car.phaseKnown := rfl
@[simp] theorem updateJob_car_state (st : Station) (f : Job → Job) :
    (updateJob st f s).car.state = s.car.state := rfl
@[simp] theorem updateJob_car_worked (st : Station) (f : Job → Job) :
    (updateJob st f s).car.worked = s.car.worked := rfl
@[simp] theorem updateJob_car_clamps (st : Station) (f : Job → Job) :
    (updateJob st f s).car.clamps = s.car.clamps := rfl
@[simp] theorem updateJob_car_dwell (st : Station) (f : Job → Job) :
    (updateJob st f s).car.dwell = s.car.dwell := rfl
@[simp] theorem updateJob_car_tag (st : Station) (f : Job → Job) :
    (updateJob st f s).car.tag = s.car.tag := rfl
@[simp] theorem updateJob_car_overruns (st : Station) (f : Job → Job) :
    (updateJob st f s).car.overruns = s.car.overruns := rfl
@[simp] theorem updateJob_car_diverts (st : Station) (f : Job → Job) :
    (updateJob st f s).car.diverts = s.car.diverts := rfl
@[simp] theorem updateJob_car_moveTimer (st : Station) (f : Job → Job) :
    (updateJob st f s).car.moveTimer = s.car.moveTimer := rfl
@[simp] theorem updateJob_car_jobs (st : Station) (f : Job → Job) :
    (updateJob st f s).car.jobs = s.car.jobs.map fun j => if j.item.station == st then f j else j := rfl

/-! ### `endJob` -/

@[simp] theorem endJob_clock (st : Station) (e : JobStatus) : (endJob st e s).clock = s.clock := rfl
@[simp] theorem endJob_tickets (st : Station) (e : JobStatus) : (endJob st e s).tickets = s.tickets := rfl
@[simp] theorem endJob_profiles (st : Station) (e : JobStatus) : (endJob st e s).profiles = s.profiles := rfl
@[simp] theorem endJob_settings (st : Station) (e : JobStatus) : (endJob st e s).settings = s.settings := rfl
@[simp] theorem endJob_glue (st : Station) (e : JobStatus) : (endJob st e s).glue = s.glue := rfl
@[simp] theorem endJob_cover (st : Station) (e : JobStatus) : (endJob st e s).cover = s.cover := rfl
@[simp] theorem endJob_line (st : Station) (e : JobStatus) : (endJob st e s).line = s.line := rfl
@[simp] theorem endJob_dlv (st : Station) (e : JobStatus) : (endJob st e s).dlv = s.dlv := rfl
@[simp] theorem endJob_trim (st : Station) (e : JobStatus) : (endJob st e s).trim = s.trim := rfl
@[simp] theorem endJob_bus (st : Station) (e : JobStatus) : (endJob st e s).bus = s.bus := rfl
@[simp] theorem endJob_scan (st : Station) (e : JobStatus) : (endJob st e s).scan = s.scan := rfl
@[simp] theorem endJob_pins (st : Station) (e : JobStatus) : (endJob st e s).pins = s.pins := rfl
@[simp] theorem endJob_host (st : Station) (e : JobStatus) : (endJob st e s).host = s.host := rfl
@[simp] theorem endJob_store (st : Station) (e : JobStatus) : (endJob st e s).store = s.store := rfl
@[simp] theorem endJob_busOut (st : Station) (e : JobStatus) : (endJob st e s).busOut = s.busOut := rfl
@[simp] theorem endJob_pending (st : Station) (e : JobStatus) : (endJob st e s).pending = s.pending := rfl
@[simp] theorem endJob_car_phase (st : Station) (e : JobStatus) :
    (endJob st e s).car.phase = s.car.phase := rfl
@[simp] theorem endJob_car_phaseKnown (st : Station) (e : JobStatus) :
    (endJob st e s).car.phaseKnown = s.car.phaseKnown := rfl
@[simp] theorem endJob_car_state (st : Station) (e : JobStatus) :
    (endJob st e s).car.state = s.car.state := rfl
@[simp] theorem endJob_car_worked (st : Station) (e : JobStatus) :
    (endJob st e s).car.worked = s.car.worked := rfl
@[simp] theorem endJob_car_clamps (st : Station) (e : JobStatus) :
    (endJob st e s).car.clamps = s.car.clamps := rfl
@[simp] theorem endJob_car_dwell (st : Station) (e : JobStatus) :
    (endJob st e s).car.dwell = s.car.dwell := rfl
@[simp] theorem endJob_car_tag (st : Station) (e : JobStatus) :
    (endJob st e s).car.tag = s.car.tag := rfl
@[simp] theorem endJob_car_overruns (st : Station) (e : JobStatus) :
    (endJob st e s).car.overruns = s.car.overruns := rfl
@[simp] theorem endJob_car_diverts (st : Station) (e : JobStatus) :
    (endJob st e s).car.diverts = s.car.diverts := rfl
@[simp] theorem endJob_car_moveTimer (st : Station) (e : JobStatus) :
    (endJob st e s).car.moveTimer = s.car.moveTimer := rfl

/-! ### `setOverrun` -/

@[simp] theorem setOverrun_clock (st : Station) (n : Nat) : (setOverrun st n s).clock = s.clock := rfl
@[simp] theorem setOverrun_tickets (st : Station) (n : Nat) : (setOverrun st n s).tickets = s.tickets := rfl
@[simp] theorem setOverrun_profiles (st : Station) (n : Nat) : (setOverrun st n s).profiles = s.profiles := rfl
@[simp] theorem setOverrun_settings (st : Station) (n : Nat) : (setOverrun st n s).settings = s.settings := rfl
@[simp] theorem setOverrun_glue (st : Station) (n : Nat) : (setOverrun st n s).glue = s.glue := rfl
@[simp] theorem setOverrun_cover (st : Station) (n : Nat) : (setOverrun st n s).cover = s.cover := rfl
@[simp] theorem setOverrun_line (st : Station) (n : Nat) : (setOverrun st n s).line = s.line := rfl
@[simp] theorem setOverrun_dlv (st : Station) (n : Nat) : (setOverrun st n s).dlv = s.dlv := rfl
@[simp] theorem setOverrun_trim (st : Station) (n : Nat) : (setOverrun st n s).trim = s.trim := rfl
@[simp] theorem setOverrun_bus (st : Station) (n : Nat) : (setOverrun st n s).bus = s.bus := rfl
@[simp] theorem setOverrun_scan (st : Station) (n : Nat) : (setOverrun st n s).scan = s.scan := rfl
@[simp] theorem setOverrun_pins (st : Station) (n : Nat) : (setOverrun st n s).pins = s.pins := rfl
@[simp] theorem setOverrun_host (st : Station) (n : Nat) : (setOverrun st n s).host = s.host := rfl
@[simp] theorem setOverrun_store (st : Station) (n : Nat) : (setOverrun st n s).store = s.store := rfl
@[simp] theorem setOverrun_busOut (st : Station) (n : Nat) : (setOverrun st n s).busOut = s.busOut := rfl
@[simp] theorem setOverrun_pending (st : Station) (n : Nat) : (setOverrun st n s).pending = s.pending := rfl
@[simp] theorem setOverrun_car_phase (st : Station) (n : Nat) :
    (setOverrun st n s).car.phase = s.car.phase := rfl
@[simp] theorem setOverrun_car_phaseKnown (st : Station) (n : Nat) :
    (setOverrun st n s).car.phaseKnown = s.car.phaseKnown := rfl
@[simp] theorem setOverrun_car_state (st : Station) (n : Nat) :
    (setOverrun st n s).car.state = s.car.state := rfl
@[simp] theorem setOverrun_car_worked (st : Station) (n : Nat) :
    (setOverrun st n s).car.worked = s.car.worked := rfl
@[simp] theorem setOverrun_car_clamps (st : Station) (n : Nat) :
    (setOverrun st n s).car.clamps = s.car.clamps := rfl
@[simp] theorem setOverrun_car_jobs (st : Station) (n : Nat) :
    (setOverrun st n s).car.jobs = s.car.jobs := rfl
@[simp] theorem setOverrun_car_dwell (st : Station) (n : Nat) :
    (setOverrun st n s).car.dwell = s.car.dwell := rfl
@[simp] theorem setOverrun_car_tag (st : Station) (n : Nat) :
    (setOverrun st n s).car.tag = s.car.tag := rfl
@[simp] theorem setOverrun_car_diverts (st : Station) (n : Nat) :
    (setOverrun st n s).car.diverts = s.car.diverts := rfl
@[simp] theorem setOverrun_car_moveTimer (st : Station) (n : Nat) :
    (setOverrun st n s).car.moveTimer = s.car.moveTimer := rfl
@[simp] theorem setOverrun_car_overruns (st : Station) (n : Nat) :
    (setOverrun st n s).car.overruns = s.car.overruns.set (stationIdx st).val n := rfl

/-! ### `dropReservation` -/

@[simp] theorem dropReservation_clock : (dropReservation s).clock = s.clock := rfl
@[simp] theorem dropReservation_profiles : (dropReservation s).profiles = s.profiles := rfl
@[simp] theorem dropReservation_settings : (dropReservation s).settings = s.settings := rfl
@[simp] theorem dropReservation_car : (dropReservation s).car = s.car := rfl
@[simp] theorem dropReservation_glue : (dropReservation s).glue = s.glue := rfl
@[simp] theorem dropReservation_cover : (dropReservation s).cover = s.cover := rfl
@[simp] theorem dropReservation_line : (dropReservation s).line = s.line := rfl
@[simp] theorem dropReservation_dlv : (dropReservation s).dlv = s.dlv := rfl
@[simp] theorem dropReservation_trim : (dropReservation s).trim = s.trim := rfl
@[simp] theorem dropReservation_bus : (dropReservation s).bus = s.bus := rfl
@[simp] theorem dropReservation_scan : (dropReservation s).scan = s.scan := rfl
@[simp] theorem dropReservation_pins : (dropReservation s).pins = s.pins := rfl
@[simp] theorem dropReservation_host : (dropReservation s).host = s.host := rfl
@[simp] theorem dropReservation_store : (dropReservation s).store = s.store := rfl
@[simp] theorem dropReservation_busOut : (dropReservation s).busOut = s.busOut := rfl
@[simp] theorem dropReservation_pending : (dropReservation s).pending = s.pending := rfl
@[simp] theorem dropReservation_tickets_queue :
    (dropReservation s).tickets.queue = s.tickets.queue := rfl
@[simp] theorem dropReservation_tickets_reserved :
    (dropReservation s).tickets.reserved = false := rfl

/-! ### `removeEntry` -/

@[simp] theorem removeEntry_clock : (removeEntry s).clock = s.clock := rfl
@[simp] theorem removeEntry_tickets : (removeEntry s).tickets = s.tickets := rfl
@[simp] theorem removeEntry_profiles : (removeEntry s).profiles = s.profiles := rfl
@[simp] theorem removeEntry_settings : (removeEntry s).settings = s.settings := rfl
@[simp] theorem removeEntry_car : (removeEntry s).car = s.car := rfl
@[simp] theorem removeEntry_glue : (removeEntry s).glue = s.glue := rfl
@[simp] theorem removeEntry_line : (removeEntry s).line = s.line := rfl
@[simp] theorem removeEntry_dlv : (removeEntry s).dlv = s.dlv := rfl
@[simp] theorem removeEntry_trim : (removeEntry s).trim = s.trim := rfl
@[simp] theorem removeEntry_bus : (removeEntry s).bus = s.bus := rfl
@[simp] theorem removeEntry_scan : (removeEntry s).scan = s.scan := rfl
@[simp] theorem removeEntry_pins : (removeEntry s).pins = s.pins := rfl
@[simp] theorem removeEntry_host : (removeEntry s).host = s.host := rfl
@[simp] theorem removeEntry_store : (removeEntry s).store = s.store := rfl
@[simp] theorem removeEntry_busOut : (removeEntry s).busOut = s.busOut := rfl
@[simp] theorem removeEntry_pending : (removeEntry s).pending = s.pending := rfl
@[simp] theorem removeEntry_cover_entries :
    (removeEntry s).cover.entries = s.cover.entries.drop 1 := rfl
@[simp] theorem removeEntry_cover_mismatch :
    (removeEntry s).cover.mismatch = s.cover.mismatch := rfl
@[simp] theorem removeEntry_cover_drawMark :
    (removeEntry s).cover.drawMark = s.cover.drawMark := rfl

/-! ### `setNode` -/

@[simp] theorem setNode_clock (n : NodeId) (r : NodeRec) : (setNode n r s).clock = s.clock := rfl
@[simp] theorem setNode_tickets (n : NodeId) (r : NodeRec) : (setNode n r s).tickets = s.tickets := rfl
@[simp] theorem setNode_profiles (n : NodeId) (r : NodeRec) : (setNode n r s).profiles = s.profiles := rfl
@[simp] theorem setNode_settings (n : NodeId) (r : NodeRec) : (setNode n r s).settings = s.settings := rfl
@[simp] theorem setNode_car (n : NodeId) (r : NodeRec) : (setNode n r s).car = s.car := rfl
@[simp] theorem setNode_glue (n : NodeId) (r : NodeRec) : (setNode n r s).glue = s.glue := rfl
@[simp] theorem setNode_cover (n : NodeId) (r : NodeRec) : (setNode n r s).cover = s.cover := rfl
@[simp] theorem setNode_line (n : NodeId) (r : NodeRec) : (setNode n r s).line = s.line := rfl
@[simp] theorem setNode_dlv (n : NodeId) (r : NodeRec) : (setNode n r s).dlv = s.dlv := rfl
@[simp] theorem setNode_trim (n : NodeId) (r : NodeRec) : (setNode n r s).trim = s.trim := rfl
@[simp] theorem setNode_scan (n : NodeId) (r : NodeRec) : (setNode n r s).scan = s.scan := rfl
@[simp] theorem setNode_pins (n : NodeId) (r : NodeRec) : (setNode n r s).pins = s.pins := rfl
@[simp] theorem setNode_host (n : NodeId) (r : NodeRec) : (setNode n r s).host = s.host := rfl
@[simp] theorem setNode_store (n : NodeId) (r : NodeRec) : (setNode n r s).store = s.store := rfl
@[simp] theorem setNode_busOut (n : NodeId) (r : NodeRec) : (setNode n r s).busOut = s.busOut := rfl
@[simp] theorem setNode_pending (n : NodeId) (r : NodeRec) : (setNode n r s).pending = s.pending := rfl
@[simp] theorem setNode_bus_nodes (n : NodeId) (r : NodeRec) :
    (setNode n r s).bus.nodes = s.bus.nodes.set (nodeIdx n).val r := rfl
@[simp] theorem setNode_bus_carQ (n : NodeId) (r : NodeRec) :
    (setNode n r s).bus.carQ = s.bus.carQ := rfl
@[simp] theorem setNode_bus_trimQ (n : NodeId) (r : NodeRec) :
    (setNode n r s).bus.trimQ = s.bus.trimQ := rfl
@[simp] theorem setNode_bus_coolQ (n : NodeId) (r : NodeRec) :
    (setNode n r s).bus.coolQ = s.bus.coolQ := rfl
@[simp] theorem setNode_bus_probeQ (n : NodeId) (r : NodeRec) :
    (setNode n r s).bus.probeQ = s.bus.probeQ := rfl
@[simp] theorem setNode_bus_lastServed (n : NodeId) (r : NodeRec) :
    (setNode n r s).bus.lastServed = s.bus.lastServed := rfl
@[simp] theorem setNode_bus_busyWait (n : NodeId) (r : NodeRec) :
    (setNode n r s).bus.busyWait = s.bus.busyWait := rfl
@[simp] theorem setNode_bus_current (n : NodeId) (r : NodeRec) :
    (setNode n r s).bus.current = s.bus.current := rfl
@[simp] theorem setNode_bus_pollOn (n : NodeId) (r : NodeRec) :
    (setNode n r s).bus.pollOn = s.bus.pollOn := rfl
@[simp] theorem setNode_bus_fast (n : NodeId) (r : NodeRec) :
    (setNode n r s).bus.fast = s.bus.fast := rfl
@[simp] theorem setNode_bus_pollBase (n : NodeId) (r : NodeRec) :
    (setNode n r s).bus.pollBase = s.bus.pollBase := rfl
@[simp] theorem setNode_bus_lastPoll (n : NodeId) (r : NodeRec) :
    (setNode n r s).bus.lastPoll = s.bus.lastPoll := rfl
@[simp] theorem setNode_bus_probeBase (n : NodeId) (r : NodeRec) :
    (setNode n r s).bus.probeBase = s.bus.probeBase := rfl
@[simp] theorem setNode_bus_probesLeft (n : NodeId) (r : NodeRec) :
    (setNode n r s).bus.probesLeft = s.bus.probesLeft := rfl

/-! ### `setWorked` -/

@[simp] theorem setWorked_clock (w : Bool) : (setWorked w s).clock = s.clock := rfl
@[simp] theorem setWorked_tickets (w : Bool) : (setWorked w s).tickets = s.tickets := rfl
@[simp] theorem setWorked_profiles (w : Bool) : (setWorked w s).profiles = s.profiles := rfl
@[simp] theorem setWorked_settings (w : Bool) : (setWorked w s).settings = s.settings := rfl
@[simp] theorem setWorked_glue (w : Bool) : (setWorked w s).glue = s.glue := rfl
@[simp] theorem setWorked_cover (w : Bool) : (setWorked w s).cover = s.cover := rfl
@[simp] theorem setWorked_line (w : Bool) : (setWorked w s).line = s.line := rfl
@[simp] theorem setWorked_dlv (w : Bool) : (setWorked w s).dlv = s.dlv := rfl
@[simp] theorem setWorked_trim (w : Bool) : (setWorked w s).trim = s.trim := rfl
@[simp] theorem setWorked_bus (w : Bool) : (setWorked w s).bus = s.bus := rfl
@[simp] theorem setWorked_scan (w : Bool) : (setWorked w s).scan = s.scan := rfl
@[simp] theorem setWorked_pins (w : Bool) : (setWorked w s).pins = s.pins := rfl
@[simp] theorem setWorked_host (w : Bool) : (setWorked w s).host = s.host := rfl
@[simp] theorem setWorked_store (w : Bool) : (setWorked w s).store = s.store := rfl
@[simp] theorem setWorked_busOut (w : Bool) : (setWorked w s).busOut = s.busOut := rfl
@[simp] theorem setWorked_pending (w : Bool) : (setWorked w s).pending = s.pending := rfl
@[simp] theorem setWorked_car_worked (w : Bool) :
    (setWorked w s).car.worked = w := rfl
@[simp] theorem setWorked_car_phase (w : Bool) :
    (setWorked w s).car.phase = s.car.phase := rfl
@[simp] theorem setWorked_car_phaseKnown (w : Bool) :
    (setWorked w s).car.phaseKnown = s.car.phaseKnown := rfl
@[simp] theorem setWorked_car_state (w : Bool) :
    (setWorked w s).car.state = s.car.state := rfl
@[simp] theorem setWorked_car_clamps (w : Bool) :
    (setWorked w s).car.clamps = s.car.clamps := rfl
@[simp] theorem setWorked_car_jobs (w : Bool) :
    (setWorked w s).car.jobs = s.car.jobs := rfl
@[simp] theorem setWorked_car_dwell (w : Bool) :
    (setWorked w s).car.dwell = s.car.dwell := rfl
@[simp] theorem setWorked_car_tag (w : Bool) :
    (setWorked w s).car.tag = s.car.tag := rfl
@[simp] theorem setWorked_car_overruns (w : Bool) :
    (setWorked w s).car.overruns = s.car.overruns := rfl
@[simp] theorem setWorked_car_diverts (w : Bool) :
    (setWorked w s).car.diverts = s.car.diverts := rfl
@[simp] theorem setWorked_car_moveTimer (w : Bool) :
    (setWorked w s).car.moveTimer = s.car.moveTimer := rfl

/-! ### `setCarState` -/

@[simp] theorem setCarState_clock (c : CarState) : (setCarState c s).clock = s.clock := rfl
@[simp] theorem setCarState_tickets (c : CarState) : (setCarState c s).tickets = s.tickets := rfl
@[simp] theorem setCarState_profiles (c : CarState) : (setCarState c s).profiles = s.profiles := rfl
@[simp] theorem setCarState_settings (c : CarState) : (setCarState c s).settings = s.settings := rfl
@[simp] theorem setCarState_glue (c : CarState) : (setCarState c s).glue = s.glue := rfl
@[simp] theorem setCarState_cover (c : CarState) : (setCarState c s).cover = s.cover := rfl
@[simp] theorem setCarState_line (c : CarState) : (setCarState c s).line = s.line := rfl
@[simp] theorem setCarState_dlv (c : CarState) : (setCarState c s).dlv = s.dlv := rfl
@[simp] theorem setCarState_trim (c : CarState) : (setCarState c s).trim = s.trim := rfl
@[simp] theorem setCarState_bus (c : CarState) : (setCarState c s).bus = s.bus := rfl
@[simp] theorem setCarState_scan (c : CarState) : (setCarState c s).scan = s.scan := rfl
@[simp] theorem setCarState_pins (c : CarState) : (setCarState c s).pins = s.pins := rfl
@[simp] theorem setCarState_host (c : CarState) : (setCarState c s).host = s.host := rfl
@[simp] theorem setCarState_store (c : CarState) : (setCarState c s).store = s.store := rfl
@[simp] theorem setCarState_busOut (c : CarState) : (setCarState c s).busOut = s.busOut := rfl
@[simp] theorem setCarState_pending (c : CarState) : (setCarState c s).pending = s.pending := rfl
@[simp] theorem setCarState_car_state (c : CarState) :
    (setCarState c s).car.state = c := rfl
@[simp] theorem setCarState_car_phase (c : CarState) :
    (setCarState c s).car.phase = s.car.phase := rfl
@[simp] theorem setCarState_car_phaseKnown (c : CarState) :
    (setCarState c s).car.phaseKnown = s.car.phaseKnown := rfl
@[simp] theorem setCarState_car_worked (c : CarState) :
    (setCarState c s).car.worked = s.car.worked := rfl
@[simp] theorem setCarState_car_clamps (c : CarState) :
    (setCarState c s).car.clamps = s.car.clamps := rfl
@[simp] theorem setCarState_car_jobs (c : CarState) :
    (setCarState c s).car.jobs = s.car.jobs := rfl
@[simp] theorem setCarState_car_dwell (c : CarState) :
    (setCarState c s).car.dwell = s.car.dwell := rfl
@[simp] theorem setCarState_car_tag (c : CarState) :
    (setCarState c s).car.tag = s.car.tag := rfl
@[simp] theorem setCarState_car_overruns (c : CarState) :
    (setCarState c s).car.overruns = s.car.overruns := rfl
@[simp] theorem setCarState_car_diverts (c : CarState) :
    (setCarState c s).car.diverts = s.car.diverts := rfl
@[simp] theorem setCarState_car_moveTimer (c : CarState) :
    (setCarState c s).car.moveTimer = s.car.moveTimer := rfl

/-! ### `unhome` -/

@[simp] theorem unhome_clock : (unhome s).clock = s.clock := rfl
@[simp] theorem unhome_tickets : (unhome s).tickets = s.tickets := rfl
@[simp] theorem unhome_profiles : (unhome s).profiles = s.profiles := rfl
@[simp] theorem unhome_settings : (unhome s).settings = s.settings := rfl
@[simp] theorem unhome_glue : (unhome s).glue = s.glue := rfl
@[simp] theorem unhome_cover : (unhome s).cover = s.cover := rfl
@[simp] theorem unhome_line : (unhome s).line = s.line := rfl
@[simp] theorem unhome_dlv : (unhome s).dlv = s.dlv := rfl
@[simp] theorem unhome_trim : (unhome s).trim = s.trim := rfl
@[simp] theorem unhome_bus : (unhome s).bus = s.bus := rfl
@[simp] theorem unhome_scan : (unhome s).scan = s.scan := rfl
@[simp] theorem unhome_pins : (unhome s).pins = s.pins := rfl
@[simp] theorem unhome_host : (unhome s).host = s.host := rfl
@[simp] theorem unhome_store : (unhome s).store = s.store := rfl
@[simp] theorem unhome_busOut : (unhome s).busOut = s.busOut := rfl
@[simp] theorem unhome_pending : (unhome s).pending = s.pending := rfl
@[simp] theorem unhome_car_state :
    (unhome s).car.state = .unhomed := rfl
@[simp] theorem unhome_car_phaseKnown :
    (unhome s).car.phaseKnown = false := rfl
@[simp] theorem unhome_car_moveTimer :
    (unhome s).car.moveTimer = none := rfl
@[simp] theorem unhome_car_phase :
    (unhome s).car.phase = s.car.phase := rfl
@[simp] theorem unhome_car_worked :
    (unhome s).car.worked = s.car.worked := rfl
@[simp] theorem unhome_car_clamps :
    (unhome s).car.clamps = s.car.clamps := rfl
@[simp] theorem unhome_car_jobs :
    (unhome s).car.jobs = s.car.jobs := rfl
@[simp] theorem unhome_car_dwell :
    (unhome s).car.dwell = s.car.dwell := rfl
@[simp] theorem unhome_car_tag :
    (unhome s).car.tag = s.car.tag := rfl
@[simp] theorem unhome_car_overruns :
    (unhome s).car.overruns = s.car.overruns := rfl
@[simp] theorem unhome_car_diverts :
    (unhome s).car.diverts = s.car.diverts := rfl

/-! ### `startStandby` -/

@[simp] theorem startStandby_clock : (startStandby s).clock = s.clock := rfl
@[simp] theorem startStandby_tickets : (startStandby s).tickets = s.tickets := rfl
@[simp] theorem startStandby_profiles : (startStandby s).profiles = s.profiles := rfl
@[simp] theorem startStandby_settings : (startStandby s).settings = s.settings := rfl
@[simp] theorem startStandby_car : (startStandby s).car = s.car := rfl
@[simp] theorem startStandby_glue : (startStandby s).glue = s.glue := rfl
@[simp] theorem startStandby_cover : (startStandby s).cover = s.cover := rfl
@[simp] theorem startStandby_dlv : (startStandby s).dlv = s.dlv := rfl
@[simp] theorem startStandby_trim : (startStandby s).trim = s.trim := rfl
@[simp] theorem startStandby_bus : (startStandby s).bus = s.bus := rfl
@[simp] theorem startStandby_scan : (startStandby s).scan = s.scan := rfl
@[simp] theorem startStandby_pins : (startStandby s).pins = s.pins := rfl
@[simp] theorem startStandby_host : (startStandby s).host = s.host := rfl
@[simp] theorem startStandby_store : (startStandby s).store = s.store := rfl
@[simp] theorem startStandby_busOut : (startStandby s).busOut = s.busOut := rfl
@[simp] theorem startStandby_pending : (startStandby s).pending = s.pending := rfl
@[simp] theorem startStandby_line_state :
    (startStandby s).line.state = s.line.state := rfl
@[simp] theorem startStandby_line_cause :
    (startStandby s).line.cause = s.line.cause := rfl
@[simp] theorem startStandby_line_holds :
    (startStandby s).line.holds = s.line.holds := rfl
@[simp] theorem startStandby_line_halt :
    (startStandby s).line.halt = s.line.halt := rfl
@[simp] theorem startStandby_line_park :
    (startStandby s).line.park = s.line.park := rfl
@[simp] theorem startStandby_line_returnState :
    (startStandby s).line.returnState = s.line.returnState := rfl
@[simp] theorem startStandby_line_lamps :
    (startStandby s).line.lamps = s.line.lamps := rfl
@[simp] theorem startStandby_line_estopLatch :
    (startStandby s).line.estopLatch = s.line.estopLatch := rfl
@[simp] theorem startStandby_line_standbyTimer :
    (startStandby s).line.standbyTimer = some (s.clock, s.settings.standbyDelay * 1000) := rfl

/-! ### `stopStandby` -/

@[simp] theorem stopStandby_clock : (stopStandby s).clock = s.clock := rfl
@[simp] theorem stopStandby_tickets : (stopStandby s).tickets = s.tickets := rfl
@[simp] theorem stopStandby_profiles : (stopStandby s).profiles = s.profiles := rfl
@[simp] theorem stopStandby_settings : (stopStandby s).settings = s.settings := rfl
@[simp] theorem stopStandby_car : (stopStandby s).car = s.car := rfl
@[simp] theorem stopStandby_glue : (stopStandby s).glue = s.glue := rfl
@[simp] theorem stopStandby_cover : (stopStandby s).cover = s.cover := rfl
@[simp] theorem stopStandby_dlv : (stopStandby s).dlv = s.dlv := rfl
@[simp] theorem stopStandby_trim : (stopStandby s).trim = s.trim := rfl
@[simp] theorem stopStandby_bus : (stopStandby s).bus = s.bus := rfl
@[simp] theorem stopStandby_scan : (stopStandby s).scan = s.scan := rfl
@[simp] theorem stopStandby_pins : (stopStandby s).pins = s.pins := rfl
@[simp] theorem stopStandby_host : (stopStandby s).host = s.host := rfl
@[simp] theorem stopStandby_store : (stopStandby s).store = s.store := rfl
@[simp] theorem stopStandby_busOut : (stopStandby s).busOut = s.busOut := rfl
@[simp] theorem stopStandby_pending : (stopStandby s).pending = s.pending := rfl
@[simp] theorem stopStandby_line_state :
    (stopStandby s).line.state = s.line.state := rfl
@[simp] theorem stopStandby_line_cause :
    (stopStandby s).line.cause = s.line.cause := rfl
@[simp] theorem stopStandby_line_holds :
    (stopStandby s).line.holds = s.line.holds := rfl
@[simp] theorem stopStandby_line_halt :
    (stopStandby s).line.halt = s.line.halt := rfl
@[simp] theorem stopStandby_line_park :
    (stopStandby s).line.park = s.line.park := rfl
@[simp] theorem stopStandby_line_returnState :
    (stopStandby s).line.returnState = s.line.returnState := rfl
@[simp] theorem stopStandby_line_lamps :
    (stopStandby s).line.lamps = s.line.lamps := rfl
@[simp] theorem stopStandby_line_estopLatch :
    (stopStandby s).line.estopLatch = s.line.estopLatch := rfl
@[simp] theorem stopStandby_line_standbyTimer :
    (stopStandby s).line.standbyTimer = none := rfl

/-! ### `clearFlags` -/

@[simp] theorem clearFlags_clock : (clearFlags s).clock = s.clock := rfl
@[simp] theorem clearFlags_tickets : (clearFlags s).tickets = s.tickets := rfl
@[simp] theorem clearFlags_profiles : (clearFlags s).profiles = s.profiles := rfl
@[simp] theorem clearFlags_settings : (clearFlags s).settings = s.settings := rfl
@[simp] theorem clearFlags_car : (clearFlags s).car = s.car := rfl
@[simp] theorem clearFlags_glue : (clearFlags s).glue = s.glue := rfl
@[simp] theorem clearFlags_cover : (clearFlags s).cover = s.cover := rfl
@[simp] theorem clearFlags_line : (clearFlags s).line = s.line := rfl
@[simp] theorem clearFlags_dlv : (clearFlags s).dlv = s.dlv := rfl
@[simp] theorem clearFlags_bus : (clearFlags s).bus = s.bus := rfl
@[simp] theorem clearFlags_scan : (clearFlags s).scan = s.scan := rfl
@[simp] theorem clearFlags_pins : (clearFlags s).pins = s.pins := rfl
@[simp] theorem clearFlags_host : (clearFlags s).host = s.host := rfl
@[simp] theorem clearFlags_store : (clearFlags s).store = s.store := rfl
@[simp] theorem clearFlags_busOut : (clearFlags s).busOut = s.busOut := rfl
@[simp] theorem clearFlags_pending : (clearFlags s).pending = s.pending := rfl
@[simp] theorem clearFlags_trim_state :
    (clearFlags s).trim.state = s.trim.state := rfl
@[simp] theorem clearFlags_trim_held :
    (clearFlags s).trim.held = s.trim.held := rfl
@[simp] theorem clearFlags_trim_cause :
    (clearFlags s).trim.cause = s.trim.cause := rfl
@[simp] theorem clearFlags_trim_pendingFault :
    (clearFlags s).trim.pendingFault = s.trim.pendingFault := rfl
@[simp] theorem clearFlags_trim_dest :
    (clearFlags s).trim.dest = s.trim.dest := rfl
@[simp] theorem clearFlags_trim_settleCount :
    (clearFlags s).trim.settleCount = s.trim.settleCount := rfl
@[simp] theorem clearFlags_trim_guardPause :
    (clearFlags s).trim.guardPause = s.trim.guardPause := rfl
@[simp] theorem clearFlags_trim_exitConfirm :
    (clearFlags s).trim.exitConfirm = s.trim.exitConfirm := rfl
@[simp] theorem clearFlags_trim_stepHeld :
    (clearFlags s).trim.stepHeld = s.trim.stepHeld := rfl

/-! ### `trimIdle` -/

@[simp] theorem trimIdle_clock : (trimIdle s).clock = s.clock := rfl
@[simp] theorem trimIdle_tickets : (trimIdle s).tickets = s.tickets := rfl
@[simp] theorem trimIdle_profiles : (trimIdle s).profiles = s.profiles := rfl
@[simp] theorem trimIdle_settings : (trimIdle s).settings = s.settings := rfl
@[simp] theorem trimIdle_car : (trimIdle s).car = s.car := rfl
@[simp] theorem trimIdle_glue : (trimIdle s).glue = s.glue := rfl
@[simp] theorem trimIdle_cover : (trimIdle s).cover = s.cover := rfl
@[simp] theorem trimIdle_line : (trimIdle s).line = s.line := rfl
@[simp] theorem trimIdle_dlv : (trimIdle s).dlv = s.dlv := rfl
@[simp] theorem trimIdle_bus : (trimIdle s).bus = s.bus := rfl
@[simp] theorem trimIdle_scan : (trimIdle s).scan = s.scan := rfl
@[simp] theorem trimIdle_pins : (trimIdle s).pins = s.pins := rfl
@[simp] theorem trimIdle_host : (trimIdle s).host = s.host := rfl
@[simp] theorem trimIdle_store : (trimIdle s).store = s.store := rfl
@[simp] theorem trimIdle_busOut : (trimIdle s).busOut = s.busOut := rfl
@[simp] theorem trimIdle_pending : (trimIdle s).pending = s.pending := rfl
@[simp] theorem trimIdle_trim_state :
    (trimIdle s).trim.state = .idle := rfl
@[simp] theorem trimIdle_trim_held :
    (trimIdle s).trim.held = s.trim.held := rfl
@[simp] theorem trimIdle_trim_cause :
    (trimIdle s).trim.cause = s.trim.cause := rfl
@[simp] theorem trimIdle_trim_pendingFault :
    (trimIdle s).trim.pendingFault = s.trim.pendingFault := rfl
@[simp] theorem trimIdle_trim_dest :
    (trimIdle s).trim.dest = s.trim.dest := rfl
@[simp] theorem trimIdle_trim_guardPause :
    (trimIdle s).trim.guardPause = s.trim.guardPause := rfl
@[simp] theorem trimIdle_trim_exitConfirm :
    (trimIdle s).trim.exitConfirm = s.trim.exitConfirm := rfl

/-! ### `modifyHeld` -/

@[simp] theorem modifyHeld_clock (f : Book → Book) : (modifyHeld f s).clock = s.clock := rfl
@[simp] theorem modifyHeld_tickets (f : Book → Book) : (modifyHeld f s).tickets = s.tickets := rfl
@[simp] theorem modifyHeld_profiles (f : Book → Book) : (modifyHeld f s).profiles = s.profiles := rfl
@[simp] theorem modifyHeld_settings (f : Book → Book) : (modifyHeld f s).settings = s.settings := rfl
@[simp] theorem modifyHeld_car (f : Book → Book) : (modifyHeld f s).car = s.car := rfl
@[simp] theorem modifyHeld_glue (f : Book → Book) : (modifyHeld f s).glue = s.glue := rfl
@[simp] theorem modifyHeld_cover (f : Book → Book) : (modifyHeld f s).cover = s.cover := rfl
@[simp] theorem modifyHeld_line (f : Book → Book) : (modifyHeld f s).line = s.line := rfl
@[simp] theorem modifyHeld_dlv (f : Book → Book) : (modifyHeld f s).dlv = s.dlv := rfl
@[simp] theorem modifyHeld_bus (f : Book → Book) : (modifyHeld f s).bus = s.bus := rfl
@[simp] theorem modifyHeld_scan (f : Book → Book) : (modifyHeld f s).scan = s.scan := rfl
@[simp] theorem modifyHeld_pins (f : Book → Book) : (modifyHeld f s).pins = s.pins := rfl
@[simp] theorem modifyHeld_host (f : Book → Book) : (modifyHeld f s).host = s.host := rfl
@[simp] theorem modifyHeld_store (f : Book → Book) : (modifyHeld f s).store = s.store := rfl
@[simp] theorem modifyHeld_busOut (f : Book → Book) : (modifyHeld f s).busOut = s.busOut := rfl
@[simp] theorem modifyHeld_pending (f : Book → Book) : (modifyHeld f s).pending = s.pending := rfl
@[simp] theorem modifyHeld_trim_held (f : Book → Book) :
    (modifyHeld f s).trim.held = s.trim.held.map f := rfl
@[simp] theorem modifyHeld_trim_state (f : Book → Book) :
    (modifyHeld f s).trim.state = s.trim.state := rfl
@[simp] theorem modifyHeld_trim_cause (f : Book → Book) :
    (modifyHeld f s).trim.cause = s.trim.cause := rfl
@[simp] theorem modifyHeld_trim_pendingFault (f : Book → Book) :
    (modifyHeld f s).trim.pendingFault = s.trim.pendingFault := rfl
@[simp] theorem modifyHeld_trim_dest (f : Book → Book) :
    (modifyHeld f s).trim.dest = s.trim.dest := rfl
@[simp] theorem modifyHeld_trim_settleCount (f : Book → Book) :
    (modifyHeld f s).trim.settleCount = s.trim.settleCount := rfl
@[simp] theorem modifyHeld_trim_guardPause (f : Book → Book) :
    (modifyHeld f s).trim.guardPause = s.trim.guardPause := rfl
@[simp] theorem modifyHeld_trim_exitConfirm (f : Book → Book) :
    (modifyHeld f s).trim.exitConfirm = s.trim.exitConfirm := rfl
@[simp] theorem modifyHeld_trim_stepHeld (f : Book → Book) :
    (modifyHeld f s).trim.stepHeld = s.trim.stepHeld := rfl

/-! ### `modifyHead` -/

@[simp] theorem modifyHead_clock (f : Book → Book) : (modifyHead f s).clock = s.clock := rfl
@[simp] theorem modifyHead_tickets (f : Book → Book) : (modifyHead f s).tickets = s.tickets := rfl
@[simp] theorem modifyHead_profiles (f : Book → Book) : (modifyHead f s).profiles = s.profiles := rfl
@[simp] theorem modifyHead_settings (f : Book → Book) : (modifyHead f s).settings = s.settings := rfl
@[simp] theorem modifyHead_car (f : Book → Book) : (modifyHead f s).car = s.car := rfl
@[simp] theorem modifyHead_glue (f : Book → Book) : (modifyHead f s).glue = s.glue := rfl
@[simp] theorem modifyHead_cover (f : Book → Book) : (modifyHead f s).cover = s.cover := rfl
@[simp] theorem modifyHead_line (f : Book → Book) : (modifyHead f s).line = s.line := rfl
@[simp] theorem modifyHead_trim (f : Book → Book) : (modifyHead f s).trim = s.trim := rfl
@[simp] theorem modifyHead_bus (f : Book → Book) : (modifyHead f s).bus = s.bus := rfl
@[simp] theorem modifyHead_scan (f : Book → Book) : (modifyHead f s).scan = s.scan := rfl
@[simp] theorem modifyHead_pins (f : Book → Book) : (modifyHead f s).pins = s.pins := rfl
@[simp] theorem modifyHead_host (f : Book → Book) : (modifyHead f s).host = s.host := rfl
@[simp] theorem modifyHead_store (f : Book → Book) : (modifyHead f s).store = s.store := rfl
@[simp] theorem modifyHead_busOut (f : Book → Book) : (modifyHead f s).busOut = s.busOut := rfl
@[simp] theorem modifyHead_pending (f : Book → Book) : (modifyHead f s).pending = s.pending := rfl
@[simp] theorem modifyHead_dlv_headTimer (f : Book → Book) :
    (modifyHead f s).dlv.headTimer = s.dlv.headTimer := rfl
@[simp] theorem modifyHead_dlv_gate (f : Book → Book) :
    (modifyHead f s).dlv.gate = s.dlv.gate := rfl
@[simp] theorem modifyHead_dlv_gateConfirm (f : Book → Book) :
    (modifyHead f s).dlv.gateConfirm = s.dlv.gateConfirm := rfl
@[simp] theorem modifyHead_dlv_gateStop (f : Book → Book) :
    (modifyHead f s).dlv.gateStop = s.dlv.gateStop := rfl
@[simp] theorem modifyHead_dlv_dropWatch (f : Book → Book) :
    (modifyHead f s).dlv.dropWatch = s.dlv.dropWatch := rfl
@[simp] theorem modifyHead_dlv_done (f : Book → Book) :
    (modifyHead f s).dlv.done = s.dlv.done := rfl
@[simp] theorem modifyHead_dlv_waiters (f : Book → Book) :
    (modifyHead f s).dlv.waiters = s.dlv.waiters := rfl
@[simp] theorem modifyHead_dlv_loaded (f : Book → Book) :
    (modifyHead f s).dlv.loaded = s.dlv.loaded := rfl
@[simp] theorem modifyHead_dlv_collected (f : Book → Book) :
    (modifyHead f s).dlv.collected = s.dlv.collected := rfl

/-! ### `trimFaultState` -/

@[simp] theorem trimFaultState_clock (c : TrimCause) : (trimFaultState c s).clock = s.clock := rfl
@[simp] theorem trimFaultState_tickets (c : TrimCause) : (trimFaultState c s).tickets = s.tickets := rfl
@[simp] theorem trimFaultState_profiles (c : TrimCause) : (trimFaultState c s).profiles = s.profiles := rfl
@[simp] theorem trimFaultState_settings (c : TrimCause) : (trimFaultState c s).settings = s.settings := rfl
@[simp] theorem trimFaultState_car (c : TrimCause) : (trimFaultState c s).car = s.car := rfl
@[simp] theorem trimFaultState_glue (c : TrimCause) : (trimFaultState c s).glue = s.glue := rfl
@[simp] theorem trimFaultState_cover (c : TrimCause) : (trimFaultState c s).cover = s.cover := rfl
@[simp] theorem trimFaultState_line (c : TrimCause) : (trimFaultState c s).line = s.line := rfl
@[simp] theorem trimFaultState_dlv (c : TrimCause) : (trimFaultState c s).dlv = s.dlv := rfl
@[simp] theorem trimFaultState_bus (c : TrimCause) : (trimFaultState c s).bus = s.bus := rfl
@[simp] theorem trimFaultState_scan (c : TrimCause) : (trimFaultState c s).scan = s.scan := rfl
@[simp] theorem trimFaultState_pins (c : TrimCause) : (trimFaultState c s).pins = s.pins := rfl
@[simp] theorem trimFaultState_host (c : TrimCause) : (trimFaultState c s).host = s.host := rfl
@[simp] theorem trimFaultState_store (c : TrimCause) : (trimFaultState c s).store = s.store := rfl
@[simp] theorem trimFaultState_busOut (c : TrimCause) : (trimFaultState c s).busOut = s.busOut := rfl
@[simp] theorem trimFaultState_pending (c : TrimCause) : (trimFaultState c s).pending = s.pending := rfl
@[simp] theorem trimFaultState_trim_state (c : TrimCause) :
    (trimFaultState c s).trim.state = .faulted := rfl
@[simp] theorem trimFaultState_trim_cause (c : TrimCause) :
    (trimFaultState c s).trim.cause = some c := rfl
@[simp] theorem trimFaultState_trim_pendingFault (c : TrimCause) :
    (trimFaultState c s).trim.pendingFault = none := rfl
@[simp] theorem trimFaultState_trim_stepTimer (c : TrimCause) :
    (trimFaultState c s).trim.stepTimer = none := rfl
@[simp] theorem trimFaultState_trim_stepHeld (c : TrimCause) :
    (trimFaultState c s).trim.stepHeld = false := rfl
@[simp] theorem trimFaultState_trim_dest (c : TrimCause) :
    (trimFaultState c s).trim.dest = s.trim.dest := rfl
@[simp] theorem trimFaultState_trim_guardPause (c : TrimCause) :
    (trimFaultState c s).trim.guardPause = s.trim.guardPause := rfl
@[simp] theorem trimFaultState_trim_settleCount (c : TrimCause) :
    (trimFaultState c s).trim.settleCount = s.trim.settleCount := rfl

/-! ### `appendTicket` -/

@[simp] theorem appendTicket_clock (t : Ticket) : (appendTicket t s).clock = s.clock := rfl
@[simp] theorem appendTicket_profiles (t : Ticket) : (appendTicket t s).profiles = s.profiles := rfl
@[simp] theorem appendTicket_settings (t : Ticket) : (appendTicket t s).settings = s.settings := rfl
@[simp] theorem appendTicket_car (t : Ticket) : (appendTicket t s).car = s.car := rfl
@[simp] theorem appendTicket_glue (t : Ticket) : (appendTicket t s).glue = s.glue := rfl
@[simp] theorem appendTicket_cover (t : Ticket) : (appendTicket t s).cover = s.cover := rfl
@[simp] theorem appendTicket_line (t : Ticket) : (appendTicket t s).line = s.line := rfl
@[simp] theorem appendTicket_dlv (t : Ticket) : (appendTicket t s).dlv = s.dlv := rfl
@[simp] theorem appendTicket_trim (t : Ticket) : (appendTicket t s).trim = s.trim := rfl
@[simp] theorem appendTicket_bus (t : Ticket) : (appendTicket t s).bus = s.bus := rfl
@[simp] theorem appendTicket_scan (t : Ticket) : (appendTicket t s).scan = s.scan := rfl
@[simp] theorem appendTicket_pins (t : Ticket) : (appendTicket t s).pins = s.pins := rfl
@[simp] theorem appendTicket_host (t : Ticket) : (appendTicket t s).host = s.host := rfl
@[simp] theorem appendTicket_store (t : Ticket) : (appendTicket t s).store = s.store := rfl
@[simp] theorem appendTicket_busOut (t : Ticket) : (appendTicket t s).busOut = s.busOut := rfl
@[simp] theorem appendTicket_pending (t : Ticket) : (appendTicket t s).pending = s.pending := rfl
@[simp] theorem appendTicket_tickets_queue (t : Ticket) :
    (appendTicket t s).tickets.queue = s.tickets.queue ++ [t] := rfl
@[simp] theorem appendTicket_tickets_reserved (t : Ticket) :
    (appendTicket t s).tickets.reserved = s.tickets.reserved := rfl

/-! ### `begun` -/

@[simp] theorem begun_clock : (begun s).clock = s.clock := rfl
@[simp] theorem begun_tickets : (begun s).tickets = s.tickets := rfl
@[simp] theorem begun_profiles : (begun s).profiles = s.profiles := rfl
@[simp] theorem begun_settings : (begun s).settings = s.settings := rfl
@[simp] theorem begun_car : (begun s).car = s.car := rfl
@[simp] theorem begun_glue : (begun s).glue = s.glue := rfl
@[simp] theorem begun_cover : (begun s).cover = s.cover := rfl
@[simp] theorem begun_line : (begun s).line = s.line := rfl
@[simp] theorem begun_dlv : (begun s).dlv = s.dlv := rfl
@[simp] theorem begun_trim : (begun s).trim = s.trim := rfl
@[simp] theorem begun_bus : (begun s).bus = s.bus := rfl
@[simp] theorem begun_scan : (begun s).scan = s.scan := rfl
@[simp] theorem begun_pins : (begun s).pins = s.pins := rfl
@[simp] theorem begun_store : (begun s).store = s.store := rfl
@[simp] theorem begun_pending : (begun s).pending = s.pending := rfl
@[simp] theorem begun_busOut :
    (begun s).busOut = [] := rfl
@[simp] theorem begun_host_rx :
    (begun s).host.rx = [] := rfl
@[simp] theorem begun_host_request :
    (begun s).host.request = s.host.request := rfl
@[simp] theorem begun_host_owed :
    (begun s).host.owed = s.host.owed := rfl
@[simp] theorem begun_host_resetTaken :
    (begun s).host.resetTaken = s.host.resetTaken := rfl
@[simp] theorem begun_host_tx :
    (begun s).host.tx = s.host.tx := rfl
@[simp] theorem begun_host_notice :
    (begun s).host.notice = s.host.notice := rfl
@[simp] theorem begun_host_stateRep :
    (begun s).host.stateRep = s.host.stateRep := rfl
@[simp] theorem begun_host_doneReady :
    (begun s).host.doneReady = s.host.doneReady := rfl
@[simp] theorem begun_host_ticketsLow :
    (begun s).host.ticketsLow = s.host.ticketsLow := rfl

/-! ### `clearOut` -/

@[simp] theorem clearOut_clock : (clearOut s).clock = s.clock := rfl
@[simp] theorem clearOut_tickets : (clearOut s).tickets = s.tickets := rfl
@[simp] theorem clearOut_profiles : (clearOut s).profiles = s.profiles := rfl
@[simp] theorem clearOut_settings : (clearOut s).settings = s.settings := rfl
@[simp] theorem clearOut_car : (clearOut s).car = s.car := rfl
@[simp] theorem clearOut_glue : (clearOut s).glue = s.glue := rfl
@[simp] theorem clearOut_cover : (clearOut s).cover = s.cover := rfl
@[simp] theorem clearOut_line : (clearOut s).line = s.line := rfl
@[simp] theorem clearOut_dlv : (clearOut s).dlv = s.dlv := rfl
@[simp] theorem clearOut_trim : (clearOut s).trim = s.trim := rfl
@[simp] theorem clearOut_bus : (clearOut s).bus = s.bus := rfl
@[simp] theorem clearOut_scan : (clearOut s).scan = s.scan := rfl
@[simp] theorem clearOut_pins : (clearOut s).pins = s.pins := rfl
@[simp] theorem clearOut_host : (clearOut s).host = s.host := rfl
@[simp] theorem clearOut_store : (clearOut s).store = s.store := rfl
@[simp] theorem clearOut_pending : (clearOut s).pending = s.pending := rfl
@[simp] theorem clearOut_busOut :
    (clearOut s).busOut = [] := rfl

/-! ### `clearRx` -/

@[simp] theorem clearRx_clock : (clearRx s).clock = s.clock := rfl
@[simp] theorem clearRx_tickets : (clearRx s).tickets = s.tickets := rfl
@[simp] theorem clearRx_profiles : (clearRx s).profiles = s.profiles := rfl
@[simp] theorem clearRx_settings : (clearRx s).settings = s.settings := rfl
@[simp] theorem clearRx_car : (clearRx s).car = s.car := rfl
@[simp] theorem clearRx_glue : (clearRx s).glue = s.glue := rfl
@[simp] theorem clearRx_cover : (clearRx s).cover = s.cover := rfl
@[simp] theorem clearRx_line : (clearRx s).line = s.line := rfl
@[simp] theorem clearRx_dlv : (clearRx s).dlv = s.dlv := rfl
@[simp] theorem clearRx_trim : (clearRx s).trim = s.trim := rfl
@[simp] theorem clearRx_bus : (clearRx s).bus = s.bus := rfl
@[simp] theorem clearRx_scan : (clearRx s).scan = s.scan := rfl
@[simp] theorem clearRx_pins : (clearRx s).pins = s.pins := rfl
@[simp] theorem clearRx_store : (clearRx s).store = s.store := rfl
@[simp] theorem clearRx_busOut : (clearRx s).busOut = s.busOut := rfl
@[simp] theorem clearRx_pending : (clearRx s).pending = s.pending := rfl
@[simp] theorem clearRx_host_rx :
    (clearRx s).host.rx = [] := rfl
@[simp] theorem clearRx_host_request :
    (clearRx s).host.request = s.host.request := rfl
@[simp] theorem clearRx_host_owed :
    (clearRx s).host.owed = s.host.owed := rfl
@[simp] theorem clearRx_host_resetTaken :
    (clearRx s).host.resetTaken = s.host.resetTaken := rfl
@[simp] theorem clearRx_host_tx :
    (clearRx s).host.tx = s.host.tx := rfl
@[simp] theorem clearRx_host_notice :
    (clearRx s).host.notice = s.host.notice := rfl
@[simp] theorem clearRx_host_stateRep :
    (clearRx s).host.stateRep = s.host.stateRep := rfl
@[simp] theorem clearRx_host_doneReady :
    (clearRx s).host.doneReady = s.host.doneReady := rfl
@[simp] theorem clearRx_host_ticketsLow :
    (clearRx s).host.ticketsLow = s.host.ticketsLow := rfl

/-! ### `giveUp` -/

@[simp] theorem giveUp_clock (p : Request → Bool) : (giveUp p s).clock = s.clock := rfl
@[simp] theorem giveUp_tickets (p : Request → Bool) : (giveUp p s).tickets = s.tickets := rfl
@[simp] theorem giveUp_profiles (p : Request → Bool) : (giveUp p s).profiles = s.profiles := rfl
@[simp] theorem giveUp_settings (p : Request → Bool) : (giveUp p s).settings = s.settings := rfl
@[simp] theorem giveUp_car (p : Request → Bool) : (giveUp p s).car = s.car := rfl
@[simp] theorem giveUp_glue (p : Request → Bool) : (giveUp p s).glue = s.glue := rfl
@[simp] theorem giveUp_cover (p : Request → Bool) : (giveUp p s).cover = s.cover := rfl
@[simp] theorem giveUp_line (p : Request → Bool) : (giveUp p s).line = s.line := rfl
@[simp] theorem giveUp_dlv (p : Request → Bool) : (giveUp p s).dlv = s.dlv := rfl
@[simp] theorem giveUp_trim (p : Request → Bool) : (giveUp p s).trim = s.trim := rfl
@[simp] theorem giveUp_scan (p : Request → Bool) : (giveUp p s).scan = s.scan := rfl
@[simp] theorem giveUp_pins (p : Request → Bool) : (giveUp p s).pins = s.pins := rfl
@[simp] theorem giveUp_host (p : Request → Bool) : (giveUp p s).host = s.host := rfl
@[simp] theorem giveUp_store (p : Request → Bool) : (giveUp p s).store = s.store := rfl
@[simp] theorem giveUp_busOut (p : Request → Bool) : (giveUp p s).busOut = s.busOut := rfl
@[simp] theorem giveUp_pending (p : Request → Bool) : (giveUp p s).pending = s.pending := rfl
@[simp] theorem giveUp_bus_nodes (p : Request → Bool) :
    (giveUp p s).bus.nodes = s.bus.nodes := rfl
@[simp] theorem giveUp_bus_lastServed (p : Request → Bool) :
    (giveUp p s).bus.lastServed = s.bus.lastServed := rfl
@[simp] theorem giveUp_bus_pollOn (p : Request → Bool) :
    (giveUp p s).bus.pollOn = s.bus.pollOn := rfl
@[simp] theorem giveUp_bus_fast (p : Request → Bool) :
    (giveUp p s).bus.fast = s.bus.fast := rfl
@[simp] theorem giveUp_bus_pollBase (p : Request → Bool) :
    (giveUp p s).bus.pollBase = s.bus.pollBase := rfl
@[simp] theorem giveUp_bus_lastPoll (p : Request → Bool) :
    (giveUp p s).bus.lastPoll = s.bus.lastPoll := rfl
@[simp] theorem giveUp_bus_probeBase (p : Request → Bool) :
    (giveUp p s).bus.probeBase = s.bus.probeBase := rfl
@[simp] theorem giveUp_bus_probesLeft (p : Request → Bool) :
    (giveUp p s).bus.probesLeft = s.bus.probesLeft := rfl

end Sys2Proof.Machine
end

