-- ==== Sys2Proof/Laws/Bus.lean ====
section
/-! SUPPORT. The transmit line and the station bus: what each shared operation can do, said once. -/

namespace Sys2Proof.Machine

/-! ## The transmit line -/

/-- The transmit line's work changes the host link only. -/
theorem txPump_host (s : State) : ∃ h, txPump s = { s with host := h } := by
  unfold txPump
  split
  · exact ⟨_, rfl⟩
  · exact ⟨s.host, rfl⟩

theorem raiseNotice_host (n : Notice) (x : BitVec 32) (s : State) :
    ∃ h, raiseNotice n x s = { s with host := h } :=
  txPump_host { s with host := { s.host with notice := some (n, x) } }

theorem raiseState_host (l : LineState) (s : State) : ∃ h, raiseState l s = { s with host := h } :=
  txPump_host { s with host := { s.host with stateRep := some l } }

theorem raiseDoneReady_host (n : Nat) (s : State) : ∃ h, raiseDoneReady n s = { s with host := h } :=
  txPump_host { s with host := { s.host with doneReady := some n } }

theorem raiseTicketsLow_host (n : Nat) (s : State) : ∃ h, raiseTicketsLow n s = { s with host := h } :=
  txPump_host { s with host := { s.host with ticketsLow := some n } }

theorem respond_host (k t : Byte) (c : Result) (d : List Byte) (s : State) :
    ∃ h, respond k t c d s = { s with host := h } :=
  txPump_host { s with host := { s.host with request := some ⟨k, t, some (leBytes 1 c.code ++ d)⟩ } }

theorem owe_host (k t : Byte) (r : Result) (s : State) : ∃ h, owe k t r s = { s with host := h } :=
  txPump_host { s with host := { s.host with owed := s.host.owed ++ [⟨k, t, r⟩] } }

theorem oweBusy_host (k t : Byte) (s : State) : ∃ h, oweBusy k t s = { s with host := h } := by
  unfold oweBusy
  split
  · exact owe_host _ _ _ s
  · exact ⟨s.host, rfl⟩

theorem afterRemoval_host (n : Nat) (s : State) : ∃ h, afterRemoval n s = { s with host := h } := by
  unfold afterRemoval
  simp only
  split
  · exact raiseTicketsLow_host _ s
  · exact ⟨s.host, rfl⟩

/-- With a frame on the line nothing is chosen. -/
theorem txPump_busy (s : State) (f : HostFrame) (h : s.host.tx = some f) : txPump s = s := by
  simp [txPump, h]

/-- A reply is on the line or ready to go there. -/
theorem respond_answered (k t : Byte) (c : Result) (d : List Byte) (s : State) :
    Answered k t c d (respond k t c d s) := by
  unfold Answered respond
  cases h : s.host.tx with
  | none => left; simp [txPump, h, nextFrame, replyBytes]
  | some f => right; simp [txPump, h, replyBytes]

/-- A raised notice is on the line or in its latch. -/
theorem raiseNotice_noticed (n : Notice) (x : BitVec 32) (s : State) (h : s.host.tx ≠ none) :
    Noticed n x (raiseNotice n x s) := by
  left
  cases e : s.host.tx with
  | none => exact absurd e h
  | some f => simp [raiseNotice, txPump, e]

/-! ## Received frames (R153) -/

@[simp] theorem received_true (f : State → State) (s : State) : received true f s = f s := rfl
@[simp] theorem received_false (f : State → State) (s : State) : received false f s = s := rfl

/-! ## Sent frames (R153) -/

@[simp] theorem frame_content (c : BusContent) : c.frame.content = c := rfl
@[simp] theorem frame_address (c : BusContent) : c.frame.address = c.address := rfl
@[simp] theorem frame_check (c : BusContent) : c.frame.check = Config.busCheck c.address c := rfl

/-- A frame says what it carries. -/
theorem frame_inj {a b : BusContent} : a.frame = b.frame ↔ a = b :=
  ⟨fun h => congrArg BusFrame.content h, fun h => h ▸ rfl⟩

/-! ## What the bus keeps -/

/-- A job as the bus leaves it: the same item and release mark, and the same status unless it waited to be
sent. -/
def JobSent (a b : Job) : Prop :=
  b.item = a.item ∧ b.releaseDone = a.releaseDone ∧ b.ended = a.ended ∧ (a.status ≠ .built → b = a)

/-- What sending frames leaves alone: everything but the bus and its output, the jobs that wait to be sent,
the draw mark, and the limits that start at a first sending. -/
structure BusWork (s t : State) : Prop where
  clock    : t.clock = s.clock
  tickets  : t.tickets = s.tickets
  profiles : t.profiles = s.profiles
  settings : t.settings = s.settings
  glue     : t.glue = s.glue
  line     : t.line = s.line
  dlv      : t.dlv = s.dlv
  scan     : t.scan = s.scan
  pins     : t.pins = s.pins
  host     : t.host = s.host
  store    : t.store = s.store
  pending  : t.pending = s.pending
  entries  : t.cover.entries = s.cover.entries
  mismatch : t.cover.mismatch = s.cover.mismatch
  car      : ∃ jobs m, t.car = { s.car with jobs := jobs, moveTimer := m } ∧ List.Forall₂ JobSent s.car.jobs jobs
  trim     : ∃ m x y, t.trim = { s.trim with moveTime := m, settleTimer := x, stepTimer := y }
  present  : ∀ n, present t n = present s n
  misses   : ∀ n, (nodeRec t n).misses = (nodeRec s n).misses
  restarts : ∀ n, (nodeRec t n).restarts = (nodeRec s n).restarts

theorem JobSent.refl (a : Job) : JobSent a a := ⟨rfl, rfl, rfl, fun _ => rfl⟩

theorem JobSent.trans {a b c : Job} (h : JobSent a b) (k : JobSent b c) : JobSent a c := by
  refine ⟨k.1.trans h.1, k.2.1.trans h.2.1, k.2.2.1.trans h.2.2.1, fun e => ?_⟩
  have hb := h.2.2.2 e
  subst hb
  exact k.2.2.2 e

theorem jobsSent_refl (l : List Job) : List.Forall₂ JobSent l l := List.forall₂_same.2 fun a _ => .refl a

theorem jobsSent_trans {a b c : List Job} (h : List.Forall₂ JobSent a b) (k : List.Forall₂ JobSent b c) :
    List.Forall₂ JobSent a c := by
  induction h generalizing c with
  | nil => cases k; exact .nil
  | cons h₁ _ ih =>
    cases k with
    | cons k₁ k₂ => exact .cons (h₁.trans k₁) (ih k₂)

theorem issueJob_sent (l : List Station) (now : Time) (e : Bool) (j : Job) : JobSent j (issueJob l now e j) := by
  unfold issueJob
  split
  · rename_i h
    have hb : j.status = .built := by simp_all
    refine ⟨rfl, rfl, ?_, fun k => absurd hb k⟩
    simp only [Job.ended, hb]
    rfl
  · exact .refl j

theorem jobsSent_map (f : Job → Job) (hf : ∀ j, JobSent j (f j)) (l : List Job) :
    List.Forall₂ JobSent l (l.map f) := by
  induction l with
  | nil => exact .nil
  | cons a l ih => exact .cons (hf a) ih

theorem BusWork.refl (s : State) : BusWork s s where
  clock := rfl
  tickets := rfl
  profiles := rfl
  settings := rfl
  glue := rfl
  line := rfl
  dlv := rfl
  scan := rfl
  pins := rfl
  host := rfl
  store := rfl
  pending := rfl
  entries := rfl
  mismatch := rfl
  car := ⟨_, _, rfl, jobsSent_refl _⟩
  trim := ⟨_, _, _, rfl⟩
  present _ := rfl
  misses _ := rfl
  restarts _ := rfl

theorem BusWork.trans {a b c : State} (h : BusWork a b) (k : BusWork b c) : BusWork a c where
  clock := k.clock.trans h.clock
  tickets := k.tickets.trans h.tickets
  profiles := k.profiles.trans h.profiles
  settings := k.settings.trans h.settings
  glue := k.glue.trans h.glue
  line := k.line.trans h.line
  dlv := k.dlv.trans h.dlv
  scan := k.scan.trans h.scan
  pins := k.pins.trans h.pins
  host := k.host.trans h.host
  store := k.store.trans h.store
  pending := k.pending.trans h.pending
  entries := k.entries.trans h.entries
  mismatch := k.mismatch.trans h.mismatch
  car := by
    obtain ⟨j, m, e, f⟩ := h.car
    obtain ⟨j', m', e', f'⟩ := k.car
    rw [e] at e' f'
    exact ⟨j', m', e', jobsSent_trans f f'⟩
  trim := by
    obtain ⟨m, x, y, e⟩ := h.trim
    obtain ⟨m', x', y', e'⟩ := k.trim
    rw [e] at e'
    exact ⟨m', x', y', e'⟩
  present n := (k.present n).trans (h.present n)
  misses n := (k.misses n).trans (h.misses n)
  restarts n := (k.restarts n).trans (h.restarts n)

/-- A change of the bus alone that keeps the node table is bus work. -/
theorem BusWork.ofBus (s : State) (b : Bus) (h : b.nodes = s.bus.nodes) : BusWork s { s with bus := b } := by
  constructor <;> first | rfl | exact ⟨_, _, rfl, jobsSent_refl _⟩ | exact ⟨_, _, _, rfl⟩ | skip
  all_goals intro n; simp [Machine.present, nodeRec, h]

/-! ## The arbiter and the frames -/

theorem nodeIdx_injective {a b : NodeId} (h : nodeIdx a = nodeIdx b) : a = b := by
  cases a <;> cases b <;> first | rfl | (revert h; decide)

/-- Reading a node's record after one was replaced. -/
theorem nodeRec_setNode (s : State) (n m : NodeId) (r : NodeRec) :
    nodeRec (setNode n r s) m = if m = n then r else nodeRec s m := by
  unfold nodeRec
  simp only [setNode_bus_nodes]
  by_cases h : m = n
  · subst h; simp
  · have : (nodeIdx n).val ≠ (nodeIdx m).val := fun e => h (nodeIdx_injective (Fin.ext e)).symm
    simp [h, this]

/-- An arbiter's grant keeps the node table, and what is on the bus. -/
theorem grant_nodes {b b' : Bus} {f : Frame} (h : b.grant = some (f, b')) :
    b'.nodes = b.nodes ∧ b'.current = b.current := by
  unfold Bus.grant at h
  split at h
  · cases h; exact ⟨rfl, rfl⟩
  · obtain ⟨r, -, hr⟩ := List.exists_of_findSome?_eq_some h
    cases r <;> simp only [Bus.takeFrom] at hr <;> split at hr <;> cases hr <;> exact ⟨rfl, rfl⟩

theorem enqueue_nodes (f : Frame) (b : Bus) : (b.enqueue f).nodes = b.nodes := by
  unfold Bus.enqueue
  cases requesterOf f <;> rfl

theorem requeue_nodes (f : Frame) (b : Bus) : (b.requeue f).nodes = b.nodes := by
  unfold Bus.requeue
  cases requesterOf f <;> rfl

/-- A record replaced by one of the same presence and counts is bus work. -/
theorem setNode_busWork (n : NodeId) (r : NodeRec) (s : State) (h₁ : r.state = (nodeRec s n).state)
    (h₂ : r.misses = (nodeRec s n).misses) (h₃ : r.restarts = (nodeRec s n).restarts) :
    BusWork s (setNode n r s) := by
  have key : ∀ m, (nodeRec (setNode n r s) m).state = (nodeRec s m).state
      ∧ (nodeRec (setNode n r s) m).misses = (nodeRec s m).misses
      ∧ (nodeRec (setNode n r s) m).restarts = (nodeRec s m).restarts := by
    intro m
    rw [nodeRec_setNode]
    split
    · subst_vars; exact ⟨h₁, h₂, h₃⟩
    · exact ⟨rfl, rfl, rfl⟩
  constructor <;> first | rfl | exact ⟨_, _, rfl, jobsSent_refl _⟩ | exact ⟨_, _, _, rfl⟩ | skip
  · intro m; unfold Machine.present; rw [(key m).1]
  · exact fun m => (key m).2.1
  · exact fun m => (key m).2.2

theorem sendWork_busWork (tag : Byte) (l : List WorkItem) (again : Bool) (s : State) :
    BusWork s (sendWork tag l again s) := by
  unfold sendWork
  constructor <;> first | rfl | exact ⟨_, _, _, rfl⟩ | skip
  · refine ⟨_, s.car.moveTimer, rfl, ?_⟩
    split
    · exact jobsSent_map _ (issueJob_sent _ _ _) _
    · exact jobsSent_refl _
  all_goals intro n; rfl

theorem set_ack_kept (v : Vector NodeRec 9) (k m : Fin 9) :
    ((v.set k.val { v[k] with ackPending := false })[m]).state = v[m].state
      ∧ ((v.set k.val { v[k] with ackPending := false })[m]).misses = v[m].misses
      ∧ ((v.set k.val { v[k] with ackPending := false })[m]).restarts = v[m].restarts := by
  by_cases h : k = m
  · subst h; simp
  · have : k.val ≠ m.val := fun e => h (Fin.ext e)
    simp [this]

theorem clearAcks_kept (v : Vector NodeRec 9) (m : Fin 9) :
    ((clearAcks v)[m]).state = v[m].state ∧ ((clearAcks v)[m]).misses = v[m].misses
      ∧ ((clearAcks v)[m]).restarts = v[m].restarts := by
  unfold clearAcks
  generalize [(0 : Fin 9), 1, 2, 3, 4, 5] = l
  induction l generalizing v with
  | nil => exact ⟨rfl, rfl, rfl⟩
  | cons k l ih =>
    rw [List.foldl_cons]
    obtain ⟨h₁, h₂, h₃⟩ := ih (v.set k.val { v[k] with ackPending := false })
    obtain ⟨k₁, k₂, k₃⟩ := set_ack_kept v k m
    exact ⟨h₁.trans k₁, h₂.trans k₂, h₃.trans k₃⟩

theorem sendPoll_busWork (s : State) : BusWork s (sendPoll s) := by
  unfold sendPoll
  constructor <;> first | rfl | exact ⟨_, _, rfl, jobsSent_refl _⟩ | exact ⟨_, _, _, rfl⟩ | skip
  · intro n; simp only [Machine.present, nodeRec]; rw [(clearAcks_kept s.bus.nodes (nodeIdx n)).1]
  · intro n; exact (clearAcks_kept s.bus.nodes (nodeIdx n)).2.1
  · intro n; exact (clearAcks_kept s.bus.nodes (nodeIdx n)).2.2

theorem startLimit_busWork (k : ReqKind) (s : State) : BusWork s (startLimit k s) := by
  unfold startLimit
  split <;> first
    | exact .refl s
    | (constructor <;> first
        | rfl
        | exact ⟨_, _, rfl, jobsSent_refl _⟩
        | exact ⟨_, _, _, rfl⟩
        | (intro n; rfl))

theorem startLimit_nodes (k : ReqKind) (s : State) : (startLimit k s).bus = s.bus := by
  unfold startLimit
  split <;> rfl

theorem busOut_busWork (s : State) (b : Bus) (o : List BusFrame) (h : b.nodes = s.bus.nodes) :
    BusWork s { s with bus := b, busOut := o } := by
  constructor <;> first | rfl | exact ⟨_, _, rfl, jobsSent_refl _⟩ | exact ⟨_, _, _, rfl⟩ | skip
  all_goals intro n; simp [Machine.present, nodeRec, h]

theorem sendRequest_busWork (r : Request) (s : State) : BusWork s (sendRequest r s) := by
  unfold sendRequest
  simp only
  refine BusWork.trans ?_ (BusWork.trans (setNode_busWork _ _ _ ?_ ?_ ?_) (busOut_busWork _ _ _ rfl))
  · split
    · exact startLimit_busWork _ s
    · exact .refl s
  all_goals split <;> simp [nodeRec, startLimit_nodes]

theorem sendFrame_busWork (f : Frame) (s : State) : BusWork s (sendFrame f s) := by
  cases f with
  | work tag l again => exact sendWork_busWork tag l again s
  | poll => exact sendPoll_busWork s
  | req r => exact sendRequest_busWork r s
  | _ => exact busOut_busWork s s.bus _ rfl

theorem pump_busWork (n : Nat) (s : State) : BusWork s (pump n s) := by
  induction n generalizing s with
  | zero => exact .refl s
  | succ n ih =>
    unfold pump
    split
    · rename_i f b _ hg
      exact (BusWork.ofBus s b (grant_nodes hg).1).trans ((sendFrame_busWork f _).trans (ih _))
    · exact .refl s

theorem busPump_busWork (s : State) : BusWork s (busPump s) := pump_busWork _ s

theorem handOver_busWork (f : Frame) (s : State) : BusWork s (handOver f s) :=
  (BusWork.ofBus s _ (enqueue_nodes f s.bus)).trans (busPump_busWork _)

theorem handRequest_busWork (n : NodeId) (k : ReqKind) (s : State) : BusWork s (handRequest n k s) :=
  handOver_busWork _ s

theorem abortStation_busWork (st : Station) (s : State) : BusWork s (abortStation st s) := by
  unfold abortStation
  split
  · exact handOver_busWork _ s
  · exact .refl s

theorem abortTrimmer_busWork (s : State) : BusWork s (abortTrimmer s) := by
  unfold abortTrimmer
  split
  · exact handOver_busWork _ s
  · exact .refl s

theorem endTransaction_busWork (s : State) : BusWork s (endTransaction s) :=
  (BusWork.ofBus s { s.bus with current := none } rfl).trans (busPump_busWork _)

theorem giveUp_busWork (p : Request → Bool) (s : State) : BusWork s (giveUp p s) := BusWork.ofBus s _ rfl

theorem slowPolls_busWork (s : State) : BusWork s (slowPolls s) := by
  unfold slowPolls
  split
  · exact BusWork.ofBus s _ rfl
  · exact .refl s

end Sys2Proof.Machine
end

