-- ==== Sys2Proof/Laws/Line.lean ====
section
/-! SUPPORT. The Line and Carousel Controllers: the books, tables and settings that their cascades leave alone,
one lemma per operation. -/

namespace Sys2Proof.Machine

/-! ## The frame relation -/

theorem BookKept.trans {a b c : Book} (h : BookKept a b) (k : BookKept b c) : BookKept a c := by
  rcases h with rfl | ⟨h₁, r, rfl⟩
  · exact k
  · rcases k with rfl | ⟨h₂, _⟩
    · exact .inr ⟨h₁, r, rfl⟩
    · cases h₂

theorem withReason_bookKept (b : Book) (r : RejectReason) : BookKept b (b.withReason r) := by
  unfold Book.withReason
  split
  · rename_i h; exact .inr ⟨h, r, rfl⟩
  · exact .inl rfl

theorem ClampsKept.ofEq {s t : State} (h : t.car.clamps = s.car.clamps) : ClampsKept s t := by
  constructor
  · intro c; simp [clampRec, h]
  · intro c; simp [clampRec, h]
  · intro c hc; simpa [bookIn, h] using hc
  · intro c b hb; exact ⟨b, by simpa [bookIn, h] using hb, .inl rfl⟩

theorem ClampsKept.trans {a b c : State} (h : ClampsKept a b) (k : ClampsKept b c) : ClampsKept a c where
  mark i := (k.mark i).trans (h.mark i)
  zero i := (k.zero i).trans (h.zero i)
  empty i hi := k.empty i (h.empty i hi)
  book i x hx := by
    obtain ⟨y, hy, e⟩ := h.book i x hx
    obtain ⟨z, hz, f⟩ := k.book i y hy
    exact ⟨z, hz, e.trans f⟩

theorem TablesKept.trans {a b c : State} (h : TablesKept a b) (k : TablesKept b c) : TablesKept a c where
  clock := k.clock.trans h.clock
  profiles := k.profiles.trans h.profiles
  settings := k.settings.trans h.settings
  family := k.family.trans h.family
  scan := k.scan.trans h.scan
  pins := k.pins.trans h.pins
  store := k.store.trans h.store
  pending := k.pending.trans h.pending

theorem DeliveryKept.trans {a b c : State} (h : DeliveryKept a b) (k : DeliveryKept b c) : DeliveryKept a c where
  cooling := k.cooling.trans h.cooling
  done := k.done.trans h.done
  waiters := k.waiters.trans h.waiters
  loaded := k.loaded.trans h.loaded
  collected := k.collected.trans h.collected
  held := k.held.trans h.held

theorem LineKept.trans {a b c : State} (h : LineKept a b) (k : LineKept b c) : LineKept a c where
  tables := h.tables.trans k.tables
  books := h.books.trans k.books
  clamps := h.clamps.trans k.clamps
  queue := k.queue.trans h.queue

theorem LineKept.refl (s : State) : LineKept s s where
  tables := ⟨rfl, rfl, rfl, rfl, rfl, rfl, rfl, rfl⟩
  books := ⟨rfl, rfl, rfl, rfl, rfl, rfl⟩
  clamps := .ofEq rfl
  queue := rfl

/-- A change of anything outside the frame. -/
theorem LineKept.next {s t u : State} (h : LineKept s t) (a : TablesKept t u) (b : DeliveryKept t u)
    (c : u.car.clamps = t.car.clamps) (q : u.tickets.queue = t.tickets.queue) : LineKept s u :=
  h.trans ⟨a, b, .ofEq c, q⟩

theorem BusWork.lineKept {s t : State} (h : BusWork s t) : LineKept s t := by
  obtain ⟨j, m, hc, -⟩ := h.car
  obtain ⟨a, b, c, ht⟩ := h.trim
  exact {
    tables := ⟨h.clock, h.profiles, h.settings, by rw [h.glue], h.scan, h.pins, h.store, h.pending⟩
    books := ⟨by rw [h.dlv], by rw [h.dlv], by rw [h.dlv], by rw [h.dlv], by rw [h.dlv], by rw [ht]⟩
    clamps := .ofEq (by rw [hc])
    queue := by rw [h.tickets] }

/-- A change of the host link alone. -/
theorem LineKept.ofHost {s t : State} (h : ∃ x, t = { s with host := x }) : LineKept s t := by
  obtain ⟨x, rfl⟩ := h
  exact ⟨⟨rfl, rfl, rfl, rfl, rfl, rfl, rfl, rfl⟩, ⟨rfl, rfl, rfl, rfl, rfl, rfl⟩, .ofEq rfl, rfl⟩

/-- A change of the line's record alone. -/
theorem LineKept.line {s t : State} (h : LineKept s t) (l : Line) : LineKept s { t with line := l } :=
  h.next ⟨rfl, rfl, rfl, rfl, rfl, rfl, rfl, rfl⟩ ⟨rfl, rfl, rfl, rfl, rfl, rfl⟩ rfl rfl

theorem LineKept.ite {p : Prop} [Decidable p] {s t u : State} (h : p → LineKept s t) (k : ¬p → LineKept s u) :
    LineKept s (if p then t else u) := by
  split
  · exact h ‹_›
  · exact k ‹_›

/-! ## Shared operations

Each lemma says that the operation keeps the frame: applied to a state that has kept it, it leaves one that has. -/

section
variable {s t : State}

theorem raiseNotice_kept (n : Notice) (x : BitVec 32) (h : LineKept s t) : LineKept s (raiseNotice n x t) :=
  h.trans (.ofHost (raiseNotice_host n x t))

theorem raiseState_kept (l : LineState) (h : LineKept s t) : LineKept s (raiseState l t) :=
  h.trans (.ofHost (raiseState_host l t))

theorem respond_kept (k g : Byte) (c : Result) (d : List Byte) (h : LineKept s t) :
    LineKept s (respond k g c d t) := h.trans (.ofHost (respond_host k g c d t))

theorem handOver_kept (f : Frame) (h : LineKept s t) : LineKept s (handOver f t) :=
  h.trans (handOver_busWork f t).lineKept

theorem handRequest_kept (n : NodeId) (k : ReqKind) (h : LineKept s t) : LineKept s (handRequest n k t) :=
  h.trans (handRequest_busWork n k t).lineKept

theorem giveUp_kept (p : Request → Bool) (h : LineKept s t) : LineKept s (giveUp p t) :=
  h.trans (giveUp_busWork p t).lineKept

theorem slowPolls_kept (h : LineKept s t) : LineKept s (slowPolls t) := h.trans (slowPolls_busWork t).lineKept

theorem abortStation_kept (st : Station) (h : LineKept s t) : LineKept s (abortStation st t) :=
  h.trans (abortStation_busWork st t).lineKept

theorem abortTrimmer_kept (h : LineKept s t) : LineKept s (abortTrimmer t) :=
  h.trans (abortTrimmer_busWork t).lineKept

theorem endTransaction_kept (h : LineKept s t) : LineKept s (endTransaction t) :=
  h.trans (endTransaction_busWork t).lineKept

theorem dropReservation_kept (h : LineKept s t) : LineKept s (dropReservation t) :=
  h.next ⟨rfl, rfl, rfl, rfl, rfl, rfl, rfl, rfl⟩ ⟨rfl, rfl, rfl, rfl, rfl, rfl⟩ rfl rfl

theorem removeEntry_kept (h : LineKept s t) : LineKept s (removeEntry t) :=
  h.next ⟨rfl, rfl, rfl, rfl, rfl, rfl, rfl, rfl⟩ ⟨rfl, rfl, rfl, rfl, rfl, rfl⟩ rfl rfl

theorem discardEarly_kept (h : LineKept s t) : LineKept s (discardEarly t) := by
  unfold discardEarly
  split
  · exact h.next ⟨rfl, rfl, rfl, rfl, rfl, rfl, rfl, rfl⟩ ⟨rfl, rfl, rfl, rfl, rfl, rfl⟩ rfl rfl
  · exact h

theorem unhome_kept (h : LineKept s t) : LineKept s (unhome t) :=
  h.next ⟨rfl, rfl, rfl, rfl, rfl, rfl, rfl, rfl⟩ ⟨rfl, rfl, rfl, rfl, rfl, rfl⟩ rfl rfl

theorem setWorked_kept (w : Bool) (h : LineKept s t) : LineKept s (setWorked w t) :=
  h.next ⟨rfl, rfl, rfl, rfl, rfl, rfl, rfl, rfl⟩ ⟨rfl, rfl, rfl, rfl, rfl, rfl⟩ rfl rfl

theorem setCarState_kept (c : CarState) (h : LineKept s t) : LineKept s (setCarState c t) :=
  h.next ⟨rfl, rfl, rfl, rfl, rfl, rfl, rfl, rfl⟩ ⟨rfl, rfl, rfl, rfl, rfl, rfl⟩ rfl rfl

theorem updateJob_kept (st : Station) (f : Job → Job) (h : LineKept s t) : LineKept s (updateJob st f t) :=
  h.next ⟨rfl, rfl, rfl, rfl, rfl, rfl, rfl, rfl⟩ ⟨rfl, rfl, rfl, rfl, rfl, rfl⟩ rfl rfl

theorem endJob_kept (st : Station) (e : JobStatus) (h : LineKept s t) : LineKept s (endJob st e t) :=
  updateJob_kept _ _ h

theorem setOverrun_kept (st : Station) (n : Nat) (h : LineKept s t) : LineKept s (setOverrun st n t) :=
  h.next ⟨rfl, rfl, rfl, rfl, rfl, rfl, rfl, rfl⟩ ⟨rfl, rfl, rfl, rfl, rfl, rfl⟩ rfl rfl

/-! ## The Line Controller -/

theorem enterState_kept (l : LineState) (h : LineKept s t) : LineKept s (enterState l t) := by
  unfold enterState
  refine raiseState_kept l (h.next ⟨rfl, rfl, rfl, rfl, rfl, rfl, rfl, rfl⟩ ⟨rfl, rfl, rfl, rfl, rfl, rfl⟩ ?_ rfl)
  simp only
  split <;> rfl

theorem enterHeld_kept (h : LineKept s t) : LineKept s (enterHeld t) := enterState_kept _ (h.line _)

theorem enterParked_kept (h : LineKept s t) : LineKept s (enterParked t) := enterState_kept _ (h.line _)

theorem startStandby_kept (h : LineKept s t) : LineKept s (startStandby t) := h.line _

theorem stopStandby_kept (h : LineKept s t) : LineKept s (stopStandby t) := h.line _

theorem entryTests_kept (h : LineKept s t) : LineKept s (entryTests t) := by
  unfold entryTests
  exact .ite (fun _ => raiseNotice_kept _ _ (h.line _)) fun _ => h.line _

theorem enterRunning_kept (h : LineKept s t) : LineKept s (enterRunning t) := by
  unfold enterRunning
  have k := entryTests_kept (enterState_kept .running (h.line { t.line with
    warmTimer := none, parkTimer := none, drainRelease := false }))
  exact .ite (fun _ => enterHeld_kept k) fun _ => .ite (fun _ => startStandby_kept k) fun _ => k

theorem enterWarming_kept (h : LineKept s t) : LineKept s (enterWarming t) := by
  unfold enterWarming
  have k := enterState_kept .warming (h.line { t.line with
    parkTimer := none, standbyTimer := none, warmTimer := some t.clock })
  exact .ite (fun _ => enterRunning_kept k) fun _ => k

theorem enterStandby_kept (h : LineKept s t) : LineKept s (enterStandby t) := by
  unfold enterStandby
  have k := enterState_kept .standby (h.line { t.line with
    standbyTimer := none, parkTimer := some (t.clock, t.settings.parkDelay * 1000) })
  exact .ite (fun _ => enterWarming_kept k) fun _ => k

theorem enterDraining_kept (h : LineKept s t) : LineKept s (enterDraining t) := by
  unfold enterDraining
  have k := entryTests_kept (enterState_kept .draining (h.line { t.line with
    standbyTimer := none, drainRelease := false }))
  exact .ite (fun _ => enterHeld_kept k) fun _ => .ite (fun _ => enterStandby_kept k) fun _ => k

theorem lineHold_kept (c : HoldCause) (h : LineKept s t) : LineKept s (lineHold c t) := by
  unfold lineHold
  have k := h.line { t.line with holds := t.line.holds.add c }
  split
  · exact .ite (fun _ => enterHeld_kept k) fun _ => k
  · exact .ite (fun _ => enterHeld_kept k) fun _ => k
  · exact k
  · exact h

/-! ## Faults -/

theorem abortDwell_kept (h : LineKept s t) : LineKept s (abortDwell t) := by
  unfold abortDwell
  have k := handOver_kept .abortAll h
  have k₁ := LineKept.ite (p := (handOver .abortAll t).car.jobs.any Job.openLoad = true)
    (fun _ => dropReservation_kept k) fun _ => k
  have k₂ := LineKept.ite
    (p := ((handOver .abortAll t).car.jobs.any fun j => j.inFlight && j.item.station == .apply) = true)
    (fun _ => removeEntry_kept k₁) fun _ => k₁
  have k₃ := LineKept.ite
    (p := ((handOver .abortAll t).car.jobs.any fun j =>
      !j.ended && j.item.station == .release && !j.releaseDone) = true)
    (fun _ => discardEarly_kept k₂) fun _ => k₂
  exact slowPolls_kept (k₃.next ⟨rfl, rfl, rfl, rfl, rfl, rfl, rfl, rfl⟩ ⟨rfl, rfl, rfl, rfl, rfl, rfl⟩ rfl rfl)

theorem carFault_kept (e : Bool) (h : LineKept s t) : LineKept s (carFault e t) := by
  unfold carFault
  split
  · have k := setWorked_kept false (abortDwell_kept h)
    exact .ite (fun _ => unhome_kept k) fun _ => setCarState_kept _ k
  · exact setWorked_kept _ (unhome_kept (giveUp_kept _ h))
  · exact setWorked_kept _ (unhome_kept (giveUp_kept _ h))
  · exact .ite (fun _ => unhome_kept h) fun _ => h
  · exact h

theorem bookIn_eq (s : State) (c : Fin 20) : bookIn s c = (clampRec s c).book := rfl

/-- The record of a clamp after FAULT has been given to every loaded book. -/
theorem clampRec_faultBooks (s : State) (c : Fin 20) :
    clampRec (faultBooks s) c =
      { clampRec s c with book := (bookIn s c).map fun b => b.withReason .fault } := by
  simp [clampRec, bookIn, faultBooks]

theorem faultBooks_kept (h : LineKept s t) : LineKept s (faultBooks t) := by
  have hb : ∀ c, bookIn (faultBooks t) c = (bookIn t c).map fun b => b.withReason .fault := by
    intro c
    rw [bookIn_eq, clampRec_faultBooks]
  have hc : ClampsKept t (faultBooks t) := by
    constructor
    · intro c; rw [clampRec_faultBooks]
    · intro c; rw [clampRec_faultBooks]
    · intro c h; rw [hb, h]; rfl
    · intro c b h; exact ⟨_, by rw [hb, h]; rfl, withReason_bookKept b _⟩
  obtain ⟨v, e⟩ : ∃ v, faultBooks t = { t with car := { t.car with clamps := v } } := ⟨_, rfl⟩
  refine h.trans ⟨?_, ?_, hc, ?_⟩
  · rw [e]; exact ⟨rfl, rfl, rfl, rfl, rfl, rfl, rfl, rfl⟩
  · rw [e]; exact ⟨rfl, rfl, rfl, rfl, rfl, rfl⟩
  · rw [e]

theorem enterFaulted_kept (c : FaultCause) (h : LineKept s t) : LineKept s (enterFaulted c t) := by
  unfold enterFaulted
  exact carFault_kept _ (enterState_kept _ (faultBooks_kept (h.line _)))

theorem lineFault_kept (c : FaultCause) (h : LineKept s t) : LineKept s (lineFault c t) := by
  unfold lineFault
  split
  · exact h
  · exact h
  · exact .ite (fun _ => unhome_kept (h.line _)) fun _ => h.line _
  · exact enterFaulted_kept c h

/-! ## Dwells and moves -/

/-- Reading a clamp's record after one was replaced. -/
theorem clampRec_setClamp (c : Fin 20) (k : Clamp) (s : State) (i : Fin 20) :
    clampRec (setClamp c k s) i = if i = c then k else clampRec s i := by
  by_cases e : i = c
  · subst e; simp [clampRec]
  · have : c.val ≠ i.val := fun f => e (Fin.ext f).symm
    simp [clampRec, e, this]

/-- Reading a clamp's book after one was replaced. -/
theorem bookIn_setBook (c : Fin 20) (b : Option Book) (s : State) (i : Fin 20) :
    bookIn (setBook c b s) i = if i = c then b else bookIn s i := by
  unfold setBook
  rw [bookIn_eq, clampRec_setClamp, apply_ite Clamp.book]
  rfl

theorem setBook_kept (c : Fin 20) (b b' : Book) (e : bookIn t c = some b) (k : BookKept b b')
    (h : LineKept s t) : LineKept s (setBook c (some b') t) := by
  refine h.trans ⟨⟨rfl, rfl, rfl, rfl, rfl, rfl, rfl, rfl⟩, ⟨rfl, rfl, rfl, rfl, rfl, rfl⟩, ?_, rfl⟩
  constructor
  · intro i; unfold setBook; rw [clampRec_setClamp]; split <;> simp [*]
  · intro i; unfold setBook; rw [clampRec_setClamp]; split <;> simp [*]
  · intro i hi
    rw [bookIn_setBook]
    split
    · rename_i f; subst f; rw [e] at hi; cases hi
    · exact hi
  · intro i x hx
    rw [bookIn_setBook]
    split
    · rename_i f; subst f; rw [e] at hx; cases hx; exact ⟨b', rfl, k⟩
    · exact ⟨x, hx, .inl rfl⟩

theorem setReason_kept (c : Fin 20) (r : RejectReason) (h : LineKept s t) : LineKept s (setReason c r t) := by
  unfold setReason
  split
  · rename_i b e; exact setBook_kept c b _ e (withReason_bookKept b r) h
  · exact h

theorem openTimeCheck_kept (h : LineKept s t) : LineKept s (openTimeCheck t) := by
  unfold openTimeCheck
  split
  · exact h
  · split
    · exact h
    · exact .ite (fun _ => setReason_kept _ _ h) fun _ => h

theorem beginDwell_kept (k : DwellKind) (l : List Job) (h : LineKept s t) : LineKept s (beginDwell k l t) := by
  unfold beginDwell
  simp only
  split
  · exact stopStandby_kept (h.next ⟨rfl, rfl, rfl, rfl, rfl, rfl, rfl, rfl⟩ ⟨rfl, rfl, rfl, rfl, rfl, rfl⟩ rfl rfl)
  · exact handOver_kept _ (stopStandby_kept
      (h.next ⟨rfl, rfl, rfl, rfl, rfl, rfl, rfl, rfl⟩ ⟨rfl, rfl, rfl, rfl, rfl, rfl⟩ rfl rfl))

theorem sendIndex_kept (h : LineKept s t) : LineKept s (sendIndex t) := by
  unfold sendIndex
  have k : LineKept s (stopStandby { t with car := { t.car with state := .indexing, moveTimer := none } }) :=
    stopStandby_kept (h.next ⟨rfl, rfl, rfl, rfl, rfl, rfl, rfl, rfl⟩ ⟨rfl, rfl, rfl, rfl, rfl, rfl⟩ rfl rfl)
  exact .ite (fun _ => handRequest_kept _ _ k) fun _ => lineFault_kept _ k

theorem sendHome_kept (h : LineKept s t) : LineKept s (sendHome t) := by
  unfold sendHome
  have k : LineKept s { t with car := { t.car with state := .homing, moveTimer := none } } :=
    h.next ⟨rfl, rfl, rfl, rfl, rfl, rfl, rfl, rfl⟩ ⟨rfl, rfl, rfl, rfl, rfl, rfl⟩ rfl rfl
  exact .ite (fun _ => handRequest_kept _ _ k) fun _ => lineFault_kept _ k

theorem carStood_kept {again : State → State} (ha : ∀ u, LineKept s u → LineKept s (again u)) (n e : Bool)
    (h : LineKept s t) : LineKept s (carStood again n e t) := by
  unfold carStood
  split
  · refine .ite (fun _ => enterHeld_kept h) fun _ => ?_
    have k : LineKept s (if (n && !anyLoaded t) = true then startStandby t else t) :=
      .ite (fun _ => startStandby_kept h) fun _ => h
    refine .ite (fun _ => ?_) fun _ => k
    split
    · exact beginDwell_kept _ _ k
    · exact k
  · refine .ite (fun _ => .ite (fun _ => enterHeld_kept h) fun _ => h) fun _ => ?_
    refine .ite (fun _ => enterParked_kept h) fun _ => ?_
    exact .ite (fun _ => enterHeld_kept h) fun _ => ha _ (enterStandby_kept h)
  · exact h

theorem carDecide_kept {again : State → State} (ha : ∀ u, LineKept s u → LineKept s (again u)) (n e : Bool)
    (h : LineKept s t) : LineKept s (carDecide again n e t) := by
  have hs : LineKept s (carStood again n e (setCarState .standing t)) :=
    carStood_kept ha n e (setCarState_kept _ h)
  unfold carDecide
  refine .ite (fun _ => hs) fun _ => ?_
  split
  · exact hs
  · refine .ite (fun _ => ?_) fun _ => .ite (fun _ => sendIndex_kept h) fun _ => hs
    split
    · exact beginDwell_kept _ _ h
    · exact hs

theorem lineDwellEnd_kept (h : LineKept s t) : LineKept s (lineDwellEnd t) := by
  unfold lineDwellEnd
  split
  · refine .ite (fun _ => enterHeld_kept h) fun _ => ?_
    exact .ite (fun _ => enterDraining_kept h) fun _ => h
  · refine .ite (fun _ => ?_) fun _ => h
    exact .ite (fun _ => h) fun _ => enterHeld_kept h
  · exact h

theorem carDwellEnd_kept {again : State → State} (ha : ∀ u, LineKept s u → LineKept s (again u))
    (h : LineKept s t) : LineKept s (carDwellEnd again t) :=
  carDecide_kept ha _ _ (lineDwellEnd_kept (setWorked_kept _ (slowPolls_kept h)))

theorem beginFull_kept {again : State → State} (ha : ∀ u, LineKept s u → LineKept s (again u))
    (h : LineKept s t) : LineKept s (beginFull again t) := by
  unfold beginFull
  refine .ite (fun _ => ?_) fun _ => h
  have k := beginDwell_kept .full (fullList (openTimeCheck t)) (openTimeCheck_kept h)
  exact .ite (fun _ => carDwellEnd_kept ha k) fun _ => k

theorem carTold_kept (n : Nat) (h : LineKept s t) : LineKept s (carTold n t) := by
  induction n generalizing t with
  | zero => exact h
  | succ n ih =>
    unfold carTold
    split
    · exact .ite (fun _ => sendHome_kept h) fun _ => h
    · refine .ite (fun _ => ?_) fun _ => h
      exact .ite (fun _ => carDecide_kept (fun _ => ih) _ _ h) fun _ => beginFull_kept (fun _ => ih) h
    · exact h

theorem tellCarousel_kept (h : LineKept s t) : LineKept s (tellCarousel t) := carTold_kept _ h

theorem dwellCheck_kept (h : LineKept s t) : LineKept s (dwellCheck t) :=
  .ite (fun _ => carDwellEnd_kept (fun _ => carTold_kept _) h) fun _ => h

theorem redecide_kept (e : Bool) (h : LineKept s t) : LineKept s (redecide e t) :=
  .ite (fun _ => carDecide_kept (fun _ => carTold_kept _) false e h) fun _ => h

theorem freshTest_kept (h : LineKept s t) : LineKept s (freshTest t) := by
  refine .ite (fun _ => ?_) fun _ => h
  split
  · exact beginDwell_kept _ _ h
  · exact h

theorem wakeTest_kept (h : LineKept s t) : LineKept s (wakeTest t) :=
  .ite (fun _ => tellCarousel_kept (enterWarming_kept h)) fun _ => h

theorem drainReleaseTest_kept (h : LineKept s t) : LineKept s (drainReleaseTest t) :=
  .ite (fun _ => tellCarousel_kept (enterDraining_kept h)) fun _ => h

theorem moveFailed_kept (h : LineKept s t) : LineKept s (moveFailed t) :=
  raiseNotice_kept _ _ (lineFault_kept _ (setWorked_kept _ (unhome_kept (giveUp_kept _ h))))

theorem indexDone_kept (h : LineKept s t) : LineKept s (indexDone t) :=
  tellCarousel_kept (h.next ⟨rfl, rfl, rfl, rfl, rfl, rfl, rfl, rfl⟩ ⟨rfl, rfl, rfl, rfl, rfl, rfl⟩ rfl rfl)

theorem homeDone_kept (q : Fin 20) (h : LineKept s t) : LineKept s (homeDone q t) :=
  tellCarousel_kept (h.next ⟨rfl, rfl, rfl, rfl, rfl, rfl, rfl, rfl⟩ ⟨rfl, rfl, rfl, rfl, rfl, rfl⟩ rfl rfl)

end

end Sys2Proof.Machine
end

