-- ==== Sys2Proof/Laws/Host.lean ====
section
/-! SUPPORT. Commands and requests: what `live`, `arrives` and `hostRequest` answer, and the little-endian fields of the
payloads. -/

namespace Sys2Proof.Machine

/-! ## Commands -/

/-- Outside reset a command acts on a state whose outputs are empty. -/
theorem live_next (f : State → State) (s : State) (h : s.pins.inReset = false) : live f s = f (clearOut s) := by
  simp [live, h]

/-- In reset a command has no effect. -/
theorem live_reset (f : State → State) (s : State) (h : s.pins.inReset = true) : live f s = s := by
  simp [live, h]

/-- With no frame begun, the frame that arrives is the request. -/
theorem arrives_heard (f : HostFrame) (take : State → State) (s : State) (h : Hears s) :
    arrives f take s = take (clearOut s) := by
  unfold arrives
  rw [live_next _ s h.1, if_neg (by rw [show frameOpen (clearOut s) = false from h.2]; decide)]

/-- Into a begun frame the bytes of the request's frame are that frame's next bytes. -/
theorem arrives_open (f : HostFrame) (take : State → State) (s : State) (h : s.pins.inReset = false)
    (ho : frameOpen s = true) : arrives f take s = receive f.bytes (clearOut s) := by
  unfold arrives
  rw [live_next _ s h, if_pos (show frameOpen (clearOut s) = true from ho)]

/-- A request that is not overlapped is taken by its owner, and its result is replied. -/
theorem hostRequest_taken (k g : Byte) (act : State → State × Result × List Byte) (s : State)
    (h : overlapped s = false) :
    hostRequest k g act s =
      respond k g (act (clearRx s)).2.1 (act (clearRx s)).2.2 (act (clearRx s)).1 := by
  unfold hostRequest
  rw [if_neg (by rw [h]; decide)]

/-- An overlapped request is owed a BUSY or discarded. -/
theorem hostRequest_overlapped (k g : Byte) (act : State → State × Result × List Byte) (s : State)
    (ho : overlapped s = true) : hostRequest k g act s = oweBusy k g (clearRx s) := by
  unfold hostRequest
  rw [if_pos ho]

/-- A request command on a part that takes it at once: the owner's result is replied. -/
theorem arrives_taken (f : HostFrame) (k g : Byte) (act : State → State × Result × List Byte) (s : State)
    (h : TakesRequest s) :
    arrives f (hostRequest k g act) s =
      respond k g (act (begun s)).2.1 (act (begun s)).2.2 (act (begun s)).1 :=
  (arrives_heard f _ s h.1).trans (hostRequest_taken k g act (clearOut s) h.2)

/-- A request command on a part that is answering another: a BUSY is owed, or the request is discarded. -/
theorem arrives_overlapped (f : HostFrame) (k g : Byte) (act : State → State × Result × List Byte) (s : State)
    (h : Hears s) (ho : overlapped s = true) :
    arrives f (hostRequest k g act) s = oweBusy k g (begun s) :=
  (arrives_heard f _ s h).trans (hostRequest_overlapped k g act (clearOut s) ho)

/-! ## Little-endian fields -/

@[simp] theorem leBytes_length (w n : Nat) : (leBytes w n).length = w := by
  induction w generalizing n with
  | zero => rfl
  | succ w ih => simp [leBytes, ih]

theorem leNat_leBytes (w n : Nat) : leNat (leBytes w n) = n % 256 ^ w := by
  induction w generalizing n with
  | zero => simp [leBytes, leNat, Nat.mod_one]
  | succ w ih =>
    rw [Nat.pow_succ', Nat.mod_mul]
    simp [leBytes, leNat, ih]

/-- A field read back from its bytes. -/
theorem leNat_leBytes_of_lt (w n : Nat) (h : n < 256 ^ w) : leNat (leBytes w n) = n := by
  rw [leNat_leBytes, Nat.mod_eq_of_lt h]

theorem leNat_lt (l : List Byte) : leNat l < 256 ^ l.length := by
  induction l with
  | nil => simp [leNat]
  | cons b l ih =>
    have := b.isLt
    simp only [leNat, List.length_cons, Nat.pow_succ]
    omega

/-- Taking a field from the bytes that begin with it. -/
theorem takeNat_leBytes (w n : Nat) (rest : List Byte) (h : n < 256 ^ w) :
    takeNat w (leBytes w n ++ rest) = (n, rest) := by
  simp [takeNat, leNat_leBytes_of_lt w n h]

/-- Taking an optional field from the bytes that begin with it. -/
theorem takeOpt_optBytes (w : Nat) (x : Option Nat) (rest : List Byte) (h : ∀ y, x = some y → y < 256 ^ w) :
    takeOpt x.isSome w (optBytes w x ++ rest) = (x, rest) := by
  cases x with
  | none => simp [takeOpt, optBytes]
  | some y => simp [takeOpt, optBytes, leNat_leBytes_of_lt w y (h y rfl)]

end Sys2Proof.Machine
end

