-- ==== Sys2Proof/Laws/PerInstr.lean ====
section
/-! SUPPORT. One lemma per command for the statements about every command as syntax: a well-formed command carries
a payload that a host frame can hold (R174). -/

namespace Sys2Proof.Laws.WellFormed

/-- The payload of a well-formed command fits a host frame (R174). -/
def Statement (i : Instr) : Prop := i.wf = true → i.payload.length ≤ Config.payloadMax

theorem of_payloadOk {p : List Byte} (h : payloadOk p = true) : p.length ≤ 480 := of_decide_eq_true h

theorem ticket (tag : Byte) (payload : List Byte) : Statement (.ticket tag payload) := fun h => of_payloadOk h
theorem withdraw (tag : Byte) (payload : List Byte) : Statement (.withdraw tag payload) := fun h => of_payloadOk h
theorem profilePut (tag : Byte) (payload : List Byte) :
    Statement (.profilePut tag payload) :=
  fun h => of_payloadOk h
theorem profileGet (tag : Byte) (payload : List Byte) :
    Statement (.profileGet tag payload) :=
  fun h => of_payloadOk h
theorem clampPut (tag : Byte) (payload : List Byte) : Statement (.clampPut tag payload) := fun h => of_payloadOk h
theorem clampGet (tag : Byte) (payload : List Byte) : Statement (.clampGet tag payload) := fun h => of_payloadOk h
theorem glueChange (tag : Byte) (payload : List Byte) :
    Statement (.glueChange tag payload) :=
  fun h => of_payloadOk h
theorem start (tag : Byte) (payload : List Byte) : Statement (.start tag payload) := fun h => of_payloadOk h
theorem halt (tag : Byte) (payload : List Byte) : Statement (.halt tag payload) := fun h => of_payloadOk h
theorem hold (tag : Byte) (payload : List Byte) : Statement (.hold tag payload) := fun h => of_payloadOk h
theorem resume (tag : Byte) (payload : List Byte) : Statement (.resume tag payload) := fun h => of_payloadOk h
theorem park (tag : Byte) (payload : List Byte) : Statement (.park tag payload) := fun h => of_payloadOk h
theorem clearLine (tag : Byte) (payload : List Byte) :
    Statement (.clearLine tag payload) :=
  fun h => of_payloadOk h
theorem clearTrimmer (tag : Byte) : Statement (.clearTrimmer tag) := fun _ => Nat.le_of_ble_eq_true rfl
theorem collect (tag : Byte) (payload : List Byte) : Statement (.collect tag payload) := fun h => of_payloadOk h
theorem nodes (tag : Byte) (payload : List Byte) : Statement (.nodes tag payload) := fun h => of_payloadOk h
theorem contacts (tag : Byte) (payload : List Byte) : Statement (.contacts tag payload) := fun h => of_payloadOk h
theorem status (tag : Byte) (payload : List Byte) : Statement (.status tag payload) := fun h => of_payloadOk h
theorem trace (tag : Byte) (payload : List Byte) : Statement (.trace tag payload) := fun h => of_payloadOk h
theorem settingsPut (tag : Byte) (payload : List Byte) :
    Statement (.settingsPut tag payload) :=
  fun h => of_payloadOk h
theorem settingsGet (tag : Byte) (payload : List Byte) :
    Statement (.settingsGet tag payload) :=
  fun h => of_payloadOk h
theorem store (tag : Byte) (payload : List Byte) : Statement (.store tag payload) := fun h => of_payloadOk h
theorem reset (tag : Byte) (payload : List Byte) : Statement (.reset tag payload) := fun h => of_payloadOk h
theorem unknownKind (kind tag : Byte) (payload : List Byte) :
    Statement (.unknownKind kind tag payload) :=
  fun h => of_payloadOk (Bool.and_eq_true_iff.mp h).1
theorem overlappedRequest (kind tag : Byte) (payload : List Byte) :
    Statement (.overlappedRequest kind tag payload) :=
  fun h => of_payloadOk h
theorem badFrameDiscard (bytes : List Byte) :
    Statement (.badFrameDiscard bytes) :=
  fun _ => Nat.le_of_ble_eq_true rfl
theorem frameByteGapTimeout : Statement .frameByteGapTimeout := fun _ => Nat.le_of_ble_eq_true rfl
theorem transmitFrameEnd : Statement .transmitFrameEnd := fun _ => Nat.le_of_ble_eq_true rfl
theorem saveEnd : Statement .saveEnd := fun _ => Nat.le_of_ble_eq_true rfl
theorem resetBegin (estopLow : Bool) : Statement (.resetBegin estopLow) := fun _ => Nat.le_of_ble_eq_true rfl
theorem powerOnReset (strapA strapB : StrapLevel) (estopLow : Bool) :
    Statement (.powerOnReset strapA strapB estopLow) :=
  fun _ => Nat.le_of_ble_eq_true rfl
theorem resetLineLow : Statement .resetLineLow := fun _ => Nat.le_of_ble_eq_true rfl
theorem resetLineHigh (strapA strapB : StrapLevel) (estopLow : Bool) :
    Statement (.resetLineHigh strapA strapB estopLow) :=
  fun _ => Nat.le_of_ble_eq_true rfl
theorem storeLoadDone : Statement .storeLoadDone := fun _ => Nat.le_of_ble_eq_true rfl
theorem estopActivated : Statement .estopActivated := fun _ => Nat.le_of_ble_eq_true rfl
theorem estopReleased : Statement .estopReleased := fun _ => Nat.le_of_ble_eq_true rfl
theorem scanEnd (closed : BitVec 64) : Statement (.scanEnd closed) := fun _ => Nat.le_of_ble_eq_true rfl
theorem lampFlashToggle : Statement .lampFlashToggle := fun _ => Nat.le_of_ble_eq_true rfl
theorem pollRoundDue : Statement .pollRoundDue := fun _ => Nat.le_of_ble_eq_true rfl
theorem slotAnswer (node : NodeId) (jobs : List (Station × JobAnswer)) (temp : Option Nat) (marks : FrameMarks) :
    Statement (.slotAnswer node jobs temp marks) :=
  fun _ => Nat.le_of_ble_eq_true rfl
theorem slotEmpty : Statement .slotEmpty := fun _ => Nat.le_of_ble_eq_true rfl
theorem pollRoundEnd : Statement .pollRoundEnd := fun _ => Nat.le_of_ble_eq_true rfl
theorem indexAnswer (seq : Byte) (answer : Answer) (marks : FrameMarks) :
    Statement (.indexAnswer seq answer marks) :=
  fun _ => Nat.le_of_ble_eq_true rfl
theorem homeAnswer (seq : Byte) (answer : HomeAnswer) (marks : FrameMarks) :
    Statement (.homeAnswer seq answer marks) :=
  fun _ => Nat.le_of_ble_eq_true rfl
theorem pushAnswer (seq : Byte) (answer : Answer) (marks : FrameMarks) :
    Statement (.pushAnswer seq answer marks) :=
  fun _ => Nat.le_of_ble_eq_true rfl
theorem setAxesAnswer (seq : Byte) (answer : Answer) (marks : FrameMarks) :
    Statement (.setAxesAnswer seq answer marks) :=
  fun _ => Nat.le_of_ble_eq_true rfl
theorem readAxesAnswer (seq : Byte) (answer : AxesAnswer) (marks : FrameMarks) :
    Statement (.readAxesAnswer seq answer marks) :=
  fun _ => Nat.le_of_ble_eq_true rfl
theorem stepAnswer (seq : Byte) (answer : Answer) (marks : FrameMarks) :
    Statement (.stepAnswer seq answer marks) :=
  fun _ => Nat.le_of_ble_eq_true rfl
theorem nodeStatusAnswer (node : NodeId) (seq : Byte) (marks : FrameMarks) :
    Statement (.nodeStatusAnswer node seq marks) :=
  fun _ => Nat.le_of_ble_eq_true rfl
theorem probeAnswer (node : NodeId) (seq : Byte) (position : Option (Fin 20)) (marks : FrameMarks) :
    Statement (.probeAnswer node seq position marks) :=
  fun _ => Nat.le_of_ble_eq_true rfl
theorem replyWindowClosed : Statement .replyWindowClosed := fun _ => Nat.le_of_ble_eq_true rfl
theorem requestRepeatDue (node : NodeId) : Statement (.requestRepeatDue node) := fun _ => Nat.le_of_ble_eq_true rfl
theorem nodeStatusDue (node : NodeId) : Statement (.nodeStatusDue node) := fun _ => Nat.le_of_ble_eq_true rfl
theorem recoveryProbeDue : Statement .recoveryProbeDue := fun _ => Nat.le_of_ble_eq_true rfl
theorem jobOverrun (station : Station) : Statement (.jobOverrun station) := fun _ => Nat.le_of_ble_eq_true rfl
theorem indexTimeout : Statement .indexTimeout := fun _ => Nat.le_of_ble_eq_true rfl
theorem homingTimeout : Statement .homingTimeout := fun _ => Nat.le_of_ble_eq_true rfl
theorem glueSettlingWindow : Statement .glueSettlingWindow := fun _ => Nat.le_of_ble_eq_true rfl
theorem warmTimeout : Statement .warmTimeout := fun _ => Nat.le_of_ble_eq_true rfl
theorem standbyTimeout : Statement .standbyTimeout := fun _ => Nat.le_of_ble_eq_true rfl
theorem parkTimeout : Statement .parkTimeout := fun _ => Nat.le_of_ble_eq_true rfl
theorem dropWindowTimeout : Statement .dropWindowTimeout := fun _ => Nat.le_of_ble_eq_true rfl
theorem headTimerExpiry : Statement .headTimerExpiry := fun _ => Nat.le_of_ble_eq_true rfl
theorem pushWindowTimeout : Statement .pushWindowTimeout := fun _ => Nat.le_of_ble_eq_true rfl
theorem axisSettleWindow (axis : Axis) : Statement (.axisSettleWindow axis) := fun _ => Nat.le_of_ble_eq_true rfl
theorem settleTimeout : Statement .settleTimeout := fun _ => Nat.le_of_ble_eq_true rfl
theorem stepTimeout : Statement .stepTimeout := fun _ => Nat.le_of_ble_eq_true rfl
theorem exitWindowTimeout : Statement .exitWindowTimeout := fun _ => Nat.le_of_ble_eq_true rfl

end Sys2Proof.Laws.WellFormed
end

