-- ==== Sys2Proof/Tests/Slice0.lean ====
section
/-! SUPPORT. Tests of the model, with expected results taken from the spec's tables and worked cases, and for each
statement a witness that meets its hypotheses, clause by clause, at boundary values. -/

namespace Sys2Proof.Tests
open Sys2Proof.Machine

-- The tests are evaluated by the kernel one after another: waiting in threads they would only take memory.
set_option Elab.async false

/-! ## States the tests start from -/

/-- The ticket of the worked cases of R4, R35 and 2.7 (case A). -/
def aRaw : RawTicket where
  id := 815
  blockId := 0x1111
  coverId := some 0x2222
  profile := 0
  blockWidth := 152000
  blockHeight := 216000
  nominal := 18500
  tolerance := 400
  millDepth := 1500
  trimWidth := 148000
  trimHeight := 210000
  footMargin := none
  coverStock := 250
  coverWidth := 330000
  hinge := some 8000
  sideGlue := some 5000
  sample := false

/-- Every field at the lowest value of R1, every optional field absent. -/
def lowRaw : RawTicket := ⟨0, 0, none, 0, 100000, 140000, 2000, 100, 0, 90000, 120000, none, 100, 190000, none, none, false⟩

/-- Every field at the highest value of R1, every optional field present. -/
def highRaw : RawTicket :=
  ⟨2 ^ 32 - 1, 2 ^ 64 - 1, some (2 ^ 64 - 1), 15, 340000, 360000, 60000, 5000, 3000, 250000, 340000, some 30000, 800,
    600000, some 12000, some 10000, true⟩

def aTicket : Ticket := aRaw.toTicket

/-- Another ticket with the id given. -/
def ticketOf (id : TicketId) : Ticket := { aTicket with id := id }

/-- The profile of case A: COMPUTED, base step 3, offset 1. -/
def aProfile : Snapshot := { Snapshot.default with offset := 1 }

/-- The book of case A in a clamp. -/
def aBook (c : Fin 20) : Book := loadedBook aTicket aProfile c 18612 190 0

/-- A book with the id given and no reject reason. -/
def bookOf (id : TicketId) : Book := { aBook 0 with ticket := ticketOf id }

/-- Contact records: IN_PRESENT and the seven guards closed, the rest open. -/
def shutContacts : Vector Contact 64 :=
  Vector.ofFn fun i =>
    let c := decide (i.val = 0 ∨ 16 ≤ i.val ∧ i.val ≤ 22)
    ⟨some c, c, 0, false⟩

/-- A part in a line state: every node PRESENT, the bus and the transmit line free, the pot AT_TEMP, the carousel
standing at phase 7 with every clamp empty, the guards shut, the queue empty. -/
def inState (l : LineState) : State :=
  { State.reset with
    line := { Line.afterReset with state := l, loadDone := true, probesDone := true, lamps := lampsOf l false }
    glue := ⟨.hotmelt, potTargetOf l .default, some 170, .atTemp, none, false⟩
    car := { Carousel.afterReset with state := .standing, phase := some 7, phaseKnown := true }
    bus := { Bus.idle with nodes := Vector.replicate 9 ⟨.present, 0, false, 0, 0, 0⟩, pollOn := true, probesLeft := 0 }
    scan := ⟨shutContacts, false, 0⟩
    busOut := [] }

/-- The same with a clock reading. -/
def atTime (n : Time) (s : State) : State := { s with clock := n }

/-- Tickets in the queue. -/
def queued (l : List Ticket) (s : State) : State := { s with tickets := ⟨l, false⟩ }

/-- The carousel's state replaced. -/
def car (c : CarState) (s : State) : State := { s with car := { s.car with state := c } }

/-- The line's cause of a fault. -/
def faulted (c : FaultCause) : State :=
  let s := inState .faulted
  { s with line := { s.line with cause := some c } }

/-- A request on the bus, its number 5, sent now, with nothing else waiting. -/
def asks (n : NodeId) (k : ReqKind) (s : State) : State :=
  { s with bus := { s.bus with current := some (.request ⟨n, k, some 5⟩ false s.clock) } }

/-- Milliseconds pass. -/
def later (n : Nat) (s : State) : State := { s with clock := s.clock + BitVec.ofNat 32 n }

/-- A POLL round on the bus, its tag 9 the dwell's, with the slot given next. -/
def polls (slot : Nat) (s : State) : State :=
  { s with car := { s.car with tag := 9 }, bus := { s.bus with current := some (.poll 9 slot) } }

/-- An issued job of a station in clamp 3, its limit running from 0. -/
def aJob (st : Station) (id : Option TicketId) (p : JobParams) : Job := ⟨⟨st, 3, id, p⟩, .issued, .running 0, false⟩

/-- Another station's job, not ended. -/
def otherJob (st : Station) : Job := if st = .nip then aJob .mill none (.mill 0) else aJob .nip none (.nip none)

/-- A dwell of RUNNING with a job of a station and another's, in the slot given. -/
def working (j : Job) (slot : Nat) : State :=
  let s := setBook 3 (some (aBook 3)) (polls slot (inState .running))
  { s with car := { s.car with state := .dwelling, jobs := [j, otherJob j.item.station] } }

/-- The trimmer in a state with the book inside. -/
def trimming (st : TrimState) (s : State) : State :=
  { s with trim := { s.trim with state := st, held := .inside (aBook 3) } }

/-! ## Well-formedness: each check refuses an ill-formed command -/

theorem test_wf_payload : (Instr.ticket 1 (List.replicate 480 0)).wf = true
    ∧ (Instr.ticket 1 (List.replicate 481 0)).wf = false := by decide +kernel
theorem test_wf_overlapped : (Instr.overlappedRequest 1 2 (List.replicate 481 0)).wf = false := by decide +kernel
theorem test_wf_unknown_kind : (Instr.unknownKind 0x17 1 []).wf = true ∧ (Instr.unknownKind 0x16 1 []).wf = false := by
  decide
/-- The bytes of a good START frame are no bad frame; with one bit of its check wrong they are. -/
theorem test_wf_bad_frame : (Instr.badFrameDiscard []).wf = false ∧ (Instr.badFrameDiscard [0]).wf = true
    ∧ (Instr.badFrameDiscard (HostFrame.bytes ⟨0x08, 1, []⟩)).wf = false
    ∧ (Instr.badFrameDiscard (HostFrame.bytes ⟨0x08, 1, []⟩ |>.modify 6 (· ^^^ 1))).wf = true := by decide +kernel
theorem test_wf_slot_node : (Instr.slotAnswer .drive [] none ⟨false, true⟩).wf = false := by decide
theorem test_wf_slot_station : (Instr.slotAnswer .mill [(.nip, .busy)] none ⟨false, true⟩).wf = false
    ∧ (Instr.slotAnswer .nip [(.nip, .busy)] none ⟨false, true⟩).wf = true := by decide
theorem test_wf_temperature : (Instr.slotAnswer .glue [] (some 301) ⟨false, true⟩).wf = false
    ∧ (Instr.slotAnswer .glue [] (some 300) ⟨false, true⟩).wf = true ∧ (Instr.slotAnswer .glue [] none ⟨false, true⟩).wf = false
    ∧ (Instr.slotAnswer .mill [] (some 170) ⟨false, true⟩).wf = false := by decide
theorem test_wf_status_node : (Instr.nodeStatusAnswer .glue 0 ⟨false, true⟩).wf = false
    ∧ (Instr.nodeStatusDue .glue).wf = false := by
  decide
theorem test_wf_position : (Instr.probeAnswer .mill 0 (some 3) ⟨false, true⟩).wf = false
    ∧ (Instr.probeAnswer .drive 0 (some 3) ⟨false, true⟩).wf = true := by decide

/-- The table gives no row bits: no word spells a command (log 32). -/
theorem test_no_word : decodeTableWord 0 0 = none ∧ decodeTableWord 16 0xFFFF = none := by decide

/-! ## The computations, from the spec's tables -/

/-- The published check values of the CRCs with the parameters of R174 and R183, over the digits 1 to 9. -/
theorem test_crc : crc16 [0x31, 0x32, 0x33, 0x34, 0x35, 0x36, 0x37, 0x38, 0x39] = 0x29B1
    ∧ crc32 [0x31, 0x32, 0x33, 0x34, 0x35, 0x36, 0x37, 0x38, 0x39] = 0xCBF43926 := by decide +kernel

/-- The example of R2. -/
theorem test_supplied_margin : suppliedMargin 216010 210000 = 3000
    ∧ suppliedMargin 216000 210000 = 3000 := by decide +kernel

/-- The four rows of R33: s2 and s3 rounded. -/
theorem test_score_rounding : [155229, 174771, 140228, 159773, 140005, 160005, 139997, 160003].map round10
    = [155230, 174770, 140230, 159770, 140010, 160010, 140000, 160000] := by decide

/-- The seven rows of R45. -/
theorem test_learned_offsets : [(190, 230), (190, 183), (10, -3), (-300, -20), (480, 790), (-450, -800), (190, 192)].map
    (fun p : Int × Int => learnedOffset p.1 p.2) = [200, 189, 7, -230, 500, -500, 190] := by decide

/-- Case A of 2.7 and the axis targets of R35. -/
theorem test_case_a : (aBook 3).measured = 18422 ∧ (aBook 3).verdict = .pass ∧ (aBook 3).reason = none
    ∧ (aBook 3).setpoints = some ⟨8, false, 19542, 155230, 174770, some (147230, 182770)⟩
    ∧ axisTargets aTicket = (148000, 3000, 213000) := by decide

/-- Case B of 2.7: the step is clamped at 15 and the flag set. -/
theorem test_case_b :
    let t := { aTicket with nominal := 58000, tolerance := 500, coverStock := 300, coverWidth := 400000, hinge := none,
                            trimWidth := 170000 }
    let b := loadedBook t { Snapshot.default with offset := 7 } 0 58180 (-120) 0
    b.measured = 58300 ∧ b.reason = none ∧ b.setpoints = some ⟨15, true, 59800, 170100, 229900, none⟩ := by decide +kernel

/-- Case C of 2.7: the step is clamped at 0. -/
theorem test_case_c :
    let t := { aTicket with nominal := 3000, tolerance := 200, coverStock := 200, coverWidth := 310000,
                            hinge := some 6000, trimWidth := 150000 }
    let b := loadedBook t { Snapshot.default with baseStep := 0, offset := -7 } 0 3000 0 0
    b.reason = none ∧ b.setpoints = some ⟨0, true, 3700, 153150, 156850, some (147150, 162850)⟩ := by decide +kernel

/-- The phase worked case of 3.1: the clamps at P0, P2, P4, P5, P7, P8 and P11 with phase 7. -/
theorem test_phase : [0, 2, 4, 5, 7, 8, 11].map (clampAt (inState .running))
    = [13, 15, 17, 18, 0, 1, 4].map some := by decide

/-! ## One step of some commands -/

/-- The state after a command, the state itself where it does not answer next. -/
def after (c : Instr) (s : State) : State :=
  match exec c s with
  | .next t => t
  | _ => s

/-- Case a of the worked cases of R4: OK, position 13. -/
theorem test_ticket_joins :
    let t := after (.ticket 7 (encodeTicket aRaw)) (queued (List.replicate 12 (ticketOf 5)) (inState .running))
    t.host.tx = some ⟨0x81, 7, [0, 13]⟩ ∧ t.tickets.queue.length = 13 := by decide +kernel

/-- Cases b, c and d of the worked cases of R4: the expected length, the tolerance's step and the profile's range. -/
theorem test_ticket_refused :
    (after (.ticket 7 (1 :: List.replicate 49 0)) (inState .running)).host.tx = some ⟨0x81, 7, [2]⟩
    ∧ (after (.ticket 7 (encodeTicket { aRaw with tolerance := 4995 })) (inState .running)).host.tx = some ⟨0x81, 7, [3]⟩
    ∧ (after (.ticket 7 (encodeTicket { aRaw with profile := 20 })) (inState .running)).host.tx = some ⟨0x81, 7, [3]⟩ := by
  decide +kernel

/-- START with the pot cold: WARMING, HEAT_EN and DRIVE_EN on (R103, R121). -/
theorem test_start_warms :
    let s := inState .parked
    let t := after (.start 1 []) { s with glue := { s.glue with cond := .notAtTemp } }
    t.line.state = .warming ∧ t.line.lamps = ⟨true, false, true, true, true⟩ ∧ t.glue.target = .working 170 := by
  decide +kernel

/-- The e-stop faults a moving line, unhomes the carousel and drops TRIM_EN (R118, R119, R121). -/
theorem test_estop :
    let t := after .estopActivated (inState .running)
    t.line.state = .faulted ∧ t.line.cause = some .estop ∧ t.car.state = .unhomed ∧ t.line.lamps.trim = false := by
  decide +kernel

/-- A debounced closing takes three differing readings (R166): contact 8 closes at the third. -/
theorem test_debounce :
    let r := 0x7F0101#64
    let s := inState .running
    let s1 := after (.scanEnd r) (atTime 2 s)
    let s2 := after (.scanEnd r) (atTime 4 s1)
    (s2.scan.contacts[(8 : Fin 64)].closed, s2.scan.contacts[(8 : Fin 64)].count) = (false, 2)
      ∧ (after (.scanEnd r) (atTime 6 s2)).scan.contacts[(8 : Fin 64)].closed = true := by decide +kernel

/-- The loaded book joins its clamp, and the ticket leaves the queue (R63). -/
theorem test_loaded :
    let j := aJob .load none (.load 0x1111 400)
    let s := working j 1
    let t := after (.slotAnswer .loader [(.load, .done (.loaded 18422))] none ⟨false, true⟩)
      (setBook 3 none { s with tickets := ⟨[aTicket, ticketOf 5], true⟩ })
    t.tickets = ⟨[ticketOf 5], false⟩ ∧ (bookIn t 3).map (·.measured) = some 18422 ∧ t.dlv.loaded = 1 := by decide +kernel

/-! ## Forms of hypotheses -/

theorem answersJob {s st j tag slot} (h : s.pins.inReset = false ∧ s.bus.current = some (.poll tag slot)
    ∧ slotNode slot = some (stationNode st) ∧ tag = s.car.tag ∧ s.car.state = .dwelling ∧ jobAt s st = some j
    ∧ (j.status = .issued ∨ j.status = .busy) ∧ j.releaseDone = false
    ∧ ∀ k ∈ s.car.jobs, stationNode k.item.station = stationNode st →
      k.item.station = st ∨ k.status ≠ .issued ∧ k.status ≠ .busy) : AnswersJob s st j tag slot :=
  ⟨h.1, h.2.1, h.2.2.1, h.2.2.2.1, h.2.2.2.2.1, h.2.2.2.2.2.1, h.2.2.2.2.2.2.1, h.2.2.2.2.2.2.2.1, h.2.2.2.2.2.2.2.2⟩

theorem dwellGoesOn {s st} (h : ∃ k ∈ s.car.jobs, k.item.station ≠ st ∧ k.ended = false) : DwellGoesOn s st := h

theorem nothingWaits {b : Bus} (h : b.carQ = [] ∧ b.trimQ = [] ∧ b.coolQ = [] ∧ b.probeQ = []) : NothingWaits b :=
  ⟨h.1, h.2.1, h.2.2.1, h.2.2.2⟩

/-- An answer 0 to 2 ms after the request was sent (R153). -/
theorem answersRequestAt {s n k q} (w : Time) (h : s.pins.inReset = false
    ∧ s.bus.current = some (.request ⟨n, k, some q⟩ false w) ∧ (s.clock - w).toNat ≤ 2
    ∧ present s n = true ∧ s.bus.carQ = [] ∧ s.bus.trimQ = [] ∧ s.bus.coolQ = [] ∧ s.bus.probeQ = []) :
    AnswersRequest s n k q := ⟨h.1, ⟨w, h.2.1, h.2.2.1⟩, h.2.2.2.1, nothingWaits h.2.2.2.2⟩

theorem answersRequest {s n k q} (h : s.pins.inReset = false
    ∧ s.bus.current = some (.request ⟨n, k, some q⟩ false s.clock)
    ∧ present s n = true ∧ s.bus.carQ = [] ∧ s.bus.trimQ = [] ∧ s.bus.coolQ = [] ∧ s.bus.probeQ = []) :
    AnswersRequest s n k q := answersRequestAt s.clock ⟨h.1, h.2.1, by simp, h.2.2⟩

theorem takesRequest {s : State} (h : (s.pins.inReset = false ∧ frameOpen s = false) ∧ overlapped s = false) :
    TakesRequest s := h

theorem idsUnique {s : State} (h : (heldIds s).Nodup ∧ 0 ∉ heldIds s) : IdsUnique s := h

theorem undecided {s : State} (h : s.car.state ≠ .standing ∨ s.car.worked = false) : Undecided s := h

theorem entryClear {s : State} (h : anyGuardOpen s = false ∧ coverEmptyClosed s = false
    ∧ (s.glue.target.isWorking = true → s.glue.outOfBand = false)
    ∧ (s.glue.target.isWorking = false → outOfBandOf s.glue.reading s.settings.workTemp = false)) : EntryClear s :=
  ⟨h.1, h.2.1, h.2.2.1, h.2.2.2⟩

theorem optDimension {lo hi : Nat} {x : Option Nat} (h : optDimOk lo hi x = true) : OptDimension lo hi x := by
  rintro y rfl
  simpa [optDimOk, dimOk, Dimension] using h

theorem profileInRange {p : Profile} (h : p.fields.fixedStep ≤ 15 ∧ p.fields.thinStep ≤ 15 ∧ p.fields.thickStep ≤ 15
    ∧ p.fields.baseStep ≤ 15 ∧ (2000 ≤ p.fields.threshold ∧ p.fields.threshold ≤ 60000 ∧ p.fields.threshold % 10 = 0)
    ∧ (-7 ≤ p.fields.offset ∧ p.fields.offset ≤ 7) ∧ p.fields.sideStep ≤ 15
    ∧ (20 ≤ p.fields.openTime ∧ p.fields.openTime ≤ 150) ∧ (50 ≤ p.fields.coolDwell ∧ p.fields.coolDwell ≤ 1800)) :
    p.InRange :=
  ⟨h.1, h.2.1, h.2.2.1, h.2.2.2.1, h.2.2.2.2.1, h.2.2.2.2.2.1, h.2.2.2.2.2.2.1, h.2.2.2.2.2.2.2.1, h.2.2.2.2.2.2.2.2⟩

theorem settingsInRange {c : Settings} (h : (100 ≤ c.workTemp ∧ c.workTemp ≤ 200) ∧ (10 ≤ c.standbyDrop
    ∧ c.standbyDrop ≤ 80)
    ∧ (10 ≤ c.standbyDelay ∧ c.standbyDelay ≤ 600) ∧ (60 ≤ c.parkDelay ∧ c.parkDelay ≤ 7200)
    ∧ (100 ≤ c.loadWait ∧ c.loadWait ≤ 2000) ∧ c.leadThreshold ≤ 63) : c.InRange :=
  ⟨h.1, h.2.1, h.2.2.1, h.2.2.2.1, h.2.2.2.2.1, h.2.2.2.2.2⟩

theorem trimsInLimits {t : Ticket} (h : t.geometryOk = true) : TrimsInLimits t := by
  simp only [Ticket.geometryOk, trimOk, Bool.and_eq_true, decide_eq_true_eq] at h
  exact ⟨h.1.1, h.1.2, h.2⟩

theorem ticketInRange {r : RawTicket} (h : r.id < 2 ^ 32 ∧ r.blockId < 2 ^ 64 ∧ r.coverId.all (· < 2 ^ 64) = true)
    (h' : r.rangeOk = true) : TicketInRange r := by
  simp only [RawTicket.rangeOk, Bool.and_eq_true, decide_eq_true_eq, dimOk] at h'
  obtain ⟨⟨⟨⟨⟨⟨⟨⟨⟨⟨⟨⟨a, b⟩, c⟩, d⟩, e⟩, f⟩, g⟩, i⟩, j⟩, k⟩, l⟩, m⟩, n⟩ := h'
  refine ⟨h.1, h.2.1, fun x hx => ?_, a, b, c, d, e, f, g, i, optDimension j, k, l, optDimension m, optDimension n⟩
  have := h.2.2
  simpa [hx] using this

/-! ## Witnesses: states and operands that meet the hypotheses of each statement -/

/-- RequestsAnsweredRefusalsChangeNothing. -/
theorem witness_requests_answered : requestOf (.halt 7 []) = some (0x09, 7) ∧ TakesRequest (inState .running) :=
  ⟨rfl, takesRequest (by decide +kernel)⟩

/-- RequestStateAndFormatChecks: STARTING, and a payload of one byte too few. -/
theorem witness_state_and_format : (TakesRequest State.reset ∧ State.reset.line.state = .starting)
    ∧ (TakesRequest (inState .parked) ∧ (inState .parked).line.state ≠ .starting
      ∧ requestOf (.withdraw 1 [0, 0, 0]) = some (0x02, 1) ∧ payloadLength (.withdraw 1 [0, 0, 0]) = some 4
      ∧ (Instr.withdraw 1 [0, 0, 0]).payload.length ≠ 4) :=
  ⟨⟨takesRequest (by decide +kernel), rfl⟩, takesRequest (by decide +kernel), by decide +kernel⟩

/-- TicketPayloadRoundTrip: the fields at their lowest and at their highest values. -/
theorem witness_ticket_in_range : TicketInRange lowRaw ∧ TicketInRange highRaw ∧ TicketInRange aRaw :=
  ⟨ticketInRange (by decide +kernel) (by decide +kernel), ticketInRange (by decide +kernel) (by decide +kernel),
    ticketInRange (by decide +kernel) (by decide +kernel)⟩

/-- A queue of n tickets of other ids. -/
def fill (n : Nat) (s : State) : State := queued ((List.range n).map fun i => ticketOf (BitVec.ofNat 32 (i + 1))) s

/-- TicketJoinsTailOrIsRefused: 63 tickets queued; then each refusal. -/
theorem witness_ticket_joins :
    let s := fill 63 (inState .running)
    TakesRequest s ∧ s.line.state ≠ .starting ∧ TicketInRange aRaw ∧ aRaw.id ≠ 0 ∧ aRaw.toTicket.id ∉ heldIds s
      ∧ s.profiles[aRaw.toTicket.profile].valid = true
      ∧ s.profiles[aRaw.toTicket.profile].fields.family = s.glue.family ∧ TrimsInLimits aRaw.toTicket
      ∧ s.tickets.queue.length < 64 ∧ Undecided s :=
  ⟨takesRequest (by decide +kernel), by decide +kernel, witness_ticket_in_range.2.2, by decide +kernel, by decide +kernel,
    by decide +kernel, by decide +kernel, trimsInLimits (by decide +kernel), by decide +kernel, undecided (by decide +kernel)⟩

theorem witness_ticket_refused :
    let s := fill 64 (inState .running)
    TakesRequest s ∧ s.line.state ≠ .starting ∧ parseTicket [] = none
      ∧ (parseTicket (encodeTicket { aRaw with profile := 16 }) = some { aRaw with profile := 16 }
        ∧ ¬TicketInRange { aRaw with profile := 16 })
      ∧ (parseTicket (encodeTicket { aRaw with id := 0 }) = some { aRaw with id := 0 }
        ∧ TicketInRange { aRaw with id := 0 })
      ∧ ({ aRaw with id := 64 }.toTicket.id ∈ heldIds s ∧ TicketInRange { aRaw with id := 64 })
      ∧ s.profiles[{ aRaw with profile := 1 }.toTicket.profile].valid = false
      ∧ (∀ u, u = { s with glue := { s.glue with family := .pur } } →
        u.profiles[aRaw.toTicket.profile].fields.family ≠ u.glue.family)
      ∧ (TicketInRange { aRaw with trimWidth := 148510 } ∧ ¬TrimsInLimits { aRaw with trimWidth := 148510 }.toTicket)
      ∧ (aRaw.toTicket.id ∉ heldIds s ∧ 64 ≤ s.tickets.queue.length) := by
  refine ⟨takesRequest (by decide +kernel), by decide +kernel, by decide +kernel, ⟨by decide +kernel, fun h => ?_⟩,
    ⟨by decide +kernel, ticketInRange (by decide +kernel) (by decide +kernel)⟩,
    ⟨by decide +kernel, ticketInRange (by decide +kernel) (by decide +kernel)⟩, by decide +kernel, ?_,
    ⟨ticketInRange (by decide +kernel) (by decide +kernel), fun h => ?_⟩, by decide +kernel⟩
  · exact absurd h.profile (by decide)
  · rintro u rfl
    decide +kernel
  · exact absurd h.front (by decide +kernel)

/-- WithdrawRemovesOrRefuses: the only ticket, the count falling to a threshold of 0; then the three refusals. -/
theorem witness_withdraw :
    let s := queued [aTicket] (inState .running)
    let u := { s with settings := { s.settings with leadThreshold := 0 } }
    (TakesRequest u ∧ u.line.state ≠ .starting ∧ IdsUnique u ∧ 815 ∈ queueIds u ∧ reservedHead 815 u = false
      ∧ u.settings.leadThreshold = u.tickets.queue.length - 1 ∧ s.settings.leadThreshold ≠ s.tickets.queue.length - 1)
      ∧ (({ s with tickets := ⟨[aTicket], true⟩ } : State).tickets.queue.head?.map (·.id) = some 815)
      ∧ (IdsUnique (setBook 3 (some (aBook 3)) (inState .running))
        ∧ 815 ∈ heldIds (setBook 3 (some (aBook 3)) (inState .running))
        ∧ 815 ∉ queueIds (setBook 3 (some (aBook 3)) (inState .running)))
      ∧ 814 ∉ heldIds s :=
  ⟨⟨takesRequest (by decide +kernel), by decide +kernel, idsUnique (by decide +kernel), by decide +kernel⟩,
    by decide +kernel, ⟨idsUnique (by decide +kernel), by decide +kernel⟩, by decide +kernel⟩

/-- ProfilePutChecksAndReplaces: profile 0 free, and locked by a queued ticket against an entry that is not valid. -/
theorem witness_profile_put :
    let s := queued [aTicket] (inState .running)
    TakesRequest (inState .running) ∧ (Profile.mk true aProfile).InRange ∧ (Profile.mk false aProfile).InRange
      ∧ (inState .running).tickets.queue = [] ∧ (TakesRequest s ∧ ∃ t ∈ s.tickets.queue, t.profile = 0)
      ∧ (List.replicate 17 (255 : Byte)).length = 17 :=
  ⟨takesRequest (by decide +kernel), profileInRange (by decide +kernel), profileInRange (by decide +kernel), rfl,
    ⟨takesRequest (by decide +kernel), by decide +kernel⟩, rfl⟩

/-- ProfileAndClampGetShowTables: numbers 15 and 16, 19 and 20; phase known and unknown; a loaded clamp. -/
theorem witness_gets :
    let s := setBook 3 (some (aBook 3)) (inState .running)
    TakesRequest s ∧ TakesRequest State.reset ∧ (15 : Byte).toNat = (15 : Fin 16).val ∧ 16 ≤ (16 : Byte).toNat
      ∧ s.profiles[(15 : Fin 16)].InRange ∧ (19 : Byte).toNat = (19 : Fin 20).val ∧ 20 ≤ (20 : Byte).toNat
      ∧ (-500 ≤ (clampRec (setClamp 19 ⟨.suspect, 500, none⟩ s) 19).zero
        ∧ (clampRec (setClamp 19 ⟨.suspect, 500, none⟩ s) 19).zero ≤ 500)
      ∧ (s.car.phaseKnown = true ∧ s.car.phase = some 7 ∧ bookIn s 3 = some (aBook 3) ∧ bookIn s 19 = none)
      ∧ State.reset.car.phaseKnown = false :=
  ⟨takesRequest (by decide +kernel), takesRequest (by decide +kernel), by decide, by decide,
    profileInRange (by decide +kernel), by decide, by decide, by decide +kernel, by decide +kernel, by decide +kernel⟩

/-- ClampPutChecksAndReplaces: offsets at both ends; a loaded clamp whose offset would change; bytes out of range. -/
theorem witness_clamp_put :
    let s := setBook 3 (some (aBook 3)) (inState .running)
    TakesRequest s ∧ s.line.state ≠ .starting ∧ Undecided s
      ∧ ((bookIn s 3).isSome = true ∧ (500 : Int) ≠ (clampRec s 3).zero) ∧ (bookIn s 4).isSome = false
      ∧ (19 < (20 : Byte).toNat ∧ 3 < (4 : Byte).toNat ∧ 1 < (2 : Byte).toNat
        ∧ (0xFE#8 ++ 0x0B#8).toInt < -500 ∧ 500 < (0x01#8 ++ 0xF5#8).toInt) :=
  ⟨takesRequest (by decide +kernel), by decide +kernel, undecided (by decide +kernel), by decide +kernel, by decide +kernel,
    by decide +kernel⟩

/-- SettingsAndFamilyRequests: settings at their lowest and highest values; the family's byte 1 and 2. -/
theorem witness_settings :
    TakesRequest (inState .parked) ∧ (inState .parked).line.state = .parked ∧ (inState .parked).tickets.queue = []
      ∧ (⟨100, 10, 10, 60, 100, 0, false⟩ : Settings).InRange ∧ (⟨200, 80, 600, 7200, 2000, 63, true⟩ : Settings).InRange
      ∧ (inState .parked).settings.InRange ∧ (inState .parked).settings.workTemp = 170
      ∧ (List.replicate 10 (0 : Byte)).length = 10 ∧ (1 : Byte).toNat ≤ 1 ∧ 1 < (2 : Byte).toNat
      ∧ (queued [aTicket] (inState .parked)).tickets.queue ≠ [] :=
  ⟨takesRequest (by decide +kernel), rfl, rfl, settingsInRange (by decide +kernel), settingsInRange (by decide +kernel),
    settingsInRange (by decide +kernel), by decide +kernel⟩

/-- NodesAndContactsShowTables and StatusShowsPart. -/
theorem witness_tables :
    let s := inState .running
    TakesRequest s ∧ (∀ i : Fin 9, s.bus.nodes[i].misses ≤ 3 ∧ s.bus.nodes[i].restarts ≤ 255)
      ∧ (∀ i : Fin 64, s.scan.contacts[i].count ≤ 2) ∧ (∀ t, s.glue.reading = some t → t ≤ 300)
      ∧ (∀ w, s.glue.target = .working w ∨ s.glue.target = .standby w → w ≤ 200) ∧ s.tickets.queue.length ≤ 64
      ∧ s.cover.entries.length ≤ 3 ∧ s.dlv.cooling.length ≤ 40 ∧ s.dlv.done.length ≤ 32 ∧ s.car.diverts ≤ 3 := by
  refine ⟨takesRequest (by decide +kernel), by decide +kernel, by decide +kernel, ?_, ?_, by decide +kernel⟩
  · intro t h
    have : (inState .running).glue.reading = some 170 := rfl
    simp_all
    omega
  · intro w h
    have : (inState .running).glue.target = .working 170 := rfl
    simp_all
    omega

/-- A part with one id in every holder. -/
def everywhere : State :=
  let s := setBook 3 (some (bookOf 3)) (queued [ticketOf 1, ticketOf 2] (inState .running))
  { s with dlv := { s.dlv with cooling := [bookOf 4], done := [bookOf 6] }, trim := { s.trim with held := .inside (bookOf 5) } }

/-- TraceFindsHolder. -/
theorem witness_trace : TakesRequest everywhere ∧ IdsUnique everywhere ∧ 7 ∉ heldIds everywhere
    ∧ (everywhere.tickets.queue[1]?.map (·.id)) = some 2 ∧ (bookIn everywhere 3).map (·.ticket.id) = some 3
    ∧ (everywhere.dlv.cooling[0]?.map (·.ticket.id)) = some 4 ∧ (heldBook everywhere).map (·.ticket.id) = some 5
    ∧ (everywhere.dlv.done[0]?.map (·.ticket.id)) = some 6 ∧ everywhere.car.phaseKnown = true :=
  ⟨takesRequest (by decide +kernel), idsUnique (by decide +kernel), by decide +kernel⟩

/-- A done list of n records. -/
def doneList (n : Nat) (s : State) : State :=
  { s with dlv := { s.dlv with done := (List.range n).map fun i => bookOf (BitVec.ofNat 32 (100 + i)) } }

/-- CollectTakesOldestRecords: 0, 1, 8 and 9 records asked; an empty and a full list. -/
theorem witness_collect : TakesRequest (doneList 32 (inState .running)) ∧ TakesRequest (inState .running)
    ∧ (inState .running).dlv.done = [] ∧ (doneList 32 (inState .running)).dlv.waiters = []
    ∧ (0 : Byte).toNat = 0 ∧ 8 < (9 : Byte).toNat ∧ 1 ≤ (1 : Byte).toNat ∧ (8 : Byte).toNat ≤ 8 :=
  ⟨takesRequest (by decide +kernel), takesRequest (by decide +kernel), by decide +kernel⟩

/-- A full done list, and three records that wait for room: the trimmer's, a clamp's and the cooling head. -/
def waitingThree : State :=
  let s := setBook 3 (some (bookOf 3)) (doneList 32 (inState .running))
  { s with
    dlv := { s.dlv with cooling := [bookOf 4, bookOf 5], gate := .waitingRoom, waiters := [.trimmer, .clamp 3, .cooling] }
    trim := { s.trim with state := .eject, held := .out (bookOf 6) } }

/-- CollectTakesOldestRecords: room for the first of three waiting records, and for all three. -/
theorem witness_collect_waiters : TakesRequest waitingThree ∧ waitingThree.dlv.done ≠ [] ∧ waitingThree.dlv.waiters.Nodup
    ∧ (∀ h ∈ waitingThree.dlv.waiters, waitingRecord waitingThree h ≠ none) ∧ present waitingThree .drive = true
    ∧ min waitingThree.dlv.waiters.length (32 - (waitingThree.dlv.done.drop 1).length) = 1
    ∧ min waitingThree.dlv.waiters.length (32 - (waitingThree.dlv.done.drop 3).length) = 3 :=
  ⟨takesRequest (by decide +kernel), by decide +kernel⟩

/-- DoneRecordLayout: the book of case A, and a book with no setpoints. -/
theorem witness_done_record : (-500 ≤ (aBook 3).measured ∧ (aBook 3).measured ≤ 66035)
    ∧ (Profile.mk true (aBook 3).snapshot).InRange
    ∧ (aBook 3).settleTime = none ∧ (aBook 3).setpoints = some ⟨8, false, 19542, 155230, 174770, some (147230, 182770)⟩
    ∧ (loadedBook aTicket aProfile 3 65535 (-500) 0).measured = 66035
    ∧ (loadedBook aTicket aProfile 3 65535 (-500) 0).setpoints = none :=
  ⟨by decide +kernel, profileInRange (by decide +kernel), by decide +kernel, by decide +kernel, by decide +kernel,
    by decide +kernel⟩

/-- A request pending behind a frame on the line, with n tags owed a BUSY. -/
def owing (n : Nat) : State :=
  { inState .running with host := { HostLink.afterReset with
    tx := some ⟨0x41, 0, [3]⟩, request := some ⟨0x08, 1, some [0]⟩, owed := List.replicate n ⟨0x09, 2, .busy⟩ } }

/-- The same with a STORE whose save runs in place of the pending request, and the line free. -/
def saveOwing (n : Nat) : State :=
  { owing n with host := { (owing n).host with tx := none, request := some ⟨0x15, 1, none⟩ } }

theorem hears {s : State} (h : s.pins.inReset = false ∧ frameOpen s = false) : Hears s := h

/-- OverlappedAndUnknownKinds: 7 and 8 tags owed behind a frame and behind a save; the kinds 0 and 0x17. -/
theorem witness_overlapped :
    (∀ n ∈ [7, 8], Hears (owing n) ∧ overlapped (owing n) = true ∧ OwedWaits (owing n).host
      ∧ Hears (saveOwing n) ∧ overlapped (saveOwing n) = true ∧ OwedWaits (saveOwing n).host)
    ∧ busyOwed (owing 7).host < 8 ∧ 8 ≤ busyOwed (owing 8).host ∧ busyOwed (saveOwing 7).host < 8
    ∧ 8 ≤ busyOwed (saveOwing 8).host
    ∧ isRequestKind 0x17 = false ∧ (0x00 : Byte).toNat = 0 ∧ 0x16 < (0x17 : Byte).toNat
      ∧ TakesRequest (inState .running) := by
  refine ⟨fun n h => ?_, by decide +kernel, by decide +kernel, by decide +kernel, by decide +kernel, by decide, by decide,
    by decide, takesRequest (by decide +kernel)⟩
  refine ⟨hears ?_, ?_, Or.inl (Option.some_ne_none _), hears ?_, ?_, Or.inr ⟨⟨0x15, 1, rfl⟩, rfl, rfl, rfl, rfl⟩⟩ <;>
    (revert n; decide +kernel)

/-- A report on the line with what waits behind it. -/
def sending (h : HostLink) : State := { inState .running with host := { h with tx := some ⟨0x41, 0, [3]⟩ } }

/-- TransmitOrder: a frame on the line, and behind it a reply, an owed reply, each report, and nothing. -/
theorem witness_transmit : (sending .afterReset).pins.inReset = false
    ∧ (sending .afterReset).host.tx = some ⟨0x41, 0, [3]⟩
    ∧ (owing 1).host.request = some ⟨0x08, 1, some [0]⟩
    ∧ (sending { HostLink.afterReset with owed := [⟨9, 2, .busy⟩] }).host.owed = [⟨9, 2, .busy⟩]
    ∧ (sending { HostLink.afterReset with notice := some (.estop, 0) }).host.notice = some (.estop, 0)
    ∧ (sending { HostLink.afterReset with request := some ⟨0x15, 1, none⟩ }).host.request = some ⟨0x15, 1, none⟩
    ∧ (sending { HostLink.afterReset with stateRep := some .running }).host.stateRep = some .running
    ∧ (sending { HostLink.afterReset with doneReady := some 1 }).host.doneReady = some 1
    ∧ (sending { HostLink.afterReset with ticketsLow := some 8 }).host.ticketsLow = some 8 := by decide +kernel

/-- A frame begun at time 0. -/
def begunAt0 (n : Time) : State := atTime n { inState .running with host := { HostLink.afterReset with rx := [0xA5] } }

/-- BadFramesDiscarded: a whole frame of no payload, a length of 481, a frame left begun; gaps of 11 and 10 ms. -/
theorem witness_bad_frames : (inState .running).host.rx = [] ∧ (0xA5 : Byte) ∉ [(0 : Byte), 1]
    ∧ [(0 : Byte), 0].length = (0 : Byte).toNat + 256 * (0 : Byte).toNat + 2
    ∧ 480 < (0xE1 : Byte).toNat + 256 * (0x01 : Byte).toNat ∧ (0xE0 : Byte).toNat + 256 * (0x01 : Byte).toNat ≤ 480
    ∧ ([] : List Byte).length < (0 : Byte).toNat + 256 * (0 : Byte).toNat + 4
    ∧ (10 < ((begunAt0 11).clock - (begunAt0 11).host.rxTime).toNat ∧ (begunAt0 11).host.rx ≠ [])
    ∧ ((begunAt0 10).clock - (begunAt0 10).host.rxTime).toNat ≤ 10 := by decide +kernel

/-- The frame of a START. -/
def startFrame : HostFrame := ⟨0x08, 1, []⟩

/-- BadFramesDiscarded: the last bytes of a START arrive into its begun frame; a frame open at 10 ms and not at 11; the
smallest incomplete beginnings, and a whole frame one bit wrong. -/
theorem witness_good_frames :
    (requestFrame (.start 1 []) = some startFrame ∧ startFrame.payload.length ≤ 480
      ∧ startFrame.bytes = startFrame.bytes.take 3 ++ startFrame.bytes.drop 3)
    ∧ (frameOpen (begunAt0 10) = true ∧ frameOpen (begunAt0 11) = false ∧ (begunAt0 10).pins.inReset = false)
    ∧ ([] : List Byte) ++ [0xA5] = [0xA5]
    ∧ leNat ([0x00#8, 0x01, 0x00, 0x01, 0x02].drop 3) ≠ crc16 [0x00, 0x00, 0x08, 0x01] := by decide +kernel

/-- A START that follows a stray byte is taken, and so is one whose bytes come in two parts. -/
theorem test_good_frame_taken :
    (after (.badFrameDiscard (0 :: startFrame.bytes)) (inState .parked)).line.state = .running
    ∧ (after (.badFrameDiscard (startFrame.bytes.drop 3))
        (after (.badFrameDiscard (startFrame.bytes.take 3)) (inState .parked))).line.state = .running
    ∧ (after (.badFrameDiscard (startFrame.bytes.modify 6 (· ^^^ 1))) (inState .parked)).line.state = .parked := by
  decide +kernel

/-- The tables of a part at its defaults. -/
def aBody : List Byte := imageBody defaultProfiles Carousel.afterReset.clamps .default .hotmelt

/-- The CRC-32 of bytes, each intermediate value computed before the next byte is taken. -/
def crcForced (c : Nat) : List Byte → Nat
  | [] => c
  | b :: bs =>
    match Nat.beq (crc32Bit^[8] (c ^^^ b.toNat)) 0 with
    | true => crcForced (crc32Bit^[8] (c ^^^ b.toNat)) bs
    | false => crcForced (crc32Bit^[8] (c ^^^ b.toNat)) bs

theorem crcForced_eq (bs : List Byte) (c : Nat) :
    crcForced c bs = bs.foldl (fun c b => crc32Bit^[8] (c ^^^ b.toNat)) c := by
  induction bs generalizing c with
  | nil => rfl
  | cons b bs ih =>
    unfold crcForced
    split <;> exact ih _

/-- The image of those tables: the body and its CRC-32. -/
def anImage : List Byte := aBody ++ leBytes 4 1562582050

theorem crc32_eq (bs : List Byte) : crc32 bs = crcForced 0xFFFFFFFF bs ^^^ 0xFFFFFFFF := by
  rw [crcForced_eq]
  rfl

theorem forced_crc : crcForced 0xFFFFFFFF aBody ^^^ 0xFFFFFFFF = 1562582050 := by decide +kernel

theorem test_image_crc : crc32 aBody = 1562582050 := (crc32_eq aBody).trans forced_crc

theorem test_image_good : imageGood anImage = true := by
  have h : anImage.take imageBodyLength = aBody := by decide +kernel
  unfold imageGood
  rw [h, test_image_crc]
  decide +kernel

/-- A save in progress with its STORE pending. -/
def saving : State :=
  let s := inState .parked
  { s with store := ⟨[], false, some anImage⟩, host := { s.host with request := some ⟨0x15, 4, none⟩ } }

/-- StoreSavesCopy. -/
theorem witness_store : TakesRequest (inState .parked) ∧ (inState .parked).line.state ≠ .starting
    ∧ saving.pins.inReset = false ∧ saving.store.saving = some anImage ∧ saving.host.request = some ⟨0x15, 4, none⟩ :=
  ⟨takesRequest (by decide +kernel), by decide +kernel, rfl, rfl, rfl⟩

/-- ImageRoundTrip. -/
theorem witness_image : (∀ i : Fin 16, defaultProfiles[i].InRange)
    ∧ (∀ i : Fin 20, -500 ≤ Carousel.afterReset.clamps[i].zero ∧ Carousel.afterReset.clamps[i].zero ≤ 500)
    ∧ Settings.default.InRange := by
  refine ⟨fun i => profileInRange ?_, by decide +kernel, settingsInRange (by decide +kernel)⟩
  revert i
  decide +kernel

/-- StoreLoadTakesImageOrDefaults: a blank image and a good one, the probes ended and not. -/
theorem witness_store_load : (State.reset.pins.inReset = false ∧ State.reset.line.state = .starting
      ∧ State.reset.line.loadDone = false ∧ imageGood State.reset.store.image = false)
    ∧ imageGood anImage = true ∧ State.reset.line.probesDone = false :=
  ⟨by decide +kernel, test_image_good, rfl⟩

/-- A RESET taken, its reply sent. -/
def resetting : State := { inState .parked with host := { HostLink.afterReset with resetTaken := true } }

/-- ResetRequestAndBegin: taken at once, taken under the overlap rule, and the reset ready and not ready to begin. -/
theorem witness_reset : TakesRequest (inState .parked)
    ∧ (Hears (owing 0) ∧ overlapped (owing 0) = true ∧ OwedWaits (owing 0).host)
    ∧ (Hears resetting ∧ resetting.host.resetTaken = true ∧ resetting.host.request = none
      ∧ resetting.host.owed = [] ∧ resetting.host.tx = none
      ∧ resetting.store.saving = none) ∧ (inState .parked).host.resetTaken = false :=
  ⟨takesRequest (by decide +kernel), ⟨hears (by decide +kernel), by decide +kernel, Or.inl (Option.some_ne_none _)⟩,
    ⟨hears (by decide +kernel), by decide +kernel⟩, rfl⟩

/-- ResetLineAndEstopAtReset: a part in reset and one that is not. -/
theorem witness_reset_line : (inState .running).pins.inReset = false
    ∧ (after .resetLineLow (inState .running)).pins.inReset = true
    ∧ (after (.resetLineHigh .low .high true) (after .resetLineLow (inState .running))).line.estopLatch = true := by
  decide +kernel

/-- A part with a cold pot. -/
def cold (s : State) : State := { s with glue := { s.glue with cond := .notAtTemp } }

/-- StartChecksAndWarms: each refusal, a cold pot, and a hot one whose entry tests pass and fail. -/
theorem witness_start :
    (∀ n, present (inState .parked) n = true) ∧ TakesRequest (inState .parked)
      ∧ ((cold (inState .parked)).glue.cond ≠ .atTemp ∧ (inState .parked).glue.target.isWorking = false)
      ∧ EntryClear (inState .parked) ∧ TakesRequest State.reset
      ∧ ({ inState .parked with pins := ⟨.low, .low, true, 0, false⟩ } : State).pins.estopActive = true
      ∧ present (setNode .trimmer NodeRec.afterReset (inState .standby)) .trimmer = false
      ∧ (anyGuardOpen { inState .parked with scan := Scanner.afterReset } = true
        ∧ (car .unhomed (inState .parked)).car.state = .unhomed) := by
  refine ⟨fun n => by cases n <;> decide +kernel, takesRequest (by decide +kernel), by decide +kernel,
    entryClear (by decide +kernel), takesRequest (by decide +kernel), by decide +kernel, by decide +kernel, by decide +kernel⟩

/-- A line with a book in a clamp. -/
def loadedLine (l : LineState) : State := setBook 3 (some (aBook 3)) (inState l)

/-- A line HELD on a guard, going back to a state. -/
def heldOn (r : ReturnState) (s : State) : State :=
  { s with line := { s.line with state := .held, returnState := r, holds := { Holds.empty with guardOpen := true } } }

/-- HaltByLineState: RUNNING standing with a book; with a guard open; indexing; HELD with and without the resume
conditions. -/
theorem witness_halt :
    (TakesRequest (loadedLine .running) ∧ (loadedLine .running).car.state = .standing ∧ EntryClear (loadedLine .running)
      ∧ anyLoaded (loadedLine .running) = true ∧ present (loadedLine .running) .drive = true)
    ∧ anyGuardOpen { loadedLine .running with scan := Scanner.afterReset } = true
    ∧ (car .indexing (loadedLine .running)).car.state ≠ .standing
    ∧ (resumeConditions (heldOn .running (loadedLine .running)) = true
      ∧ EntryClear (heldOn .running (loadedLine .running)))
    ∧ resumeConditions { heldOn .running (loadedLine .running) with scan := Scanner.afterReset } = false
    ∧ (heldOn .draining (loadedLine .running)).line.returnState = .draining :=
  ⟨⟨takesRequest (by decide +kernel), rfl, entryClear (by decide +kernel), by decide +kernel⟩, by decide +kernel,
    by decide +kernel, ⟨by decide +kernel, entryClear (by decide +kernel)⟩, by decide +kernel, rfl⟩

/-- HoldByLineState: standing, UNHOMED, indexing and HELD, and a state that refuses. -/
theorem witness_hold : TakesRequest (inState .running) ∧ TakesRequest (inState .draining)
    ∧ (car .unhomed (inState .running)).car.state = .unhomed ∧ (car .indexing (inState .running)).car.state = .indexing
    ∧ TakesRequest (heldOn .running (inState .running)) ∧ TakesRequest (inState .warming) :=
  ⟨takesRequest (by decide +kernel), takesRequest (by decide +kernel), rfl, rfl, takesRequest (by decide +kernel),
    takesRequest (by decide +kernel)⟩

/-- ResumeByLineState: HELD, a hold waiting in an index, and the refusals. -/
theorem witness_resume :
    let h := heldOn .draining (loadedLine .running)
    let w := car .indexing { heldOn .running (loadedLine .running) with
      line := { (heldOn .running (loadedLine .running)).line with state := .running } }
    (TakesRequest h ∧ h.line.state = .held ∧ (anyGuardOpen h = false ∧ coverEmptyClosed h = false
      ∧ (h.line.holds.glueTemp = true → h.glue.cond = .atTemp)) ∧ EntryClear h ∧ present h .drive = true
      ∧ anyLoaded h = true)
    ∧ (TakesRequest w ∧ w.line.state = .running ∧ w.line.holds.any = true ∧ Undecided w)
    ∧ anyGuardOpen { h with scan := Scanner.afterReset } = true ∧ (inState .parked).line.state ≠ .held :=
  ⟨⟨takesRequest (by decide +kernel), rfl, by decide +kernel, entryClear (by decide +kernel), by decide +kernel⟩,
    ⟨takesRequest (by decide +kernel), rfl, by decide +kernel, undecided (by decide +kernel)⟩, by decide +kernel,
    by decide +kernel⟩

/-- ParkByLineState: STANDBY, HELD empty, DRAINING empty in an index, HELD with a book. -/
theorem witness_park : TakesRequest (inState .standby) ∧ TakesRequest (heldOn .draining (inState .running))
    ∧ anyLoaded (heldOn .draining (inState .running)) = false
    ∧ ((car .indexing (inState .draining)).line.state = .draining ∧ anyLoaded (car .indexing (inState .draining)) = false
      ∧ (car .indexing (inState .draining)).car.state ≠ .standing)
    ∧ anyLoaded (heldOn .running (loadedLine .running)) = true :=
  ⟨takesRequest (by decide +kernel), takesRequest (by decide +kernel), by decide +kernel, by decide +kernel, by decide +kernel⟩

/-- ClearLineDrainsOrParks: FAULTED with and without a book (rejected, as a fault leaves it), a node away, an open guard. -/
theorem witness_clear_line :
    let s := faulted .indexTimeout
    let b := setBook 3 (some { aBook 3 with reason := some .fault }) s
    (TakesRequest s ∧ s.line.state = .faulted ∧ s.pins.estopActive = false ∧ anyGuardOpen s = false
      ∧ ∀ n, present s n = true)
    ∧ (anyLoaded s = false ∧ anyLoaded b = true ∧ anyUnrejected b = false ∧ coverEmptyClosed b = false)
    ∧ present (setNode .mill NodeRec.afterReset s) .mill = false
    ∧ anyGuardOpen { s with scan := Scanner.afterReset } = true ∧ 1 < (2 : Byte).toNat :=
  ⟨⟨takesRequest (by decide +kernel), rfl, by decide +kernel, by decide +kernel, fun n => by cases n <;> decide +kernel⟩,
    by decide +kernel, by decide +kernel, by decide +kernel, by decide⟩

/-- LoadFieldsFollowSixSteps: measured thicknesses of 999, 1,000, 62,000 and 62,001 micrometres. -/
theorem witness_load_fields : ((999 : BitVec 16).toNat : Int) - 0 < 1000 ∧ (1000 : Int) ≤ (1000 : BitVec 16).toNat - 0
    ∧ ((61500 : BitVec 16).toNat : Int) - (-500) ≤ 62000 ∧ (62000 : Int) < (62501 : BitVec 16).toNat - 500 := by decide

/-- The load job of the head ticket in clamp 3. -/
def aLoad : Job := aJob .load none (.load 0x1111 400)

/-- A dwell with the load job in flight and the head ticket reserved. -/
def loading : State := setBook 3 none { working aLoad 1 with tickets := ⟨[aTicket], true⟩ }

/-- LoadedMakesBookRecord and LoadWithoutBook. -/
theorem witness_load : AnswersJob loading .load aLoad 9 1 ∧ DwellGoesOn loading .load
    ∧ aLoad.item.params = .load 0x1111 400 ∧ loading.tickets.queue = aTicket :: []
      ∧ bookIn loading aLoad.item.clamp = none
    ∧ loading.car.diverts ≤ 2 ∧ ({ loading with car := { loading.car with diverts := 2 } } : State).car.diverts ≤ 2
    ∧ ({ loading with settings := { loading.settings with leadThreshold := 0 } } : State).settings.leadThreshold
      = ([] : List Ticket).length :=
  ⟨answersJob (by decide +kernel), dwellGoesOn (by decide +kernel), rfl, rfl, by decide +kernel, by decide +kernel,
    by decide +kernel, rfl⟩

/-- ZeroLearningMovesOffset: readings of 800 and 801 either way. -/
theorem witness_learning :
    let j := aJob .load none .learn
    let s := setBook 3 none (working j 1)
    AnswersJob s .load j 9 1 ∧ DwellGoesOn s .load ∧ j.item.params = .learn ∧ (0x0320 : BitVec 16).toInt ≤ 800
      ∧ -800 ≤ (0xFCE0 : BitVec 16).toInt ∧ (0xFCDF : BitVec 16).toInt < -800 ∧ 800 < (0x0321 : BitVec 16).toInt :=
  ⟨answersJob (by decide +kernel), dwellGoesOn (by decide +kernel), rfl, by decide +kernel⟩

/-- StationJobsEnd: a job of each station in its node's slot. -/
theorem witness_stations :
    (∀ j, j = aJob .mill (some 815) (.mill 1500) → AnswersJob (working j 2) .mill j 9 2 ∧ DwellGoesOn (working j 2) .mill)
    ∧ (∀ j, j = aJob .spine (some 815) (.spine (some 8)) →
      AnswersJob (working j 3) .spine j 9 3 ∧ DwellGoesOn (working j 3) .spine)
    ∧ (∀ j, j = aJob .side (some 815) (.side 5000 4) →
      AnswersJob (working j 3) .side j 9 3 ∧ DwellGoesOn (working j 3) .side)
    ∧ (∀ j, j = aJob .apply (some 815) (.apply .apply) →
      AnswersJob (working j 4) .apply j 9 4 ∧ DwellGoesOn (working j 4) .apply)
    ∧ (∀ j, j = aJob .nip (some 815) (.nip (some 19542)) →
      AnswersJob (working j 5) .nip j 9 5 ∧ DwellGoesOn (working j 5) .nip) := by
  refine ⟨?_, ?_, ?_, ?_, ?_⟩ <;> rintro j rfl <;> exact ⟨answersJob (by decide +kernel), dwellGoesOn (by decide +kernel)⟩

/-- The release job of clamp 3. -/
def aRelease : Job := aJob .release (some 815) .release

/-- StationJobsEnd: a new restart mark with a release under way and with one whose DONE is taken. -/
theorem witness_slot_restart : ∀ k ∈ [aRelease, { aRelease with status := .busy, releaseDone := true }],
    (working k 6).pins.inReset = false ∧ (working k 6).bus.current = some (.poll 9 6) ∧ slotNode 6 = some .release
      ∧ (working k 6).car.state = .dwelling ∧ (nodeRec (working k 6) .release).ackPending = false
      ∧ (∃ x ∈ (working k 6).car.jobs, stationNode x.item.station ≠ .release ∧ x.ended = false)
      ∧ jobAt (working k 6) .release = some k ∧ k.ended = false := by decide +kernel

/-- The mill's job, issued and BUSY, and a dwell with it and a repeat WORK for it that waits. -/
def aMill : Job := aJob .mill (some 815) (.mill 1500)
def busyMill : Job := { aMill with status := .busy }
def repeating : State :=
  { working aMill 2 with bus := { (working aMill 2).bus with carQ := [.work 9 [aMill.item] true] } }

/-- StationJobsEnd: a job not spoken of while it is ISSUED, with a repeat WORK waiting and with none, and while it is BUSY. -/
theorem witness_no_job :
    (AnswersJob (working aMill 2) .mill aMill 9 2 ∧ DwellGoesOn (working aMill 2) .mill ∧ (working aMill 2).bus.carQ = [])
    ∧ (AnswersJob repeating .mill aMill 9 2 ∧ DwellGoesOn repeating .mill
      ∧ .work 9 [aMill.item] true ∈ repeating.bus.carQ)
    ∧ (AnswersJob (working busyMill 2) .mill busyMill 9 2 ∧ DwellGoesOn (working busyMill 2) .mill) :=
  ⟨⟨answersJob (by decide +kernel), dwellGoesOn (by decide +kernel), rfl⟩,
    ⟨answersJob (by decide +kernel), dwellGoesOn (by decide +kernel), by decide +kernel⟩,
    answersJob (by decide +kernel), dwellGoesOn (by decide +kernel)⟩

/-- DrawOutcomes: one attempt of one allowed, two of two. -/
theorem witness_draw :
    let j := aJob .draw (some 815) (.draw .keep (some 0x2222) 2 none)
    AnswersJob (working j 4) .draw j 9 4 ∧ DwellGoesOn (working j 4) .draw ∧ [Attempt.unreadable, .hit] ≠ []
      ∧ [Attempt.unreadable, .hit].length ≤ 2 ∧ [Attempt.unreadable, .hit].getLast? = some .hit
      ∧ [Attempt.unreadable, .unreadable].getLast? ≠ some .hit :=
  ⟨answersJob (by decide +kernel), dwellGoesOn (by decide +kernel), by decide⟩

/-- DrawOutcomes: a FAILED draw whose one attempt brings the count to 1 and to 2, one with no attempt, and a DONE with none
and with one attempt too many. -/
theorem witness_draw_failed :
    let j := aJob .draw (some 815) (.draw .divert none 2 none)
    let s := fun m => { working j 4 with cover := { (working j 4).cover with mismatch := m } }
    let counts := fun (m : Nat) (l : List Attempt) => l.foldl (fun n a => if a = .hit then 0 else min 2 (n + 1)) m
    (AnswersJob (s 0) .draw j 9 4 ∧ DwellGoesOn (s 0) .draw) ∧ (AnswersJob (s 1) .draw j 9 4 ∧ DwellGoesOn (s 1) .draw)
      ∧ counts 0 [.unreadable] = 1 ∧ counts 1 [.unreadable] = 2 ∧ counts 1 [] = 1 ∧ counts 1 [.unreadable, .hit] = 0
      ∧ 2 < [Attempt.hit, .hit, .hit].length :=
  ⟨⟨answersJob (by decide +kernel), dwellGoesOn (by decide +kernel)⟩,
    ⟨answersJob (by decide +kernel), dwellGoesOn (by decide +kernel)⟩, by decide⟩

/-- A dwell with a drop watched since 0, at a time, with n records done. -/
def dropping (now : Time) (n : Nat) : State :=
  let s := doneList n (atTime now (working aRelease 6))
  { s with dlv := { s.dlv with dropWatch := .opened 3 0 } }

/-- ReleaseOpensDropWatch: the window at 299 and at 300 ms, the done list with room for one and full. -/
theorem witness_release :
    (AnswersJob (working aRelease 6) .release aRelease 9 6 ∧ DwellGoesOn (working aRelease 6) .release
      ∧ bookIn (working aRelease 6) 3 = some (aBook 3))
    ∧ ((dropping 299 0).clock - 0).toNat < 300 ∧ 300 ≤ ((dropping 300 31).clock - 0).toNat
    ∧ (dropping 300 31).dlv.done.length < 32 ∧ 32 ≤ (dropping 300 32).dlv.done.length
    ∧ bookIn (dropping 300 31) 3 = some (aBook 3) ∧ (dropping 300 32).car.state = .dwelling :=
  ⟨⟨answersJob (by decide +kernel), dwellGoesOn (by decide +kernel), by decide +kernel⟩, by decide +kernel⟩

/-- ReleaseOpensDropWatch: a FAILED release with an early drop, its station's count at 0 and at 1. -/
theorem witness_release_failed :
    (∀ n ≤ 1, ∀ s, s = setOverrun .release n (working aRelease 6) →
      AnswersJob s .release aRelease 9 6 ∧ DwellGoesOn s .release ∧ overrunCount s .release = n)
    ∧ (∀ s, s = { working aRelease 6 with dlv := { (working aRelease 6).dlv with dropWatch := .early } } →
      AnswersJob s .release aRelease 9 6 ∧ DwellGoesOn s .release ∧ s.dlv.dropWatch = .early) := by
  refine ⟨fun n h s e => ?_, fun s e => ?_⟩ <;> subst e
  · obtain rfl | rfl : n = 0 ∨ n = 1 := by omega
    all_goals exact ⟨answersJob (by decide +kernel), dwellGoesOn (by decide +kernel), by decide +kernel⟩
  · exact ⟨answersJob (by decide +kernel), dwellGoesOn (by decide +kernel), rfl⟩

theorem handsChange {s r i closing} (h : s.pins.inReset = false ∧ 2 ≤ (s.clock - s.scan.scanBase).toNat
    ∧ s.scan.firstScan = false
    ∧ handedChanges false s.scan.contacts (scanPass false r (List.finRange 64) s.scan.contacts) = [(i, closing)]
    ∧ ∀ k ∈ guards, (scanPass false r (List.finRange 64) s.scan.contacts)[k].uncertain = true →
      s.scan.contacts[k].uncertain = true) : HandsChange s r i closing :=
  ⟨h.1, h.2.1, h.2.2.1, h.2.2.2.1, h.2.2.2.2⟩

/-- A contact about to close or open on its third reading, at the next scan. -/
def ripe (i : Fin 64) (closing : Bool) (s : State) : State :=
  let v := s.scan.contacts.set 0 ⟨some false, false, 0, false⟩
  { atTime 2 s with scan := ⟨v.set i.val ⟨some !closing, !closing, 2, false⟩, false, 0⟩ }

/-- The readings of shut guards with all else open, but for one contact. -/
def readingsOf (i : Nat) (closing : Bool) : BitVec 64 :=
  if closing then 0x7F0000 ||| (1#64 <<< i) else 0x7F0000 &&& ~~~(1#64 <<< i)

/-- The line of a contact's change drained or held: HELD on the contact alone with a HALT waiting, a draw in flight. -/
def heldFor (h : Holds) (s : State) : State :=
  { s with line := { s.line with state := .held, holds := h, drainRelease := true } }

/-- A dwell of a line state with one job left, in the slot given, and another ended. -/
def lastAt (j : Job) (slot : Nat) (l : LineState) : State :=
  let s := polls slot (inState l)
  { s with car := { s.car with state := .dwelling, jobs := [j, { otherJob j.item.station with status := .done }] } }

/-- The line's record changed. -/
def lined (f : Line → Line) (s : State) : State := { s with line := f s.line }

/-- The mill job, the last of its dwell. -/
def lastMill (l : LineState) : State := lastAt aMill 2 l

/-- MILL's DONE ends the last job. -/
theorem mill_ends {s : State} (h : s.pins.inReset = false ∧ s.bus.current = some (.poll 9 2) ∧ s.car.tag = 9
    ∧ s.car.state = .dwelling ∧ s.car.jobs = (lastMill .running).car.jobs) :
    EndsDwell s (.slotAnswer .mill [(.mill, .done .plain)] none ⟨false, true⟩) 3 none := by
  obtain ⟨h₁, h₂, h₃, h₄, h₅⟩ := h
  refine .answer (st := .mill) (j := aMill) (tag := 9) (slot := 2)
    ⟨h₁, h₂, by decide, h₃.symm, h₄, ?_, .inl rfl, rfl, ?_⟩ ?_ (.inl ⟨_, rfl⟩) (fun x e => nomatch e)
  · simp only [jobAt, h₅]; decide
  · rw [h₅]; decide
  · unfold LastOpen; rw [h₅]; decide

/-- A book in the clamp that stands at P11, clamp 4, and one elsewhere on the line. -/
def gated (s : State) : State := setBook 4 (some (aBook 4)) s
def onLine (s : State) : State := setBook 9 (some (aBook 9)) s

/-- DwellEndIndexes: the dwell's end by each station's answer, by the overrun limit at 3,000 ms, by an early drop and by a
drop confirm in the open watch. -/
theorem witness_dwell_end :
    EndsDwell (lastMill .running) (.slotAnswer .mill [(.mill, .done .plain)] none ⟨false, true⟩) 3 none
    ∧ EndsDwell (lastAt aLoad 1 .running) (.slotAnswer .loader [(.load, .done .noBlock)] none ⟨false, true⟩) 3 none
    ∧ EndsDwell (lastAt (aJob .spine (some 815) (.spine none)) 3 .running)
      (.slotAnswer .glue [(.spine, .failed [])] (some 178) ⟨false, true⟩) 3 none
    ∧ EndsDwell (lastAt (aJob .draw (some 815) (.draw .keep none 2 none)) 4 .draining)
      (.slotAnswer .cover [(.draw, .done (.draw [.unreadable]))] none ⟨false, true⟩) 3 none
    ∧ EndsDwell (lastAt aRelease 6 .running) (.slotAnswer .release [(.release, .failed [])] none ⟨false, true⟩) 3 none
    ∧ EndsDwell (atTime 3000 (lastMill .running)) (.jobOverrun .mill) 3 none
    ∧ (∀ s, s = { setBook 3 (some (aBook 3)) (lastAt aRelease 6 .running) with
        dlv := { (inState .running).dlv with dropWatch := .early, cooling := [bookOf 7] } } →
      EndsDwell s (.slotAnswer .release [(.release, .done .plain)] none ⟨false, true⟩) 3 (some 3))
    ∧ (∀ s, s = ripe 1 true { gated (lastAt { aRelease with status := .busy, releaseDone := true } 6 .draining) with
        dlv := { (inState .running).dlv with dropWatch := .opened 4 0, cooling := [bookOf 7] } } →
      EndsDwell s (.scanEnd (readingsOf 1 true)) 4 (some 4)) := by
  refine ⟨mill_ends (by decide +kernel), .answer (st := .load) (j := aLoad) (tag := 9) (slot := 1)
      (answersJob (by decide +kernel)) (by unfold LastOpen; decide +kernel)
      (.inr (.inl ⟨⟨_, _, rfl⟩, .inl rfl⟩)) (fun x e => nomatch e),
    .answer (st := .spine) (j := aJob .spine (some 815) (.spine none)) (tag := 9) (slot := 3)
      (answersJob (by decide +kernel)) (by unfold LastOpen; decide +kernel) (.inr ⟨_, rfl⟩)
      (by rintro x ⟨⟩; decide +kernel),
    .answer (st := .draw) (j := aJob .draw (some 815) (.draw .keep none 2 none)) (tag := 9) (slot := 4)
      (answersJob (by decide +kernel)) (by unfold LastOpen; decide +kernel)
      (.inr ⟨_, _, _, _, _, rfl, rfl, by decide, by decide, by decide +kernel⟩) (fun x e => nomatch e),
    .answer (st := .release) (j := aRelease) (tag := 9) (slot := 6)
      (answersJob (by decide +kernel)) (by unfold LastOpen; decide +kernel) ⟨⟨_, rfl⟩, by decide +kernel⟩
      (fun x e => nomatch e),
    .overrun (st := .mill) (j := aMill) (w := 0) rfl rfl (by unfold LastOpen; decide +kernel) (by decide +kernel) rfl rfl
      (by decide +kernel) (by decide +kernel), ?_, ?_⟩ <;> rintro s rfl
  · exact .earlyDrop (j := aRelease) (tag := 9) (slot := 6) (answersJob (by decide +kernel))
      (by unfold LastOpen; decide +kernel) rfl (by decide +kernel : _ = some (aBook 3)) (by decide +kernel)
  · exact .drop (j := { aRelease with status := .busy, releaseDone := true }) (w := 0) (b := aBook 4)
      (handsChange (by decide +kernel)) rfl (by unfold LastOpen; decide +kernel) (by decide +kernel) rfl rfl
      (by decide +kernel) (by decide +kernel)

/-- DwellEndIndexes: the states of its clauses: a hold pending, with the park mark and a book or none; the halt mark with a
guard open and with no cause; a book at P11, sound and lost; none there; no book, with the wake condition and without. -/
theorem witness_dwell_outcomes :
    (∀ l ∈ [LineState.running, .draining], ∀ s, s = heldFor { Holds.empty with host := true } (lastMill l) →
      ∀ t, t = lined (fun x => { x with state := l, park := true }) s → t.line.holds.any = true ∧ t.line.park = true
        ∧ t.line.state = l ∧ anyLoaded t = false ∧ anyLoaded (onLine t) = true)
    ∧ (∀ s, s = onLine (lined (fun x => { x with halt := true }) (lastMill .running)) →
      s.line.halt = true ∧ s.line.holds.any = false ∧ EntryClear s
        ∧ anyGuardOpen { s with scan := Scanner.afterReset } = true
        ∧ clampAt s 11 = some 4 ∧ bookIn s 4 = none ∧ bookIn s 9 ≠ none ∧ present s .drive = true
        ∧ bookIn (gated s) 4 ≠ none ∧ Holder.clamp 4 ∉ s.dlv.waiters)
    ∧ (∀ s, s = cold (queued [aTicket] (lastMill .draining)) → wakeCondition (lastMill .draining) = false
      ∧ wakeCondition s = true ∧ s.glue.cond ≠ .atTemp ∧ s.line.park = false ∧ s.line.halt = false)
    ∧ (∀ s, s = queued [aTicket] (setClamp 13 { clampRec (lastMill .running) 13 with mark := .suspect } (lastMill .running)) →
      clampAt s 0 = some 13 ∧ (clampRec s 13).mark = .suspect ∧ (clampRec s 12).mark = .inUse ∧ bookIn s 12 = none)
    ∧ (∀ s, s = queued [aTicket] (lastAt aLoad 1 .running) → AnswersJob s .load aLoad 9 1 ∧ LastOpen s .load
      ∧ bookIn s 3 = none ∧ bookIn s 4 = none ∧ s.tickets.queue = [aTicket]) := by
  refine ⟨fun l hl s e t e' => ?_, ?_, ?_, ?_, ?_⟩
  · subst e; subst e'; revert l; decide +kernel
  · rintro s rfl
    exact ⟨rfl, by decide +kernel, entryClear (by decide +kernel), by decide +kernel⟩
  · rintro s rfl; decide +kernel
  · rintro s rfl; decide +kernel
  · rintro s rfl
    exact ⟨answersJob (by decide +kernel), by unfold LastOpen; decide +kernel, by decide +kernel⟩

/-- The worked sequence of R114, step 4: HALT and a hold taken in one dwell put the line HELD with return state DRAINING at
its end, the halt mark clear. -/
theorem test_halt_and_hold :
    let t := after (.slotAnswer .mill [(.mill, .done .plain)] none ⟨false, true⟩) (onLine (lined (fun x => { x with
      halt := true, holds := { x.holds with guardOpen := true, host := true } }) (lastMill .running)))
    t.line.state = .held ∧ t.line.returnState = .draining ∧ t.line.halt = false ∧ t.car.state = .standing
      ∧ t.line.holds = { Holds.empty with guardOpen := true, host := true } := by decide +kernel

/-- An index under way at phase 7 with a book for P2: clamp 14 stands there at phase 8. -/
def indexing (l : LineState) : State := asks .drive .index (car .indexing (setBook 14 (some (aBook 14)) (inState l)))

/-- IndexBeginsFullDwell. -/
theorem witness_index : AnswersRequest (indexing .running) .drive .index 5 ∧ (indexing .running).car.state = .indexing
    ∧ (indexing .running).car.phase = some 7 ∧ (indexing .running).car.phaseKnown = true
    ∧ (indexing .running).line.state = .running ∧ (2 : Fin 20) - (7 + 1) = 14
    ∧ bookIn (indexing .running) 14 = some (aBook 14) ∧ (aBook 14).reason = none
    ∧ Holder.clamp 14 ∉ (indexing .running).dlv.waiters :=
  ⟨answersRequest (by decide +kernel), by decide +kernel⟩

/-- A move whose limit runs from 0, at a time. -/
def moving (c : CarState) (now : Time) : State :=
  let s := atTime now (inState .running)
  { s with car := { s.car with state := c, moveTimer := some 0 } }

/-- MovesEnd: HOME and INDEX answered, and their limit at 1,499 and at 1,500 ms. -/
theorem witness_moves : (∀ s, s = asks .drive .home (car .homing (inState .warming)) →
      AnswersRequest s .drive .home 5 ∧ s.car.state = .homing ∧ s.line.state = .warming)
    ∧ AnswersRequest (indexing .draining) .drive .index 5
    ∧ (1500 ≤ ((moving .indexing 1500).clock - 0).toNat ∧ (moving .indexing 1500).car.moveTimer = some 0)
    ∧ ((moving .homing 1499).clock - 0).toNat < 1500 ∧ (inState .running).bus.current = none :=
  ⟨by rintro s rfl; exact ⟨answersRequest (by decide +kernel), rfl, rfl⟩, answersRequest (by decide +kernel),
    by decide +kernel⟩

/-- MovesEnd: a new restart mark of DRIVE in each of its answers, the latest answer at 2 ms and one too late at 3 ms. -/
theorem witness_moves_restart :
    (∀ k ∈ [ReqKind.index, .home, .nodeStatus], ∀ s, s = later 2 (asks .drive k (car .indexing (inState .running))) →
      AnswersRequest s .drive k 5 ∧ (nodeRec s .drive).ackPending = false ∧ s.car.state = .indexing)
    ∧ (∀ s, s = later 3 (indexing .running) → s.bus.current = some (.request ⟨.drive, .index, some 5⟩ false 0)
      ∧ 2 < (s.clock - 0).toNat) := by
  refine ⟨fun k h s e => ?_, fun s e => ?_⟩ <;> subst e
  · exact ⟨answersRequestAt 0 (by revert k; decide +kernel), by revert k; decide +kernel, rfl⟩
  · exact ⟨rfl, by decide +kernel⟩

/-- OverrunAbortsJob: the limit at 2,999 and at 3,000 ms, the station's count at 0 and 1. -/
theorem witness_overrun :
    let j := aJob .mill (some 815) (.mill 1500)
    let s := atTime 3000 (working j 2)
    s.pins.inReset = false ∧ s.car.state = .dwelling ∧ jobAt s .mill = some j ∧ DwellGoesOn s .mill
      ∧ (j.status = .issued ∧ j.limit = .running 0 ∧ 3000 ≤ (s.clock - 0).toNat)
      ∧ ((atTime 2999 s).clock - 0).toNat < 3000 ∧ overrunCount s .mill = 0
        ∧ overrunCount (setOverrun .mill 1 s) .mill = 1 :=
  ⟨by decide +kernel, by decide +kernel, by decide +kernel, dwellGoesOn (by decide +kernel), by decide +kernel,
    by decide +kernel, by decide +kernel, by decide +kernel⟩

/-- A pot settling since 0, at a time. -/
def settlingPot (l : LineState) (now : Time) : State :=
  let s := atTime now (inState l)
  { s with glue := { s.glue with cond := .settling, window := some 0 } }

/-- PotFollowsReadings: readings of 173 and 174, 178 and 179 against 170; the window at 29,999 and 30,000 ms. -/
theorem witness_pot :
    (∀ s, s = polls 3 (inState .running) → s.bus.current = some (.poll 9 3) ∧ s.car.state ≠ .dwelling
      ∧ s.settings.workTemp = 170 ∧ s.glue.outOfBand = false ∧ s.glue.target.isWorking = true)
    ∧ (173 ≤ 170 + 3 ∧ ¬(174 ≤ 170 + 3) ∧ ¬(170 + 8 < 178) ∧ 170 + 8 < 179)
    ∧ (30000 ≤ ((settlingPot .warming 30000).clock - 0).toNat ∧ ((settlingPot .warming 29999).clock - 0).toNat < 30000
      ∧ (settlingPot .warming 30000).glue.window = some 0
      ∧ (car .homing (settlingPot .warming 30000)).car.state = .homing
        ∧ (settlingPot .running 30000).line.state ≠ .held) :=
  ⟨by rintro s rfl; decide +kernel, by decide, by decide +kernel⟩

/-- PotFollowsReadings: AT_TEMP in WARMING with the carousel STANDING, its worked mark set, and UNHOMED; each with no hold
cause and with a guard open. -/
theorem witness_pot_entry :
    (∀ c ∈ [CarState.standing, .unhomed], ∀ s, s = car c (settlingPot .warming 30000) →
      s.line.state = .warming ∧ s.car.state = c ∧ EntryClear s ∧ present s .drive = true)
    ∧ ¬EntryClear { car .unhomed (settlingPot .warming 30000) with scan := Scanner.afterReset }
    ∧ (∀ s, s = { settlingPot .warming 30000 with car := { (settlingPot .warming 30000).car with worked := true } } →
      s.car.state = .standing ∧ s.car.worked = true ∧ anyLoaded s = false ∧ s.tickets.queue = []) := by
  refine ⟨fun c h s e => ?_, fun h => absurd h.guards (by decide +kernel), ?_⟩
  · subst e
    exact ⟨rfl, rfl, entryClear (by revert c; decide +kernel), by revert c; decide +kernel⟩
  · rintro s rfl
    decide +kernel

/-- A line with a timer of 1,000 ms from 0, at a time. -/
def timed (l : LineState) (now : Time) : State :=
  let s := atTime now (inState l)
  { s with line := { s.line with
    warmTimer := some 0, standbyTimer := some (0, 1000), parkTimer := some (0, 1000) } }

/-- LineTimersRunOut: each timer a millisecond short and at its length. -/
theorem witness_timers :
    (2400000 ≤ ((timed .warming 2400000).clock - 0).toNat ∧ ((timed .warming 2399999).clock - 0).toNat < 2400000)
    ∧ (1000 ≤ ((timed .running 1000).clock - 0).toNat ∧ ((timed .running 999).clock - 0).toNat < 1000)
    ∧ (timed .standby 1000).line.parkTimer = some (0, 1000)
    ∧ (500 ≤ ((timed .warming 500).clock - (timed .warming 500).line.flashBase).toNat)
    ∧ (∀ s, s = queued [aTicket] (cold (timed .running 1000)) → s.tickets.queue ≠ []
      ∧ s.scan.contacts[(0 : Fin 64)].closed = true ∧ s.scan.contacts[(0 : Fin 64)].uncertain = false
      ∧ s.glue.cond ≠ .atTemp ∧ s.car.state ≠ .unhomed) :=
  ⟨by decide +kernel, by decide +kernel, rfl, by decide +kernel, by rintro s rfl; decide +kernel⟩

/-- EstopFaultsLineAndTrimmer: the input released and activated; the trimmer FAULTED and with a book inside. -/
theorem witness_estop : (∀ s, s = { inState .running with pins := ⟨.low, .low, true, 0, false⟩ } →
      50 ≤ ((atTime 50 s).clock - s.pins.estopLowAt).toNat ∧ ((atTime 49 s).clock - s.pins.estopLowAt).toNat < 50)
    ∧ (inState .running).pins.inReset = false ∧ (inState .running).pins.estopActive = false
    ∧ ({ inState .running with pins := ⟨.low, .low, true, 0, false⟩ } : State).pins.estopActive = true
    ∧ Faultable (inState .running) ∧ (inState .running).car.state ≠ .unhomed
    ∧ (trimming .faulted (inState .parked)).trim.state = .faulted
    ∧ (trimming .clamping (inState .parked)).trim.held = .inside (aBook 3) :=
  ⟨by rintro s rfl; decide +kernel, rfl, rfl, rfl, Or.inr (Or.inl rfl), by decide +kernel, rfl, rfl⟩

/-- The release of the e-stop takes 50 ms of high level after the last low reading (R171). -/
theorem test_estop_release :
    let s := atTime 30 (after .estopActivated (inState .running))
    let t := after .estopActivated s
    (after .estopReleased (atTime 50 s)).pins.estopActive = false ∧ t.host = s.host
      ∧ (after .estopReleased (atTime 79 t)).pins.estopActive = true
      ∧ (after .estopReleased (atTime 80 t)).pins.estopActive = false := by decide +kernel

/-- ScanDebouncesContacts: 1 ms and 2 ms after the last scan; a ghost; counts of 1 and 2. -/
theorem witness_scan :
    let v := [(8 : Fin 64), 9, 16].foldl (fun v i => v.set i.val ⟨some true, true, 0, false⟩) Scanner.afterReset.contacts
    let s := atTime 2 { inState .running with scan := ⟨v, false, 0⟩ }
    (s.pins.inReset = false ∧ 2 ≤ (s.clock - s.scan.scanBase).toNat ∧ ((atTime 1 s).clock - s.scan.scanBase).toNat < 2)
      ∧ ((after (.scanEnd 0x30300) s).scan.contacts[(17 : Fin 64)].uncertain = true)
      ∧ (after (.scanEnd 0x10300) s).scan.contacts[(17 : Fin 64)].uncertain = true
      ∧ (after (.scanEnd 0x10301) s).scan.contacts[(0 : Fin 64)].count = 1 := by decide +kernel

/-- OwnersTakeContactChanges: each contact of the statement, closing or opening. -/
theorem witness_contacts :
    (∀ i ∈ [(0 : Fin 64), 1, 3, 4, 5, 6, 8, 9, 10, 16, 21, 22, 24, 25],
      HandsChange (ripe i true (dropping 0 0)) (readingsOf i.val true) i true)
    ∧ (∀ i ∈ [(9 : Fin 64), 16, 21, 22], HandsChange (ripe i false (inState .running)) (readingsOf i.val false) i false) := by
  refine ⟨fun i hi => handsChange ?_, fun i hi => handsChange ?_⟩ <;> revert i <;> decide +kernel

/-- A gate in a push whose window runs from 0, with the head given, at a time, with n records done. -/
def pushingAt (g : Gate) (c : Confirm) (now : Time) (n : Nat) : State :=
  let s := doneList n (atTime now (inState .running))
  { s with dlv := { s.dlv with cooling := [bookOf 4, bookOf 5], gate := g, gateConfirm := c } }

/-- OwnersTakeContactChanges: the states of its clauses for the pushes and the exits. -/
theorem witness_contact_states :
    ((pushingAt .infeedPush (.window 0) 2 0).dlv.gate = .infeedPush
      ∧ (pushingAt .rejectPush (.window 0) 2 31).dlv.done.length < 32
      ∧ 32 ≤ (pushingAt .rejectPush (.window 0) 2 32).dlv.done.length
      ∧ (pushingAt .infeedPush .none 2 0).dlv.gateConfirm = .none)
    ∧ (∀ s, s = { trimming .eject (inState .running) with trim := { (trimming .eject (inState .running)).trim with
        held := .out (aBook 3), exitConfirm := .window 0, dest := .sample } } →
      s.trim.exitConfirm = .window 0 ∧ s.trim.held = .out (aBook 3) ∧ s.trim.state = .eject ∧ s.trim.dest = .sample)
    ∧ releaseInFlight (working aRelease 6) = true :=
  ⟨by decide +kernel, by rintro s rfl; exact ⟨rfl, rfl, rfl, rfl⟩, by decide +kernel⟩

/-- OwnersTakeContactChanges: the states of its clauses for a block at the infeed, an empty stack, a jam and a guard. -/
theorem witness_contact_lines :
    (∀ s, s = cold (ripe 0 true (queued [aTicket] (inState .standby))) → s.line.state = .standby ∧ s.tickets.queue ≠ []
      ∧ s.glue.cond ≠ .atTemp ∧ s.car.state ≠ .unhomed)
    ∧ (∀ u, u = queued [aTicket] (inState .running) → ∀ s, s = ripe 0 true { u with car := { u.car with worked := true } } →
      s.line.holds.any = false ∧ s.car.state = .standing ∧ s.car.worked = true ∧ s.tickets.queue = [aTicket]
        ∧ clampAt s 0 = some 13 ∧ bookIn s 13 = none ∧ (clampRec s 13).mark = .inUse)
    ∧ (∀ s, s = ripe 9 true (working (aJob .draw (some 815) (.draw .keep none 2 none)) 4) → s.line.state = .running
      ∧ ∃ k ∈ s.car.jobs, k.item.station = .draw ∧ k.status = .issued)
    ∧ (∀ i ∈ [(16 : Fin 64), 21], ∀ s, s = heldFor { Holds.empty with guardOpen := true } (ripe i true (loadedLine .running)) →
      ∀ u, u = scanned (readingsOf i.val true) s → s.line.drainRelease = true ∧ resumeConditions u = true ∧ EntryClear u
        ∧ anyLoaded s = true ∧ present s .drive = true)
    ∧ (∀ s, s = heldFor { Holds.empty with coverEmpty := true } (ripe 9 false (loadedLine .running)) →
      ∀ u, u = scanned (readingsOf 9 false) s → s.line.drainRelease = true ∧ resumeConditions u = true ∧ EntryClear u)
    ∧ (∀ i ∈ [(16 : Fin 64), 21], resumeConditions (ripe i true (heldFor .empty (loadedLine .running))) = false) := by
  refine ⟨?_, ?_, ?_, fun i hi s e u e' => ?_, fun s e u e' => ?_, by decide +kernel⟩
  · rintro s rfl; decide +kernel
  · rintro u rfl s rfl; decide +kernel
  · rintro s rfl; decide +kernel
  · subst e; subst e'
    exact ⟨rfl, by revert i; decide +kernel, entryClear (by revert i; decide +kernel), by revert i; decide +kernel⟩
  · subst e; subst e'
    exact ⟨rfl, by decide +kernel, entryClear (by decide +kernel)⟩

/-- A frame waiting at two requesters behind the last slot of a round. -/
def granting : State :=
  let s := polls 7 (inState .running)
  { s with bus := { s.bus with
    coolQ := [.req ⟨.cooling, .nodeStatus, none⟩], probeQ := [.req ⟨.mill, .probe false, none⟩], lastServed := .trimmer } }

/-- PollRoundsAndGrants: a frame of each kind at the head of its requester when a round ends. -/
theorem witness_grants :
    (∀ f ∈ [Frame.poll, .abortAll, .abortJob .mill, .work 9 [aMill.item] false, .req ⟨.drive, .index, none⟩],
      ({ granting.bus with carQ := [f, .poll] } : Bus).carQ = f :: [.poll])
    ∧ (∀ b, b = { granting.bus with trimQ := [.abortTrimmer], lastServed := .probe } →
      b.carQ = [] ∧ b.trimQ = .abortTrimmer :: [] ∧ b.lastServed = .probe) :=
  ⟨fun _ _ => rfl, by rintro b rfl; exact ⟨rfl, rfl, rfl⟩⟩

/-- R153, R154: at the end of a round the broadcast ABORT and the first WORK of the dwell are sent one after the other, the
job is ISSUED, and the POLL behind them takes the bus. -/
theorem test_grants :
    let s := lastAt { aMill with status := .built, limit := .notStarted } 7 .running
    let t := after .pollRoundEnd { s with bus := { s.bus with carQ := [.abortAll, .work 9 [aMill.item] false, .poll] } }
    t.busOut.map (·.address) = [0, 0, 0] ∧ t.bus.carQ = [] ∧ t.bus.fast = true ∧ t.bus.current = some (.poll 9 1)
      ∧ (jobAt t .mill).map (·.status) = some .issued := by decide +kernel

/-- PollRoundsAndGrants: 99 and 100 ms of the slow cadence, a round waiting, and each end of a round. -/
theorem witness_polls :
    (∀ s, s = atTime 100 (inState .running) → s.bus.pollOn = true ∧ s.bus.fast = false
      ∧ 100 ≤ (s.clock - s.bus.pollBase).toNat
      ∧ NothingWaits s.bus ∧ s.bus.current = none ∧ .poll ∉ s.bus.carQ)
    ∧ ((atTime 99 (inState .running)).clock - 0).toNat < 100
    ∧ (granting.bus.current = some (.poll 9 7) ∧ granting.bus.carQ = []
      ∧ [Rotation.cooling, .probe, .trimmer].find? (fun y => !(match y with
        | .trimmer => granting.bus.trimQ | .cooling => granting.bus.coolQ | .probe => granting.bus.probeQ).isEmpty)
        = some .cooling) :=
  ⟨by rintro s rfl; exact ⟨rfl, rfl, by decide +kernel, nothingWaits (by decide +kernel), rfl, by decide +kernel⟩,
    by decide +kernel, by decide +kernel⟩

/-- MissesAndLoss: a slot and a request of a node with 1 and with 2 misses, and of a node that is ABSENT. -/
theorem witness_misses :
    let m := fun n k => setNode n ⟨.present, k, false, 0, 0, 0⟩ (inState .running)
    (slotNode 1 = some .loader ∧ slotNode 6 = some .release ∧ (polls 6 (m .release 2)).bus.current = some (.poll 9 6)
      ∧ 2 ≤ (nodeRec (m .release 2) .release).misses ∧ (nodeRec (m .release 1) .release).misses < 2)
    ∧ (∀ s, s = asks .cooling (.infeedPush 4) (m .cooling 2) →
      s.bus.current = some (.request ⟨.cooling, .infeedPush 4, some 5⟩ false 0) ∧ NothingWaits s.bus
        ∧ present s .cooling = true ∧ 2 ≤ ((later 2 s).clock - 0).toNat ∧ ((later 1 s).clock - 0).toNat < 2)
    ∧ present (setNode .mill NodeRec.afterReset (inState .running)) .mill = false
    ∧ 2 ≤ State.reset.bus.probesLeft ∧ pushing (pushingAt .infeedPush .none 0 0) = true :=
  ⟨by decide +kernel, by rintro s rfl; exact ⟨rfl, nothingWaits (by decide +kernel), by decide +kernel⟩, by decide +kernel,
    by decide +kernel, by decide +kernel⟩

/-- R153: a frame whose check fails counts as no answer; the slot then closes empty. -/
theorem test_check_fails :
    let s := lastMill .running
    let t := after (.slotAnswer .mill [(.mill, .done .plain)] none ⟨false, false⟩) s
    t.car.state = .dwelling ∧ t.bus.current = some (.poll 9 2) ∧ (nodeRec (after .slotEmpty t) .mill).misses = 1 := by
  decide +kernel

/-- NodesKeptInTouch: a second of the recovery probes with a node ABSENT and another's PROBE waiting. -/
theorem witness_recovery : ∀ s, s = setNode .mill NodeRec.afterReset { granting with
      clock := 1000, bus := { granting.bus with probeQ := [.req ⟨.nip, .probe false, none⟩] } } →
    s.line.state ≠ .starting ∧ 1000 ≤ (s.clock - s.bus.probeBase).toNat ∧ present s .mill = false
      ∧ s.bus.probeQ = .req ⟨.nip, .probe false, none⟩ :: [] := by
  rintro s rfl; decide +kernel

/-- R161, R162: a PROBE of the node on the bus, and a request given up, do not keep its NODE_STATUS back. -/
theorem test_status_beside_probe :
    (after (.nodeStatusDue .trimmer) (asks .trimmer (.probe false) (atTime 100 (inState .running)))).bus.trimQ.length = 1
    ∧ (after (.nodeStatusDue .trimmer) (giveUp isTrimWork (asks .trimmer .readAxes (atTime 100 (inState .running))))).bus.trimQ.length
      = 1
    ∧ (after (.nodeStatusDue .trimmer) (asks .trimmer .readAxes (atTime 100 (inState .running)))).bus.trimQ = [] := by
  decide +kernel

/-- A reply window closes at 2 ms and not before, and an answer at 3 ms counts as none (R153). -/
theorem test_reply_window :
    let s := asks .trimmer .nodeStatus (inState .running)
    (after .replyWindowClosed (later 1 s)).bus.current = s.bus.current
      ∧ (nodeRec (after .replyWindowClosed (later 2 s)) .trimmer).misses = 1
      ∧ (after (.nodeStatusAnswer .trimmer 5 ⟨false, true⟩) (later 2 s)).bus.current = none
      ∧ (after (.nodeStatusAnswer .trimmer 5 ⟨false, true⟩) (later 3 s)).bus.current = s.bus.current := by decide +kernel

/-- NodesKeptInTouch: 99 and 100 ms of silence, 4 and 5 ms after a BUSY, 1,000 ms after the last probes, the last
start-up probe. -/
theorem witness_touch :
    AnswersRequest (asks .trimmer .nodeStatus (inState .running)) .trimmer .nodeStatus 5
    ∧ (∀ s, s = asks .mill (.probe false) (setNode .mill NodeRec.afterReset (inState .running)) →
      NothingWaits s.bus ∧ s.bus.current = some (.request ⟨.mill, .probe false, some 5⟩ false 0)
        ∧ ((later 2 s).clock - 0).toNat ≤ 2 ∧ 2 < ((later 3 s).clock - 0).toNat)
    ∧ (∀ s, s = asks .trimmer (.probe true) { State.reset with
        bus := { Bus.idle with probesLeft := 1 }, line := { Line.afterReset with loadDone := true } } →
      NothingWaits s.bus ∧ s.bus.probesLeft = 1 ∧ s.line.state = .starting ∧ s.line.loadDone = true)
    ∧ (∀ s, s = { atTime 5 (inState .running) with bus := { (inState .running).bus with
        busyWait := [(⟨.trimmer, .readAxes, some 5⟩, 0)] } } →
      5 ≤ (s.clock - 0).toNat ∧ s.bus.current = none ∧ NothingWaits s.bus)
    ∧ (∀ s, s = atTime 1000 (inState .running) → isGroup .drive = false ∧ present s .drive = true
      ∧ 100 ≤ (s.clock - (nodeRec s .drive).lastAnswer).toNat ∧ holdsRequest s.bus .drive = false
      ∧ s.line.state ≠ .starting ∧ 1000 ≤ (s.clock - s.bus.probeBase).toNat)
    ∧ ((atTime 99 (inState .running)).clock - 0).toNat < 100 := by
  refine ⟨answersRequest (by decide +kernel), ?_, ?_, ?_, ?_, by decide +kernel⟩ <;> rintro s rfl
  · exact ⟨nothingWaits (by decide +kernel), rfl, by decide +kernel⟩
  · exact ⟨nothingWaits (by decide +kernel), rfl, rfl, rfl⟩
  · exact ⟨by decide +kernel, rfl, nothingWaits (by decide +kernel)⟩
  · decide +kernel

/-- PushesConfirmedOrLost: the head timer and the window a millisecond short and at their length, each confirm, the done
list with room for one and full. -/
theorem witness_pushes :
    (∀ c ∈ [Confirm.none, .early], AnswersRequest (asks .cooling (.infeedPush 4) (pushingAt .infeedPush c 0 31)) .cooling
      (.infeedPush 4) 5)
    ∧ AnswersRequest (asks .cooling (.rejectPush 4) (pushingAt .rejectPush .early 0 31)) .cooling (.rejectPush 4) 5
    ∧ (pushing (pushingAt .rejectPush (.window 0) 500 32) = true
      ∧ 500 ≤ ((pushingAt .rejectPush (.window 0) 500 32).clock - 0).toNat
      ∧ ((pushingAt .rejectPush (.window 0) 499 32).clock - 0).toNat < 500
      ∧ 32 ≤ (pushingAt .rejectPush (.window 0) 500 32).dlv.done.length)
    ∧ (∀ s, s = { pushingAt .idle .none 20000 31 with dlv := { (pushingAt .idle .none 20000 31).dlv with
        cooling := [{ bookOf 4 with coolEntry := some 0 }], headTimer := some (0, 20000) } } →
      20000 ≤ (s.clock - 0).toNat ∧ s.dlv.done.length < 32 ∧ present s .cooling = true ∧ s.dlv.gateStop = false
        ∧ s.trim.state = .idle ∧ (bookOf 4).reason = none ∧ 100 * (bookOf 4).snapshot.coolDwell ≤ (s.clock - 0).toNat) :=
  ⟨fun c hc => answersRequest (by revert c; decide +kernel), answersRequest (by decide +kernel), by decide +kernel,
    by rintro s rfl; decide +kernel⟩

/-- A NODE_STATUS of COOLING on the bus during a push that still waits behind it, with a confirm. -/
def pushBehind (c : Confirm) : State :=
  let s := asks .cooling .nodeStatus (pushingAt .infeedPush c 0 0)
  { s with bus := { s.bus with coolQ := [.req ⟨.cooling, .infeedPush 4, some 4⟩] } }

/-- PushesConfirmedOrLost: a new restart mark of COOLING with a push not yet confirmed, the push still waiting behind it, and
with its window open. -/
theorem witness_push_restart :
    (∀ c ∈ [Confirm.none, .early, .window 0],
      AnswersRequest (asks .cooling .nodeStatus (pushingAt .infeedPush c 0 0)) .cooling .nodeStatus 5
        ∧ pushing (pushBehind c) = true ∧ (nodeRec (pushBehind c) .cooling).ackPending = false
        ∧ (pushBehind c).bus.current = some (.request ⟨.cooling, .nodeStatus, some 5⟩ false 0)
        ∧ Frame.req ⟨.cooling, .infeedPush 4, some 4⟩ ∈ (pushBehind c).bus.coolQ)
    ∧ AnswersRequest (asks .cooling (.rejectPush 4) (pushingAt .rejectPush .none 0 0)) .cooling (.rejectPush 4) 5 :=
  ⟨fun c _ => ⟨answersRequest (by revert c; decide +kernel), by revert c; decide +kernel⟩, answersRequest (by decide +kernel)⟩

/-- A trimmer SETTLING whose settle timer and foot window run from 0, two axes converged, at a time. -/
def settling (now : Time) : State :=
  let s := atTime now (trimming .settling (inState .running))
  let done := { AxisRec.afterReset with converged := true }
  { s with trim := { s.trim with
    settleTimer := .running 0, moveTime := some 0, front := done, head := done
    foot := { AxisRec.afterReset with window := some 0 } } }

/-- TrimmerSettlesAxes: the answers, the axis window at 49 and 50 ms, the settle timer at 1,999 and 2,000 ms. -/
theorem witness_axes :
    (AnswersRequest (asks .trimmer (.setAxes none (some 3000) none) (settling 0)) .trimmer (.setAxes none (some 3000) none) 5
      ∧ AnswersRequest (asks .trimmer .readAxes (settling 0)) .trimmer .readAxes 5)
    ∧ ((settling 50).trim.state = .settling ∧ (settling 50).trim.held = .inside (aBook 3)
      ∧ (axisOf (settling 50).trim .foot).window = some 0 ∧ 50 ≤ ((settling 50).clock - 0).toNat
      ∧ ((settling 49).clock - 0).toNat < 50 ∧ (settling 50).trim.guardPause = false)
    ∧ (2000 ≤ ((settling 2000).clock - 0).toNat ∧ ((settling 1999).clock - 0).toNat < 2000
      ∧ present (settling 2000) .trimmer = true) :=
  ⟨⟨answersRequest (by decide +kernel), answersRequest (by decide +kernel)⟩, by decide +kernel, by decide +kernel⟩

/-- A trimmer that waits for its guard in a state, its three axes converged, the foot so far from the book's target. -/
def guarded (st : TrimState) (off : Int) : State :=
  let s := trimming st (inState .running)
  let at_ := fun x : Int => { AxisRec.afterReset with converged := true, target := some x, error := some 0 }
  ripe 22 true { s with trim := { s.trim with
    guardPause := true, front := at_ 148000, foot := at_ (3000 + off), head := at_ 213000 } }

theorem guarded_closes (st : TrimState) (off : Int) : HandsChange (guarded st off) (readingsOf 22 true) 22 true :=
  have h : handedChanges false (guarded .idle 0).scan.contacts
      (scanPass false (readingsOf 22 true) (List.finRange 64) (guarded .idle 0).scan.contacts) = [(22, true)]
    ∧ ∀ k ∈ guards, (scanPass false (readingsOf 22 true) (List.finRange 64) (guarded .idle 0).scan.contacts)[k].uncertain = true →
      (guarded .idle 0).scan.contacts[k].uncertain = true := by decide +kernel
  ⟨rfl, (by decide : 2 ≤ ((2 : Time) - 0).toNat), rfl, h.1, h.2⟩

/-- A trimmer SETTLING with its guard open and the foot not converged, its settle timer as given. -/
def unsettled (t : SettleTimer) : State :=
  let s := guarded .settling 0
  { s with trim := { s.trim with settleTimer := t, foot := .afterReset } }

/-- TrimmerSettlesAxes: the guard closes in POSITIONING with every axis within 20 micrometres of the book's target and with
one 21 away, and in SETTLING with the axes converged, and not with the settle timer run out and still running. -/
theorem witness_positioning :
    (∀ p ∈ [(TrimState.positioning, (20 : Int)), (.positioning, -20), (.positioning, 21), (.settling, 0)],
      HandsChange (guarded p.1 p.2) (readingsOf 22 true) 22 true ∧ (guarded p.1 p.2).trim.held = .inside (aBook 3)
        ∧ present (guarded p.1 p.2) .trimmer = true)
    ∧ (∀ x ∈ [(20 : Int), -20], ∀ a, (axisOf (guarded .positioning x).trim a).converged = true
      ∧ ∃ w e, (axisOf (guarded .positioning x).trim a).target = some w
        ∧ (axisOf (guarded .positioning x).trim a).error = some e
        ∧ -20 ≤ w + e - (match a with | .front => 148000 | .foot => 3000 | .head => 213000)
        ∧ w + e - (match a with | .front => 148000 | .foot => 3000 | .head => 213000) ≤ 20)
    ∧ (axisOf (guarded .positioning 21).trim .foot).target = some 3021
    ∧ (∀ t ∈ [SettleTimer.runOut, .running 0], HandsChange (unsettled t) (readingsOf 22 true) 22 true
      ∧ (unsettled t).trim.held = .inside (aBook 3) ∧ (unsettled t).trim.state = .settling
      ∧ (axisOf (unsettled t).trim .foot).converged = false) := by
  refine ⟨fun p hp => ⟨guarded_closes _ _, rfl, by revert p; decide +kernel⟩, fun x hx a => ?_, rfl, fun t _ => ?_⟩
  · obtain rfl | rfl : x = 20 ∨ x = -20 := by simpa using hx
    all_goals cases a <;> exact ⟨rfl, _, _, rfl, rfl, by decide +kernel⟩
  · have g := guarded_closes .settling 0
    exact ⟨⟨rfl, g.due, rfl, g.only, g.quiet⟩, rfl, rfl, rfl⟩

/-- A step under way since 0 in a state, at a time, with n records done. -/
def stepping (st : TrimState) (d : Exit) (now : Time) (n : Nat) : State :=
  let s := doneList n (atTime now (trimming st (inState .running)))
  { s with trim := { s.trim with stepTimer := some 0, dest := d } }

/-- TrimmerRunsCutCycle: a step answered in each state, its limit at 1,499 and 1,500 ms, the exit's window at 499 and
500 ms, the done list with room for one and full. -/
theorem witness_steps :
    (∀ p ∈ [(TrimState.clamping, StepKind.clamp), (.frontCut, .front), (.hfCut, .headFoot), (.eject, .eject .good)],
      AnswersRequest (asks .trimmer (.step p.2) (stepping p.1 .good 0 31)) .trimmer (.step p.2) 5)
    ∧ AnswersRequest (asks .trimmer (.step (.eject .reject)) (stepping .eject .reject 0 32)) .trimmer (.step (.eject .reject)) 5
    ∧ (1500 ≤ ((stepping .clamping .good 1500 0).clock - 0).toNat
      ∧ ((stepping .clamping .good 1499 0).clock - 0).toNat < 1500
      ∧ present (stepping .clamping .good 1500 0) .trimmer = true)
    ∧ (∀ s, s = { stepping .eject .good 500 32 with trim := { (stepping .eject .good 500 32).trim with
        held := .out (aBook 3), exitConfirm := .window 0 } } →
      s.trim.held = .out (aBook 3) ∧ s.trim.exitConfirm = .window 0 ∧ 500 ≤ (s.clock - 0).toNat
        ∧ ((atTime 499 s).clock - 0).toNat < 500 ∧ 32 ≤ s.dlv.done.length) :=
  ⟨fun p hp => answersRequest (by revert p; decide +kernel), answersRequest (by decide +kernel), by decide +kernel,
    by rintro s rfl; decide +kernel⟩

/-- The same with a step held, or with one that runs. -/
def guardedStep (st : TrimState) (held : Bool) : State :=
  { guarded st 0 with trim := { (guarded st 0).trim with stepHeld := held } }

/-- TrimmerRunsCutCycle: the guard closes on a held step in each state and on one that runs; a new restart mark of TRIMMER in
SETTLING, with the STEP EJECT in flight and while IDLE. -/
theorem witness_step_resumes :
    (∀ st ∈ [TrimState.clamping, .frontCut, .hfCut, .eject], ∀ held : Bool,
      HandsChange (guardedStep st held) (readingsOf 22 true) 22 true ∧ present (guardedStep st held) .trimmer = true
        ∧ (guardedStep st held).trim.held = .inside (aBook 3) ∧ (guardedStep st held).trim.state = st
        ∧ (guardedStep st held).trim.stepHeld = held)
    ∧ (∀ p ∈ [(ReqKind.readAxes, settling 0), (.nodeStatus, settling 0), (.setAxes none (some 3000) none, settling 0),
        (.step (.eject .good), stepping .eject .good 0 0), (.nodeStatus, inState .running)],
      AnswersRequest (asks .trimmer p.1 p.2) .trimmer p.1 5
        ∧ (nodeRec (asks .trimmer p.1 p.2) .trimmer).ackPending = false)
    ∧ ((stepping .eject .good 0 0).trim.stepHeld = false
      ∧ (stepping .eject .good 0 0).trim.held = .inside (aBook 3)) := by
  refine ⟨fun st h held => ⟨?_, by revert held st; decide +kernel, rfl, rfl, rfl⟩,
    fun p hp => ⟨answersRequest ?_, ?_⟩, rfl, rfl⟩
  · have g := guarded_closes st 0
    exact ⟨rfl, g.due, rfl, g.only, g.quiet⟩
  all_goals revert p; decide +kernel

/-- ClearTrimmerChecksAndEjects: FAULTED with no book and with one inside or out, a guard open, the node away. -/
theorem witness_clear_trimmer :
    let s := trimming .faulted (inState .running)
    (TakesRequest s ∧ s.trim.state = .faulted ∧ s.pins.estopActive = false ∧ trimGuardOpen s = false
      ∧ present s .trimmer = true ∧ s.trim.held = .inside (aBook 3))
    ∧ trimGuardOpen { s with scan := Scanner.afterReset } = true
    ∧ present (setNode .trimmer NodeRec.afterReset s) .trimmer = false ∧ (inState .running).trim.held = .none :=
  ⟨⟨takesRequest (by decide +kernel), rfl, by decide +kernel⟩, by decide +kernel, by decide +kernel, rfl⟩

/-- The invariants that every step keeps: a state that meets each and from which a step answers next. -/
theorem witness_invariants : Conserved State.reset ∧ IdsUnique everywhere ∧ ∃ t, step State.reset = .next t :=
  ⟨⟨by decide +kernel, by decide +kernel, by decide +kernel⟩, idsUnique (by decide +kernel), _, rfl⟩

/-- The bounds met at their limits: a full queue and done list, eight jobs, eight tags owed, every count at its highest. -/
def brimful : State :=
  let s := doneList 32 (fill 64 (inState .running))
  let job := fun st => aJob st none .release
  { s with
    car := { s.car with
      jobs := [job .load, job .mill, job .spine, job .side, job .draw, job .apply, job .nip, job .release]
      diverts := 3, overruns := .replicate 8 2 }
    cover := { s.cover with mismatch := 2 }
    trim := { s.trim with settleCount := 2 }
    bus := { s.bus with nodes := .replicate 9 ⟨.lost, 3, false, 255, 0, 0⟩ }
    scan := ⟨.replicate 64 ⟨some true, false, 2, false⟩, false, 0⟩
    host := (owing 8).host }

theorem witness_bounded : Bounded brimful where
  tickets := by decide +kernel
  jobs := by decide +kernel
  owed := by decide +kernel
  done := by decide +kernel
  diverts := by decide +kernel
  mismatch := by decide +kernel
  settles := by decide +kernel
  overruns := by decide +kernel
  misses := by decide +kernel
  restarts := by decide +kernel
  counts := by decide +kernel

/-- Frames wait behind a busy line and a busy bus, and none behind free ones. -/
theorem witness_lines_served :
    (LinesServed { granting with host := (owing 8).host } ∧ granting.bus.waiting = 2 ∧ nextFrame (owing 8).host ≠ none)
      ∧ LinesServed (loadedLine .running) :=
  ⟨⟨⟨by decide +kernel, by decide +kernel⟩, by decide +kernel⟩, by decide +kernel, by decide +kernel⟩

/-- A line FAULTED with a cause, and a trimmer FAULTED with one. -/
theorem witness_causes : CausesMatch { faulted .estop with trim := { (faulted .estop).trim with
    state := .faulted, cause := some .bookLost } } := ⟨by decide +kernel, by decide +kernel⟩

/-- The outputs of a line in every state but STARTING. -/
theorem witness_outputs : ∀ l ∈ [LineState.parked, .warming, .running, .draining, .held, .standby, .faulted],
    OutputsFollow (inState l) := fun l h =>
  ⟨by revert l; decide +kernel, by revert l; decide +kernel, by revert l; decide +kernel, by revert l; decide +kernel,
    by revert l; decide +kernel, by revert l; decide +kernel⟩

/-- Three corners of a rectangle closed, the fourth UNCERTAIN and open. -/
theorem witness_matrix :
    let v := [(8 : Fin 64), 9, 16].foldl (fun v i => v.set i.val ⟨some true, true, 0, false⟩) Scanner.afterReset.contacts
    let s := { inState .running with scan := ⟨v.set 17 ⟨some true, false, 0, true⟩, false, 0⟩ }
    MatrixSound s ∧ s.scan.contacts[(17 : Fin 64)].uncertain = true :=
  ⟨⟨by decide +kernel, by decide +kernel⟩, by decide +kernel⟩

end Sys2Proof.Tests
end

/-! PROOFS. The Setpoint Computer: one rule per step of the computation at load (R26 to R34), then the record that
the six steps leave. -/

namespace Sys2Proof.Machine

/-! ## Step 1: the measurement (R27) -/

theorem measurementValid_iff {tm : Int} : measurementValid tm = true ↔ 1000 ≤ tm ∧ tm ≤ 62000 := decide_eq_true_iff

/-! ## Step 2: the tolerance (R28) -/

theorem outOfTolerance_iff {k : Ticket} {tm : Int} :
    outOfTolerance k tm = true ↔ (k.tolerance : Int) < |tm - k.nominal| := decide_eq_true_iff

/-! ## Step 3: the raw step (R29) and the glue step (R30) -/

theorem rawStep_of_fixed {p : Snapshot} (tm : Int) (h : p.mode = .fixed) : rawStep p tm = p.fixedStep := by
  simp [rawStep, h]

/-- A thickness equal to the threshold takes the thick step. -/
theorem rawStep_of_twoClass {p : Snapshot} (tm : Int) (h : p.mode = .twoClass) :
    rawStep p tm = if (p.threshold : Int) ≤ tm then (p.thickStep : Int) else p.thinStep := by
  simp only [rawStep, h, ← not_lt, ite_not]

/-- The model's integer division is the floor of the exact quotient, a negative numerator included. -/
theorem rawStep_of_computed {p : Snapshot} (tm : Int) (h : p.mode = .computed) :
    rawStep p tm = p.baseStep + ⌊((tm : ℚ) - 2000) / 4000⌋ := by
  have hfloor : ⌊((tm : ℚ) - 2000) / 4000⌋ = (tm - 2000) / 4000 := by
    exact_mod_cast Rat.floor_intCast_div_natCast (tm - 2000) 4000
  simp [rawStep, h, hfloor]

/-- The glue step and its flag, from any expression of the raw step. -/
theorem glueStep_of_rawStep {p : Snapshot} {tm raw : Int} (hraw : rawStep p tm = raw) :
    (raw + p.offset < 0 → glueStepOf p tm = 0 ∧ glueClamped p tm = true)
      ∧ (15 < raw + p.offset → glueStepOf p tm = 15 ∧ glueClamped p tm = true)
      ∧ (0 ≤ raw + p.offset → raw + p.offset ≤ 15 →
        (glueStepOf p tm : Int) = raw + p.offset ∧ glueClamped p tm = false) := by
  simp only [glueStepOf, glueClamped, clampInt, hraw, decide_eq_true_eq, decide_eq_false_iff_not]
  omega

/-! ## Step 4: the glue film and the spine width (R31) -/

theorem setpointsOf_spineWidth (k : Ticket) (p : Snapshot) (tm : Int) :
    (setpointsOf k p tm).spineWidth = tm + 2 * k.coverStock + (300 + 40 * (setpointsOf k p tm).glueStep) := rfl

/-! ## Step 5: the score positions (R32) and their rounding (R33) -/

theorem backScore_eq_floor (k : Ticket) (ws : Int) :
    ⌊(k.coverWidth : ℚ) / 2⌋ - ⌊(ws : ℚ) / 2⌋ = backScore k ws := by
  have hcentre : ⌊(k.coverWidth : ℚ) / 2⌋ = (k.coverWidth : Int) / 2 := Rat.floor_intCast_div_natCast k.coverWidth 2
  have hhalf : ⌊(ws : ℚ) / 2⌋ = ws / 2 := Rat.floor_intCast_div_natCast ws 2
  rw [hcentre, hhalf, backScore]

/-- `round10` answers the multiple of 10 nearest to its argument, the upper one at a remainder of 5. -/
theorem round10_nearest (x : Int) : round10 x % 10 = 0 ∧ x - 5 < round10 x ∧ round10 x ≤ x + 5 := by
  unfold round10
  omega

/-! ## Step 6: the geometry check (R34) -/

/-- The edge conditions are on the outermost scores: the outer ones with a hinge, the spine scores without. -/
theorem geometryHolds_iff {k : Ticket} {sp : Setpoints} :
    geometryHolds k sp = true ↔ 5000 ≤ sp.outer.elim sp.s2 Prod.fst
      ∧ sp.outer.elim sp.s3 Prod.snd ≤ (k.coverWidth : Int) - 5000 ∧ (k.trimWidth : Int) ≤ sp.s2
      ∧ (k.trimWidth : Int) ≤ (k.coverWidth : Int) - sp.s3 := by
  cases hout : sp.outer with
  | none => simp [geometryHolds, hout]
  | some scores => simp [geometryHolds, hout]

/-! ## The record -/

section
variable (k : Ticket) (p : Snapshot) (c : Fin 20) (gap : BitVec 16) (z : Int) (now : Time)

/-- An invalid measurement ends the computation at step 1. -/
theorem loadedBook_of_invalid (h : ¬(1000 ≤ measuredThickness gap z ∧ measuredThickness gap z ≤ 62000)) :
    let b := loadedBook k p c gap z now
    b.setpoints = none ∧ b.verdict = .notChecked ∧ b.reason = some .thickness := by
  have hinvalid : measurementValid (measuredThickness gap z) = false := by
    rwa [← measurementValid_iff, Bool.not_eq_true] at h
  simp [loadedBook, hinvalid]

/-- A valid measurement takes the computation through all six steps, and THICKNESS goes before GEOMETRY (R17). -/
theorem loadedBook_of_valid (h : 1000 ≤ measuredThickness gap z ∧ measuredThickness gap z ≤ 62000) :
    let b := loadedBook k p c gap z now
    let tm := measuredThickness gap z
    let ok := geometryHolds k (setpointsOf k p tm)
    b.setpoints = some (setpointsOf k p tm) ∧ b.verdict = (if ok then .pass else .fail)
      ∧ b.reason = if outOfTolerance k tm then some .thickness else if ok then none else some .geometry := by
  simp [loadedBook, measurementValid_iff.mpr h]

end

/-- Settles O32: a case split on the measurement's validity; a valid one gives the fields step by step. -/
theorem loadFieldsFollowSixSteps : Obligations.LoadFieldsFollowSixSteps := by
  unfold Obligations.LoadFieldsFollowSixSteps
  intro k p c gap z now b tm
  refine ⟨rfl, rfl, rfl, rfl, rfl, rfl, ?invalid, ?valid⟩
  case invalid =>
    intro hout
    exact loadedBook_of_invalid k p c gap z now fun ⟨hlow, hhigh⟩ => hout.elim hlow.not_gt hhigh.not_gt
  case valid =>
    intro hlow hhigh
    obtain ⟨hset, hverdict, hreason⟩ := loadedBook_of_valid k p c gap z now ⟨hlow, hhigh⟩
    refine ⟨setpointsOf k p tm, hset, glueStep_of_rawStep ?raw, setpointsOf_spineWidth k p tm, ?scores, ?geometry⟩
    case raw =>
      split
      next hmode => exact rawStep_of_fixed tm hmode
      next hmode => exact rawStep_of_twoClass tm hmode
      next hmode => exact rawStep_of_computed tm hmode
    case scores =>
      intro u2 u3 rounds
      have hu2 : u2 = backScore k (setpointsOf k p tm).spineWidth := backScore_eq_floor k _
      have hs2 : (setpointsOf k p tm).s2 = round10 u2 := congrArg round10 hu2.symm
      have hs3 : (setpointsOf k p tm).s3 = round10 u3 :=
        congrArg (fun u => round10 (u + (setpointsOf k p tm).spineWidth)) hu2.symm
      refine ⟨hs2 ▸ round10_nearest u2, hs3 ▸ round10_nearest u3, fun hnone => ?_, fun h hsome => ?_⟩
      · simp [setpointsOf, hnone]
      · have houter : (setpointsOf k p tm).outer = some (round10 (u2 - h), round10 (u3 + h)) := by
          simp [setpointsOf, hsome, u3, hu2]
        exact ⟨_, _, houter, round10_nearest (u2 - h), round10_nearest (u3 + h)⟩
    case geometry =>
      intro s1 s4 fits
      have hfits : geometryHolds k (setpointsOf k p tm) = true ↔ fits := geometryHolds_iff
      refine ⟨fun hf => ?_, fun hf => ?_, fun htol => ?_, fun htol => ?_⟩
      · exact hverdict.trans (if_pos (hfits.mpr hf))
      · exact hverdict.trans (if_neg (mt hfits.mp hf))
      · exact hreason.trans (if_pos (outOfTolerance_iff.mpr htol))
      · have hwithin : ¬outOfTolerance k tm = true := mt outOfTolerance_iff.mp htol.not_gt
        exact (hreason.trans (if_neg hwithin)).trans (if_congr hfits rfl rfl)

end Sys2Proof.Machine

/-! PROOFS. A group node's answer in its slot (R50, R153, R154), the end of its job, and zero learning (R44, R45). -/

namespace Sys2Proof.Machine

/-! ## The slot (R153) -/

/-- A node's answer without a restart mark is taken: the step's outputs empty, the node PRESENT with no miss (R152). -/
def slotHeard (n : NodeId) (s : State) : State :=
  setNode n { nodeRec s n with state := .present, misses := 0, lastAnswer := s.clock } (clearOut s)

/-- No presence of a group node is told to the Delivery Unit. -/
theorem nodeAnswered_station (st : Station) (s : State) :
    nodeAnswered (stationNode st) false (clearOut s) = slotHeard (stationNode st) s := by
  have hgroup : (stationNode st == NodeId.cooling) = false := by cases st <;> rfl
  simp only [nodeAnswered, hgroup, Bool.and_false]
  rfl

@[simp] theorem slotTemp_none (n : NodeId) (s : State) : slotTemp n none s = s := by cases n <;> rfl

theorem slotClosed_of_poll {s : State} {tag : Byte} {slot : Nat} (h : s.bus.current = some (.poll tag slot)) :
    slotClosed s = { s with bus := { s.bus with current := some (.poll tag (slot + 1)) } } := by
  simp only [slotClosed, h]

/-- A dwell with a job that has not ended goes on (R53). -/
theorem dwellCheck_of_open {s : State} (h : ∃ k ∈ s.car.jobs, k.ended = false) : dwellCheck s = s := by
  obtain ⟨k, hmem, hopen⟩ := h
  have hall : s.car.jobs.all Job.ended = false := List.all_eq_false.mpr ⟨k, hmem, by simp [hopen]⟩
  simp [dwellCheck, hall]

/-! ## The end of the job (R47, R50, R51) -/

theorem station_of_jobAt {s : State} {st : Station} {j : Job} (h : jobAt s st = some j) : j.item.station = st := by
  simpa using List.find?_some h

theorem jobAt_endJob {s : State} {st : Station} {j : Job} (e : JobStatus) (h : jobAt s st = some j) :
    jobAt (endJob st e s) st = some { j with status := e, limit := .suspended } := by
  have hkeeps : (fun k : Job => k.item.station == st) ∘ (fun k : Job =>
      if k.item.station == st then { k with status := e, limit := .suspended } else k)
      = fun k : Job => k.item.station == st := by
    funext k
    by_cases hk : k.item.station = st <;> simp [hk]
  unfold jobAt at h
  simp only [jobAt, endJob, updateJob_car_jobs, List.find?_map, hkeeps, h, Option.map_some,
    station_of_jobAt h, beq_self_eq_true, if_true]

/-- The end of one station's job leaves the other stations' jobs. -/
theorem mem_endJob_of_ne {s : State} {st : Station} {k : Job} (e : JobStatus) (h : k ∈ s.car.jobs)
    (hne : k.item.station ≠ st) : k ∈ (endJob st e s).car.jobs :=
  List.mem_map.mpr ⟨k, h, by simp [hne]⟩

/-- The job of the station ends and its count returns to 0, before what its result brings. -/
def jobTaken (st : Station) (e : JobStatus) (s : State) : State :=
  setOverrun st 0 (endJob st e (slotHeard (stationNode st) s))

section
variable {s : State} {st : Station} {j : Job} {tag : Byte} {slot : Nat}

/-- A slot answer in its own slot (R50, R153). -/
theorem exec_slotAnswer (h : AnswersJob s st j tag slot) (jobs : List (Station × JobAnswer)) (temp : Option Nat) :
    exec (.slotAnswer (stationNode st) jobs temp ⟨false, true⟩) s
      = .next (slotClosed (dwellCheck (slotTemp (stationNode st) temp
        (takeJobs tag (stationNode st) jobs (slotHeard (stationNode st) s))))) := by
  show Host.Outcome.next (live (received true (slotAnswered (stationNode st) jobs temp false)) s) = _
  rw [live_next _ s h.live, received_true]
  simp only [slotAnswered, clearOut_bus, h.bus, h.slot, beq_self_eq_true, if_true, nodeAnswered_station]

/-- DONE of the one job that the answer speaks of (R50). -/
theorem takeStatus_done (h : AnswersJob s st j tag slot) (r : JobResult) :
    takeStatus [(st, .done r)] st (slotHeard (stationNode st) s)
      = jobDone r j (slotHeard (stationNode st) s) := by
  have hjob : jobAt (slotHeard (stationNode st) s) st = some j := h.job
  have hstate : (slotHeard (stationNode st) s).car.state = .dwelling := h.dwelling
  have hflight : j.inFlight = true := by
    rcases h.sent with hs | hs <;> simp [Job.inFlight, hs]
  simp [takeStatus, answerFor, hjob, hstate, hflight, h.open_]

/-- What follows a job's end and touches neither the jobs nor the bus leaves the dwell as it is and the slot is
closed. -/
theorem slotClosed_dwellCheck (h : AnswersJob s st j tag slot) (hgo : DwellGoesOn s st) {e : JobStatus} {u : State}
    (hjobs : u.car.jobs = (jobTaken st e s).car.jobs) (hbus : u.bus = (jobTaken st e s).bus) :
    slotClosed (dwellCheck u) = { u with bus := { u.bus with current := some (.poll tag (slot + 1)) } } := by
  obtain ⟨k, hmem, hother, hopen⟩ := hgo
  rw [dwellCheck_of_open ⟨k, hjobs ▸ mem_endJob_of_ne e hmem hother, hopen⟩]
  exact slotClosed_of_poll (hbus ▸ h.bus)

theorem jobClosed_of_jobTaken (h : AnswersJob s st j tag slot) {e : JobStatus} {t : State}
    (hcar : t.car.state = s.car.state) (hjobs : t.car.jobs = (jobTaken st e s).car.jobs)
    (hnodes : t.bus.nodes = (jobTaken st e s).bus.nodes) (hbus : t.bus.current = some (.poll tag (slot + 1))) :
    JobClosed t st j e tag slot := by
  have hended : jobAt (endJob st e (slotHeard (stationNode st) s)) st
      = some { j with status := e, limit := .suspended } := jobAt_endJob e h.job
  have hrec : nodeRec t (stationNode st)
      = { nodeRec s (stationNode st) with state := .present, misses := 0, lastAnswer := s.clock } := by
    rw [nodeRec, hnodes]
    exact (nodeRec_setNode _ _ _ _).trans (if_pos rfl)
  exact {
    job := by rw [jobAt, hjobs]; exact hended
    bus := hbus
    dwell := hcar.trans h.dwelling
    present := by simp [Machine.present, hrec] }

end

/-! ## Zero learning (R44, R45) -/

theorem clampInt_eq_ite {lo hi x : Int} (h : lo ≤ hi) :
    clampInt lo hi x = if x < lo then lo else if hi < x then hi else x := by
  unfold clampInt
  split_ifs <;> omega

/-- A clamp record after a learning reading (R44, R45). -/
def learnedClamp (gap : BitVec 16) (k : Clamp) : Clamp :=
  if 800 < |gap.toInt| then { k with mark := .suspect } else { k with zero := learnedOffset k.zero gap.toInt }

theorem learnedClamp_book (gap : BitVec 16) (k : Clamp) : (learnedClamp gap k).book = k.book := by
  unfold learnedClamp
  split <;> rfl

/-- A reading within 800 micrometres moves the offset a quarter of the way, kept within 500. -/
theorem learnedClamp_within {gap : BitVec 16} (k : Clamp) (h : |gap.toInt| ≤ 800) :
    let moved := k.zero + (gap.toInt - k.zero).tdiv 4
    (learnedClamp gap k).mark = k.mark
      ∧ (learnedClamp gap k).zero = if moved < -500 then -500 else if 500 < moved then 500 else moved := by
  rw [learnedClamp, if_neg h.not_gt]
  exact ⟨rfl, clampInt_eq_ite (by decide)⟩

theorem learnedClamp_beyond {gap : BitVec 16} (k : Clamp) (h : 800 < |gap.toInt|) :
    (learnedClamp gap k).mark = .suspect ∧ (learnedClamp gap k).zero = k.zero := by
  rw [learnedClamp, if_pos h]
  exact ⟨rfl, rfl⟩

/-- A learning reading changes its clamp's record, and at most the host link besides. -/
theorem learned_eq (gap : BitVec 16) (c : Fin 20) (s : State) :
    ∃ x, learned gap c s = { setClamp c (learnedClamp gap (clampRec s c)) s with host := x } := by
  by_cases h : 800 < |gap.toInt|
  · simp only [learned, learnedClamp, if_pos h]
    exact raiseNotice_host _ _ _
  · simp only [learned, learnedClamp, if_neg h]
    exact ⟨s.host, rfl⟩

/-- A raised notice is on the line or in its latch, on a free line too: a reply that waits goes before it (R182). -/
theorem noticed_raiseNotice (n : Notice) (x : BitVec 32) (s : State) : Noticed n x (raiseNotice n x s) := by
  cases htx : s.host.tx with
  | some f => exact raiseNotice_noticed n x s (by simp [htx])
  | none =>
    cases hreq : s.host.request with
    | none =>
      cases howed : s.host.owed with
      | nil => right; simp [raiseNotice, txPump, nextFrame, nextReport, reportFrame, htx, hreq, howed]
      | cons o rest => left; simp [raiseNotice, txPump, nextFrame, htx, hreq, howed]
    | some r =>
      obtain ⟨k, g, reply⟩ := r
      cases reply with
      | none => right; simp [raiseNotice, txPump, nextFrame, nextReport, reportFrame, htx, hreq]
      | some data => left; simp [raiseNotice, txPump, nextFrame, htx, hreq]

theorem learned_noticed {gap : BitVec 16} (c : Fin 20) (s : State) (h : 800 < |gap.toInt|) :
    Noticed .clampSuspect (BitVec.ofNat 32 c.val) (learned gap c s) := by
  rw [learned, if_pos h]
  exact noticed_raiseNotice _ _ _

/-- DONE of a zero-learning job: the job ends, then its reading is taken (R44). -/
theorem takeJobs_learn {s : State} {j : Job} {tag : Byte} {slot : Nat} (h : AnswersJob s .load j tag slot)
    (hlearn : j.item.params = .learn) (gap : BitVec 16) :
    takeJobs tag .loader [(.load, .done (.gap gap))] (slotHeard .loader s)
      = learned gap j.item.clamp (jobTaken .load .done s) := by
  have htag : (tag == (slotHeard .loader s).car.tag) = true := beq_iff_eq.mpr h.tag
  calc takeJobs tag .loader [(.load, .done (.gap gap))] (slotHeard .loader s)
      = takeStatus [(.load, .done (.gap gap))] .load (slotHeard .loader s) := if_pos htag
    _ = jobDone (.gap gap) j (slotHeard .loader s) := takeStatus_done h _
    _ = loadDone (.gap gap) j (slotHeard .loader s) := by simp only [jobDone, station_of_jobAt h.job]
    _ = learned gap j.item.clamp (jobTaken .load .done s) := by
      simp only [loadDone, hlearn, loadResultFits, if_true]
      rfl

/-- Settles O35: the reading changes one clamp record, which a case split on the reading describes; the rest of the
state is what the job's end and the closed slot leave. -/
theorem zeroLearningMovesOffset : Obligations.ZeroLearningMovesOffset := by
  unfold Obligations.ZeroLearningMovesOffset
  intro s j tag slot gap h hgo hlearn c z moved
  obtain ⟨x, hu⟩ := learned_eq gap c (jobTaken .load .done s)
  have hnotice := learned_noticed (gap := gap) c (jobTaken .load .done s)
  have hexec := exec_slotAnswer h [(.load, .done (.gap gap))] none
  rw [slotTemp_none, show stationNode .load = .loader from rfl, takeJobs_learn h hlearn,
    slotClosed_dwellCheck h hgo (by rw [hu]; rfl) (by rw [hu]; rfl), hu] at hexec
  rw [hu] at hnotice
  have hrec : clampRec (setClamp c (learnedClamp gap (clampRec s c)) (jobTaken .load .done s)) c
      = learnedClamp gap (clampRec s c) := (clampRec_setClamp c _ _ c).trans (if_pos rfl)
  refine ⟨_, hexec, ?closed, ⟨rfl, rfl, rfl, rfl, rfl, rfl, rfl, rfl⟩, ⟨rfl, rfl, rfl, rfl, rfl, rfl⟩, rfl, rfl,
    ?count, ?others, ?book, ?within, ?beyond⟩
  case closed => exact jobClosed_of_jobTaken h rfl rfl rfl rfl
  case count => exact Vector.getElem_set_self _
  case others => exact fun d hd => (clampRec_setClamp c _ _ d).trans (if_neg hd)
  case book => exact (congrArg Clamp.book hrec).trans (learnedClamp_book gap _)
  case within =>
    intro hlow hhigh
    obtain ⟨hmark, hzero⟩ := learnedClamp_within (clampRec s c) (abs_le.mpr ⟨hlow, hhigh⟩)
    exact ⟨(congrArg Clamp.mark hrec).trans hmark, (congrArg Clamp.zero hrec).trans hzero⟩
  case beyond =>
    intro hout
    have hfar : 800 < |gap.toInt| := lt_abs.mpr (hout.symm.imp_right (by omega))
    obtain ⟨hmark, hzero⟩ := learnedClamp_beyond (clampRec s c) hfar
    exact ⟨(congrArg Clamp.mark hrec).trans hmark, (congrArg Clamp.zero hrec).trans hzero, hnotice hfar⟩

end Sys2Proof.Machine

/-! PROOFS. What every step keeps: the relation `Safe` bundles the invariants of chapters 1 to 11, one lemma per shared
operation says that the operation is safe, and the invariants of every step are read off the last one. -/

namespace Sys2Proof.Machine

-- One proof after another: a default field's tactic waits for every proof before it, and side by side the waiting
-- proofs take more threads than the check grants.
set_option Elab.async false

/-! ## The relations -/

/-- The ids of the books on the line, holder by holder (R135). -/
def bookIds (s : State) : List TicketId :=
  clampIds s ++ s.dlv.cooling.map (·.ticket.id) ++ trimIds s ++ s.dlv.done.map (·.ticket.id)

theorem heldIds_eq (s : State) : heldIds s = queueIds s ++ bookIds s := by
  simp [heldIds, bookIds]

theorem loadedClamps_eq (s : State) : loadedClamps s = (clampIds s).length := by
  unfold loadedClamps clampIds
  induction s.car.clamps.toList with
  | nil => rfl
  | cons k l ih =>
    cases hk : k.book with
    | none => simpa [hk] using ih
    | some b => simpa [hk] using ih

/-- Every book on the line has its id among them. -/
theorem booksOnLine_eq (s : State) : booksOnLine s = (bookIds s).length := by
  simp only [booksOnLine, bookIds, loadedClamps_eq, trimIds, List.length_append, List.length_map]

/-- A free transmit line has nothing to send (R182). -/
def HostServed (h : HostLink) : Prop := h.tx = none → nextFrame h = none

/-- A free bus has no frame waiting (R162). -/
def BusServed (b : Bus) : Prop := b.current = none → b.waiting = 0

/-- The link's owed list stays within its bound and its line stays served. -/
structure LinkSafe (g h : HostLink) : Prop where
  owed   : busyOwed g ≤ 8 → busyOwed h ≤ 8
  served : HostServed g → HostServed h

/-- An update of the part, invariant by invariant. What an update does not touch is there by default, so that an
instance names only what its update puts at stake. -/
structure SafeUpdate (s t : State) : Prop where
  pending     : t.pending = s.pending := by rfl
  balance     : Conserved s → t.dlv.loaded = BitVec.ofNat 32 (booksOnLine t) + t.dlv.collected := by
    exact fun h => h.balance
  idleEmpty   : Conserved s → t.trim.state = .idle → t.trim.held = .none := by exact fun h => h.idleEmpty
  infeedFree  : Conserved s → t.dlv.gate = .infeedPush → t.trim.held = .none := by exact fun h => h.infeedFree
  ids         : IdsUnique s → IdsUnique t := by exact id
  queue       : s.tickets.queue.length ≤ 64 → t.tickets.queue.length ≤ 64 := by exact id
  jobs        : s.car.jobs.length ≤ 8 → t.car.jobs.length ≤ 8 := by exact id
  done        : s.dlv.done.length ≤ 32 → t.dlv.done.length ≤ 32 := by exact id
  diverts     : s.car.diverts ≤ 3 → t.car.diverts ≤ 3 := by exact id
  mismatch    : s.cover.mismatch ≤ 2 → t.cover.mismatch ≤ 2 := by exact id
  settleCount : s.trim.settleCount ≤ 2 → t.trim.settleCount ≤ 2 := by exact id
  overruns    : (∀ i : Fin 8, s.car.overruns[i] ≤ 2) → ∀ i : Fin 8, t.car.overruns[i] ≤ 2 := by exact id
  misses      : (∀ i : Fin 9, s.bus.nodes[i].misses ≤ 3) → ∀ i : Fin 9, t.bus.nodes[i].misses ≤ 3 := by exact id
  restarts    : (∀ i : Fin 9, s.bus.nodes[i].restarts ≤ 255) → ∀ i : Fin 9, t.bus.nodes[i].restarts ≤ 255 := by
    exact id
  link        : LinkSafe s.host t.host := by exact ⟨id, id⟩
  bus         : BusServed s.bus → BusServed t.bus := by exact id
  lineCause   : CausesMatch s → t.line.cause.isSome = (t.line.state == .faulted) := by exact fun h => h.line
  trimCause   : CausesMatch s → t.trim.cause.isSome = (t.trim.state == .faulted) := by exact fun h => h.trimmer
  outputs     : OutputsFollow s → OutputsFollow t := by exact fun h => ⟨h.1, h.2, h.3, h.4, h.5, h.6⟩
  contacts    : t.scan.contacts = s.scan.contacts := by rfl

/-- Every invariant that held before holds after, and the queue of commands is as it was. -/
structure Safe (s t : State) : Prop where
  pending   : t.pending = s.pending
  conserved : Conserved s → Conserved t
  ids       : IdsUnique s → IdsUnique t
  bounded   : Bounded s → Bounded t
  lines     : LinesServed s → LinesServed t
  causes    : CausesMatch s → CausesMatch t
  outputs   : OutputsFollow s → OutputsFollow t
  matrix    : MatrixSound s → MatrixSound t

theorem Safe.refl (s : State) : Safe s s := ⟨rfl, id, id, id, id, id, id, id⟩

theorem Safe.trans {s t u : State} (h : Safe s t) (k : Safe t u) : Safe s u where
  pending := k.pending.trans h.pending
  conserved := k.conserved ∘ h.conserved
  ids := k.ids ∘ h.ids
  bounded := k.bounded ∘ h.bounded
  lines := k.lines ∘ h.lines
  causes := k.causes ∘ h.causes
  outputs := k.outputs ∘ h.outputs
  matrix := k.matrix ∘ h.matrix

theorem Safe.ite {p : Prop} [Decidable p] {s t u : State} (h : p → Safe s t) (k : ¬p → Safe s u) :
    Safe s (if p then t else u) := by
  split
  · exact h ‹_›
  · exact k ‹_›

theorem linesServed_iff {s : State} : LinesServed s ↔ HostServed s.host ∧ BusServed s.bus :=
  ⟨fun h => ⟨h.transmit, h.bus⟩, fun h => ⟨h.1, h.2⟩⟩

section
variable {s t : State}

theorem SafeUpdate.safe (h : SafeUpdate s t) : Safe s t where
  pending := h.pending
  conserved k := ⟨h.balance k, h.idleEmpty k, h.infeedFree k⟩
  ids := h.ids
  bounded k := {
    tickets := h.queue k.tickets
    jobs := h.jobs k.jobs
    owed := h.link.owed k.owed
    done := h.done k.done
    diverts := h.diverts k.diverts
    mismatch := h.mismatch k.mismatch
    settles := h.settleCount k.settles
    overruns := h.overruns k.overruns
    misses := h.misses k.misses
    restarts := h.restarts k.restarts
    counts := h.contacts ▸ k.counts }
  lines k := by
    rw [linesServed_iff] at k ⊢
    exact ⟨h.link.served k.1, h.bus k.2⟩
  causes k := ⟨h.lineCause k, h.trimCause k⟩
  outputs := h.outputs
  matrix k := ⟨h.contacts ▸ k.uncertainOpen, h.contacts ▸ k.noRectangle⟩

/-- A safe update after a safe run. -/
theorem Safe.update {u : State} (h : Safe s t) (k : SafeUpdate t u) : Safe s u := h.trans k.safe

/-- Books that only change places keep the balance. -/
theorem balance_of_perm (h : (bookIds t).Perm (bookIds s)) (hl : t.dlv.loaded = s.dlv.loaded)
    (hc : t.dlv.collected = s.dlv.collected) (k : Conserved s) :
    t.dlv.loaded = BitVec.ofNat 32 (booksOnLine t) + t.dlv.collected := by
  rw [booksOnLine_eq, h.length_eq, hl, hc, ← booksOnLine_eq]
  exact k.balance

/-- Ids that only change places, or leave the line, stay unique. -/
theorem ids_of_subperm (h : (heldIds t).Subperm (heldIds s)) (k : IdsUnique s) : IdsUnique t := by
  obtain ⟨l, hperm, hsub⟩ := h
  exact ⟨hperm.nodup_iff.mp (k.1.sublist hsub), fun h0 => k.2 (hsub.subset (hperm.mem_iff.mpr h0))⟩

theorem ids_of_perm (hq : t.tickets.queue = s.tickets.queue) (h : (bookIds t).Perm (bookIds s)) (k : IdsUnique s) :
    IdsUnique t := by
  refine ids_of_subperm (List.Perm.subperm ?_) k
  rw [heldIds_eq, heldIds_eq, queueIds, queueIds, hq]
  exact h.append_left _

end

/-! ## The host link -/

theorem LinkSafe.trans {f g h : HostLink} (a : LinkSafe f g) (b : LinkSafe g h) : LinkSafe f h :=
  ⟨b.owed ∘ a.owed, b.served ∘ a.served⟩

theorem nextReport_owed {h h' : HostLink} {f : HostFrame} (e : nextReport h = some (f, h')) : h'.owed = h.owed := by
  unfold nextReport at e
  split at e
  · cases e; rfl
  split at e
  · cases e; rfl
  split at e
  · cases e; rfl
  split at e
  · cases e; rfl
  · cases e

/-- Beginning a frame takes at most one reply out of the owed list. -/
theorem nextFrame_owed {h h' : HostLink} {f : HostFrame} (e : nextFrame h = some (f, h')) :
    h'.owed = h.owed ∨ ∃ o, h.owed = o :: h'.owed := by
  unfold nextFrame at e
  split at e
  · cases e; exact .inl rfl
  · exact .inl (nextReport_owed e)
  · split at e
    · rename_i o rest ho
      cases e
      exact .inr ⟨o, ho⟩
    · exact .inl (nextReport_owed e)

theorem busyOwed_nextFrame {h h' : HostLink} {f : HostFrame} (e : nextFrame h = some (f, h')) :
    busyOwed h' ≤ busyOwed h := by
  unfold busyOwed
  rcases nextFrame_owed e with ho | ⟨o, ho⟩
  · rw [ho]
  · rw [ho, List.countP_cons]; omega

/-- The transmit line's work leaves the line served, whatever it found. -/
theorem txPump_served (s : State) : HostServed (txPump s).host := by
  unfold HostServed txPump
  split
  · simp
  · rename_i hno
    intro htx
    cases hn : nextFrame s.host with
    | none => rfl
    | some e => exact absurd hn (hno e.1 e.2 htx)

theorem txPump_busyOwed (s : State) : busyOwed (txPump s).host ≤ busyOwed s.host := by
  unfold txPump
  split
  · rename_i f h _ hn
    exact (busyOwed_nextFrame hn :)
  · exact le_rfl

theorem nextReport_eq_none {h : HostLink} :
    nextReport h = none ↔ h.notice = none ∧ h.stateRep = none ∧ h.doneReady = none ∧ h.ticketsLow = none := by
  unfold nextReport
  cases h.notice <;> cases h.stateRep <;> cases h.doneReady <;> cases h.ticketsLow <;> simp

/-- Nothing is to be sent: no ready reply, no reply owed with none pending, and no report. -/
theorem nextFrame_eq_none {h : HostLink} :
    nextFrame h = none ↔ (∀ r, h.request = some r → r.reply = none) ∧ (h.request = none → h.owed = [])
      ∧ h.notice = none ∧ h.stateRep = none ∧ h.doneReady = none ∧ h.ticketsLow = none := by
  rw [← nextReport_eq_none]
  unfold nextFrame
  rcases h.request with _ | ⟨k, g, _ | d⟩
  · cases h.owed <;> simp
  · simp
  · simp

section
variable {s t : State}

/-- Received bytes and the RESET mark are nothing to send. -/
theorem rx_linkSafe (h : HostLink) (bs : List Byte) (at_ : Time) (taken : Bool) :
    LinkSafe h { h with rx := bs, rxTime := at_, resetTaken := taken } :=
  ⟨id, fun k htx => nextFrame_eq_none.mpr (nextFrame_eq_none.mp (k htx) :)⟩

/-- The link's record changed and its line set to work: the owed tags must stay within their bound. -/
theorem txPump_safe {x : HostLink} (h : Safe s t) (k : busyOwed t.host ≤ 8 → busyOwed x ≤ 8) :
    Safe s (txPump { t with host := x }) := by
  have hsafe : LinkSafe t.host (txPump { t with host := x }).host :=
    ⟨fun b => (txPump_busyOwed { t with host := x }).trans (k b), fun _ => txPump_served _⟩
  obtain ⟨y, hy⟩ := txPump_host { t with host := x }
  rw [hy] at hsafe ⊢
  exact h.update { link := hsafe }

theorem raiseNotice_safe (n : Notice) (x : BitVec 32) (h : Safe s t) : Safe s (raiseNotice n x t) := txPump_safe h id

theorem raiseState_safe (l : LineState) (h : Safe s t) : Safe s (raiseState l t) := txPump_safe h id

theorem raiseDoneReady_safe (n : Nat) (h : Safe s t) : Safe s (raiseDoneReady n t) := txPump_safe h id

theorem raiseTicketsLow_safe (n : Nat) (h : Safe s t) : Safe s (raiseTicketsLow n t) := txPump_safe h id

theorem respond_safe (k g : Byte) (c : Result) (d : List Byte) (h : Safe s t) : Safe s (respond k g c d t) :=
  txPump_safe h id

/-- A reply other than BUSY does not count among the tags owed. -/
theorem owe_safe (k g : Byte) {r : Result} (hr : r ≠ .busy) (h : Safe s t) : Safe s (owe k g r t) := by
  refine txPump_safe h fun hb => ?_
  rw [busyOwed] at hb ⊢
  simpa [List.countP_append, hr] using hb

theorem oweBusy_safe (k g : Byte) (h : Safe s t) : Safe s (oweBusy k g t) := by
  refine .ite (fun hroom => txPump_safe h fun _ => ?_) fun _ => h
  rw [Config.owedCap] at hroom
  have hone : busyOwed { t.host with owed := t.host.owed ++ [⟨k, g, .busy⟩] } = busyOwed t.host + 1 := by
    simp [busyOwed]
  omega

theorem afterRemoval_safe (n : Nat) (h : Safe s t) : Safe s (afterRemoval n t) :=
  .ite (fun _ => raiseTicketsLow_safe _ h) fun _ => h

theorem clearRx_safe (h : Safe s t) : Safe s (clearRx t) := h.update { link := rx_linkSafe _ _ _ _ }

end

/-! ## The station bus -/

theorem enqueue_waiting (f : Frame) (b : Bus) : (b.enqueue f).waiting = b.waiting + 1 := by
  unfold Bus.enqueue Bus.waiting
  cases requesterOf f <;> simp <;> omega

/-- The arbiter takes one frame of those that wait. -/
theorem grant_waiting {b b' : Bus} {f : Frame} (h : b.grant = some (f, b')) : b'.waiting + 1 = b.waiting := by
  unfold Bus.grant at h
  unfold Bus.waiting
  split at h
  · rename_i hq
    cases h
    simp [hq]; omega
  · obtain ⟨r, -, hr⟩ := List.exists_of_findSome?_eq_some h
    cases r <;> simp only [Bus.takeFrom] at hr <;> split at hr <;> cases hr <;> rename_i hq <;> simp [hq] <;> omega

/-- Only an empty bus grants nothing. -/
theorem waiting_of_grant_none {b : Bus} (h : b.grant = none) : b.waiting = 0 := by
  unfold Bus.grant at h
  split at h
  · cases h
  · rename_i hq
    have hall : ∀ r ∈ rotationAfter b.lastServed, b.takeFrom r = none := by simpa using h
    have hr : ∀ r, b.takeFrom r = none := fun r =>
      hall r (by cases b.lastServed <;> cases r <;> simp [rotationAfter])
    have htrim : b.trimQ = [] := by
      cases hb : b.trimQ with
      | nil => rfl
      | cons f q => simpa [Bus.takeFrom, hb] using hr .trimmer
    have hcool : b.coolQ = [] := by
      cases hb : b.coolQ with
      | nil => rfl
      | cons f q => simpa [Bus.takeFrom, hb] using hr .cooling
    have hprobe : b.probeQ = [] := by
      cases hb : b.probeQ with
      | nil => rfl
      | cons f q => simpa [Bus.takeFrom, hb] using hr .probe
    simp [Bus.waiting, hq, htrim, hcool, hprobe]

theorem sendRequest_waiting (r : Request) (s : State) : (sendRequest r s).bus.waiting = s.bus.waiting := by
  have hlimit : (if r.seq.isNone then startLimit r.kind s else s).bus = s.bus := by
    split
    · exact startLimit_nodes _ s
    · rfl
  show Bus.waiting (if r.seq.isNone then startLimit r.kind s else s).bus = _
  rw [hlimit]

theorem sendFrame_waiting (f : Frame) (s : State) : (sendFrame f s).bus.waiting = s.bus.waiting := by
  cases f with
  | req r => exact sendRequest_waiting r s
  | _ => rfl

/-- With fuel for every waiting frame the arbiter leaves the bus served. -/
theorem pump_served (n : Nat) (s : State) (h : s.bus.waiting ≤ n) : BusServed (pump n s).bus := by
  induction n generalizing s with
  | zero => exact fun _ => Nat.le_zero.mp h
  | succ n ih =>
    unfold pump
    split
    · rename_i f b _ hg
      apply ih
      have hone : b.waiting + 1 = s.bus.waiting := grant_waiting hg
      rw [sendFrame_waiting]
      show b.waiting ≤ n
      omega
    · rename_i hno
      intro hfree
      cases hg : s.bus.grant with
      | none => exact waiting_of_grant_none hg
      | some e => exact absurd hg (hno e.1 e.2 hfree)

theorem busPump_served (s : State) : BusServed (busPump s).bus := pump_served _ s le_rfl

theorem nodeIdx_surjective : ∀ i : Fin 9, ∃ n ∈ allNodes, nodeIdx n = i := by decide

section
variable {s t : State}

/-- Bus work that leaves the bus served is a safe update. -/
theorem BusWork.safeUpdate (h : BusWork s t) (k : BusServed s.bus → BusServed t.bus) : SafeUpdate s t := by
  obtain ⟨jobs, m, hcar, hjobs⟩ := h.car
  obtain ⟨x, y, z, htrim⟩ := h.trim
  have hbooks : (bookIds t).Perm (bookIds s) := by
    simp only [bookIds, clampIds, trimIds, heldBook, hcar, h.dlv, htrim]
    exact .refl _
  exact {
    pending := h.pending
    balance := balance_of_perm hbooks (by rw [h.dlv]) (by rw [h.dlv])
    idleEmpty := by rw [htrim]; exact fun k => k.idleEmpty
    infeedFree := by rw [htrim, h.dlv]; exact fun k => k.infeedFree
    ids := ids_of_perm (by rw [h.tickets]) hbooks
    queue := by rw [h.tickets]; exact id
    done := by rw [h.dlv]; exact id
    settleCount := by rw [htrim]; exact id
    jobs := by rw [hcar, hjobs.length_eq]; exact id
    overruns := by rw [hcar]; exact id
    diverts := by rw [hcar]; exact id
    mismatch := by rw [h.mismatch]; exact id
    misses := fun k i => by obtain ⟨n, -, rfl⟩ := nodeIdx_surjective i; exact (h.misses n).le.trans (k _)
    restarts := fun k i => by obtain ⟨n, -, rfl⟩ := nodeIdx_surjective i; exact (h.restarts n).le.trans (k _)
    link := by rw [h.host]; exact ⟨id, id⟩
    bus := k
    lineCause := by rw [h.line]; exact fun k => k.line
    trimCause := by rw [htrim]; exact fun k => k.trimmer
    outputs := fun k => by
      refine ⟨?_, ?_, ?_, ?_, ?_, ?_⟩ <;> rw [h.line]
      exacts [k.fault, k.heat, k.drive, k.trim, k.ready, by rw [h.glue, h.settings]; exact k.target]
    contacts := by rw [h.scan] }

/-- The bus changed but for its node table, and its arbiter set to work. -/
theorem busPump_safe {b : Bus} (hb : b.nodes = t.bus.nodes) (h : Safe s t) : Safe s (busPump { t with bus := b }) :=
  h.update (((BusWork.ofBus t b hb).trans (busPump_busWork _)).safeUpdate fun _ => busPump_served _)

/-- The bus changed but for its node table, its arbiter having no more to do than before. -/
theorem bus_safe {b : Bus} (hn : b.nodes = t.bus.nodes) (hb : BusServed t.bus → BusServed b) (h : Safe s t) :
    Safe s { t with bus := b } :=
  h.update ((BusWork.ofBus t b hn).safeUpdate hb)

theorem handOver_safe (f : Frame) (h : Safe s t) : Safe s (handOver f t) := busPump_safe (enqueue_nodes f _) h

theorem handRequest_safe (n : NodeId) (k : ReqKind) (h : Safe s t) : Safe s (handRequest n k t) := handOver_safe _ h

theorem abortStation_safe (st : Station) (h : Safe s t) : Safe s (abortStation st t) :=
  .ite (fun _ => handOver_safe _ h) fun _ => h

theorem abortTrimmer_safe (h : Safe s t) : Safe s (abortTrimmer t) := .ite (fun _ => handOver_safe _ h) fun _ => h

theorem endTransaction_safe (h : Safe s t) : Safe s (endTransaction t) := busPump_safe rfl h

/-- Frames taken out of the queues leave a served bus served. -/
theorem served_of_fewer {a b : Bus} (hc : b.current = none → a.current = none) (hw : b.waiting ≤ a.waiting)
    (h : BusServed a) : BusServed b := fun hb => Nat.le_zero.mp (h (hc hb) ▸ hw)

theorem giveUp_current {p : Request → Bool} (h : (giveUp p t).bus.current = none) : t.bus.current = none := by
  unfold giveUp at h
  simp only at h
  split at h
  · cases h
  · exact h

theorem giveUp_waiting (p : Request → Bool) : (giveUp p t).bus.waiting ≤ t.bus.waiting := by
  simp only [giveUp, Bus.waiting]
  have := List.length_filter_le (fun f => !frameReq p f) t.bus.carQ
  have := List.length_filter_le (fun f => !frameReq p f) t.bus.trimQ
  have := List.length_filter_le (fun f => !frameReq p f) t.bus.coolQ
  have := List.length_filter_le (fun f => !frameReq p f) t.bus.probeQ
  omega

theorem giveUp_safe (p : Request → Bool) (h : Safe s t) : Safe s (giveUp p t) :=
  h.update ((giveUp_busWork p t).safeUpdate (served_of_fewer giveUp_current (giveUp_waiting p)))

theorem slowPolls_safe (h : Safe s t) : Safe s (slowPolls t) := .ite (fun _ => h.update {}) fun _ => h

/-- Frames dropped from the carousel's queue. -/
theorem dropCarFrames_safe (p : Frame → Bool) (h : Safe s t) :
    Safe s { t with bus := { t.bus with carQ := t.bus.carQ.filter p } } := by
  refine h.update { bus := served_of_fewer id ?_ }
  have := List.length_filter_le p t.bus.carQ
  simp only [Bus.waiting]
  omega

end

end Sys2Proof.Machine

/-! PROOFS. The Line and Carousel Controllers keep the invariants, one lemma per operation. -/

namespace Sys2Proof.Machine

set_option Elab.async false -- as in the first part

/-! ## Line states -/

theorem raiseState_line (l : LineState) (s : State) : (raiseState l s).line = s.line := by
  obtain ⟨x, hx⟩ := raiseState_host l s
  rw [hx]

theorem raiseNotice_line (n : Notice) (x : BitVec 32) (s : State) : (raiseNotice n x s).line = s.line := by
  obtain ⟨y, hy⟩ := raiseNotice_host n x s
  rw [hy]

theorem enterState_state (l : LineState) (s : State) : (enterState l s).line.state = l := by
  rw [enterState, raiseState_line]

theorem entryTests_state (s : State) : (entryTests s).line.state = s.line.state := by
  unfold entryTests
  simp only
  split
  · rw [raiseNotice_line]
  · rfl

theorem glueFollow_target (l : LineState) (c : Settings) (g : GlueUnit) :
    (glueFollow l c g).target = potTargetOf l c := rfl

/-- Outside the states in which READY flashes, it is lit in the moving states (R121). -/
theorem lampsOf_ready {l : LineState} {latch : Bool} (hw : l ≠ .warming) (hh : l ≠ .held) :
    (lampsOf l latch).ready = (l == .running || l == .draining) := by
  cases l with
  | warming => exact absurd rfl hw
  | held => exact absurd rfl hh
  | _ => rfl

section
variable {s t : State}

/-- Outside FAULTED no cause is recorded. -/
theorem cause_isSome_of_ne_faulted {l : LineState} (hl : l ≠ .faulted) (ht : t.line.state ≠ .faulted)
    (k : CausesMatch t) : t.line.cause.isSome = (l == .faulted) := by
  rw [k.line, beq_false_of_ne hl, beq_false_of_ne ht]

/-- A line state's entry from any line record: its outputs and target follow it, and its cause must be named in
FAULTED and none elsewhere. -/
theorem enterState_safe {l : LineState} {x : Line} (hc : CausesMatch t → x.cause.isSome = (l == .faulted)) (h : Safe s t) :
    Safe s (enterState l { t with line := x }) := by
  have hmid : Safe t { t with
      line := { x with
        state := l
        halt := false
        park := false
        lamps := lampsOf l x.estopLatch
        flashBase := t.clock }
      glue := glueFollow l t.settings t.glue
      cover := if l == .running || l == .draining then { t.cover with mismatch := 0 } else t.cover
      car := if l == .running then { t.car with diverts := 0 } else t.car } := by
    have hcar : (if l == .running then { t.car with diverts := 0 } else t.car)
        = { t.car with diverts := if l == .running then 0 else t.car.diverts } := by split <;> rfl
    have hcover : (if l == .running || l == .draining then { t.cover with mismatch := 0 } else t.cover)
        = { t.cover with mismatch := if l == .running || l == .draining then 0 else t.cover.mismatch } := by
      split <;> rfl
    rw [hcar, hcover]
    refine SafeUpdate.safe {
      diverts := fun k => ?_
      mismatch := fun k => ?_
      lineCause := hc
      outputs := fun _ => ?_ }
    · dsimp only; split; exacts [Nat.zero_le _, k]
    · dsimp only; split; exacts [Nat.zero_le _, k]
    · refine ⟨rfl, rfl, rfl, rfl, lampsOf_ready, ?_⟩
      cases l <;> rfl
  exact raiseState_safe l (h.trans hmid)

theorem enterHeld_safe (ht : t.line.state ≠ .faulted) (h : Safe s t) : Safe s (enterHeld t) :=
  enterState_safe (cause_isSome_of_ne_faulted (by decide) ht) h

theorem startStandby_safe (h : Safe s t) : Safe s (startStandby t) := h.update {}

theorem stopStandby_safe (h : Safe s t) : Safe s (stopStandby t) := h.update {}

theorem entryTests_safe (h : Safe s t) : Safe s (entryTests t) :=
  .ite (fun _ => raiseNotice_safe _ _ (h.update {})) fun _ => h.update {}

theorem uncaused (ht : t.line.state ≠ .faulted) : CausesMatch t → t.line.cause.isSome = false :=
  cause_isSome_of_ne_faulted (l := .running) (by decide) ht

/-- PARKED is entered from a record without a cause. -/
theorem enterParked_safe_of {x : Line} (hc : CausesMatch t → x.cause.isSome = false) (h : Safe s t) :
    Safe s (enterParked { t with line := x }) :=
  enterState_safe (t := t) hc h

theorem enterParked_safe (ht : t.line.state ≠ .faulted) (h : Safe s t) : Safe s (enterParked t) :=
  enterParked_safe_of (uncaused ht) h

theorem enterRunning_safe (ht : t.line.state ≠ .faulted) (h : Safe s t) : Safe s (enterRunning t) := by
  unfold enterRunning
  have k := entryTests_safe (enterState_safe (l := .running)
    (x := { t.line with warmTimer := none, parkTimer := none, drainRelease := false }) (uncaused ht) h)
  refine .ite (fun _ => enterHeld_safe ?_ k) fun _ => .ite (fun _ => startStandby_safe k) fun _ => k
  rw [entryTests_state, enterState_state]
  decide

theorem enterWarming_safe (ht : t.line.state ≠ .faulted) (h : Safe s t) : Safe s (enterWarming t) := by
  unfold enterWarming
  have k := enterState_safe (l := .warming)
    (x := { t.line with parkTimer := none, standbyTimer := none, warmTimer := some t.clock }) (uncaused ht) h
  refine .ite (fun _ => enterRunning_safe ?_ k) fun _ => k
  rw [enterState_state]
  decide

theorem enterStandby_safe (ht : t.line.state ≠ .faulted) (h : Safe s t) : Safe s (enterStandby t) := by
  unfold enterStandby
  have k := enterState_safe (l := .standby)
    (x := { t.line with standbyTimer := none, parkTimer := some (t.clock, t.settings.parkDelay * 1000) })
    (uncaused ht) h
  refine .ite (fun _ => enterWarming_safe ?_ k) fun _ => k
  rw [enterState_state]
  decide

/-- DRAINING is entered from a record without a cause. -/
theorem enterDraining_safe_of {x : Line} (hc : CausesMatch t → x.cause.isSome = false) (h : Safe s t) :
    Safe s (enterDraining { t with line := x }) := by
  unfold enterDraining
  have k := entryTests_safe (enterState_safe (t := t) (l := .draining)
    (x := { x with standbyTimer := none, drainRelease := false }) hc h)
  refine .ite (fun _ => enterHeld_safe ?_ k) fun _ => .ite (fun _ => enterStandby_safe ?_ k) fun _ => k
  all_goals
    rw [entryTests_state, enterState_state]
    decide

theorem enterDraining_safe (ht : t.line.state ≠ .faulted) (h : Safe s t) : Safe s (enterDraining t) :=
  enterDraining_safe_of (uncaused ht) h

theorem lineHold_safe (c : HoldCause) (h : Safe s t) : Safe s (lineHold c t) := by
  unfold lineHold
  have k : Safe s { t with line := { t.line with holds := t.line.holds.add c } } := h.update {}
  split
  · rename_i hl
    exact .ite (fun _ => enterHeld_safe (by simp [hl]) k) fun _ => k
  · rename_i hl
    exact .ite (fun _ => enterHeld_safe (by simp [hl]) k) fun _ => k
  · exact k
  · exact h

/-! ## Faults -/

theorem dropReservation_safe (h : Safe s t) : Safe s (dropReservation t) := h.update {}

theorem removeEntry_safe (h : Safe s t) : Safe s (removeEntry t) := h.update {}

theorem discardEarly_safe (h : Safe s t) : Safe s (discardEarly t) := by
  unfold discardEarly
  split
  · exact h.update {}
  · exact h

theorem unhome_safe (h : Safe s t) : Safe s (unhome t) := h.update {}

theorem setWorked_safe (w : Bool) (h : Safe s t) : Safe s (setWorked w t) := h.update {}

theorem setCarState_safe (c : CarState) (h : Safe s t) : Safe s (setCarState c t) := h.update {}

theorem updateJob_safe (st : Station) (f : Job → Job) (h : Safe s t) : Safe s (updateJob st f t) :=
  h.update { jobs := by simp }

theorem endJob_safe (st : Station) (e : JobStatus) (h : Safe s t) : Safe s (endJob st e t) := updateJob_safe _ _ h

theorem setOverrun_safe (st : Station) {n : Nat} (hn : n ≤ 2) (h : Safe s t) : Safe s (setOverrun st n t) := by
  refine h.update { overruns := fun k i => ?_ }
  simp only [setOverrun, Fin.getElem_fin, Vector.getElem_set]
  split
  · exact hn
  · exact k i

theorem abortDwell_safe (h : Safe s t) : Safe s (abortDwell t) := by
  unfold abortDwell
  have k := handOver_safe .abortAll h
  have k₁ := Safe.ite (p := (handOver .abortAll t).car.jobs.any Job.openLoad = true)
    (fun _ => dropReservation_safe k) fun _ => k
  have k₂ := Safe.ite
    (p := ((handOver .abortAll t).car.jobs.any fun j => j.inFlight && j.item.station == .apply) = true)
    (fun _ => removeEntry_safe k₁) fun _ => k₁
  have k₃ := Safe.ite
    (p := ((handOver .abortAll t).car.jobs.any fun j =>
      !j.ended && j.item.station == .release && !j.releaseDone) = true)
    (fun _ => discardEarly_safe k₂) fun _ => k₂
  exact slowPolls_safe ((dropCarFrames_safe _ k₃).update { jobs := by simp })

theorem carFault_safe (e : Bool) (h : Safe s t) : Safe s (carFault e t) := by
  unfold carFault
  split
  · have k := setWorked_safe false (abortDwell_safe h)
    exact .ite (fun _ => unhome_safe k) fun _ => setCarState_safe _ k
  · exact setWorked_safe _ (unhome_safe (giveUp_safe _ h))
  · exact setWorked_safe _ (unhome_safe (giveUp_safe _ h))
  · exact .ite (fun _ => unhome_safe h) fun _ => h
  · exact h

theorem Book.withReason_ticket (b : Book) (r : RejectReason) : (b.withReason r).ticket = b.ticket := by
  unfold Book.withReason
  split <;> rfl

/-- The clamps' ids are those of each clamp in turn. -/
theorem clampIds_eq_finRange (s : State) :
    clampIds s = (List.finRange 20).filterMap fun c => (bookIn s c).map (·.ticket.id) := by
  have hlist : s.car.clamps.toList = (List.finRange 20).map fun c => s.car.clamps[c] := by
    apply List.ext_getElem
    · simp
    · intro i h₁ h₂
      simp
  rw [clampIds, hlist, List.filterMap_map]
  rfl

/-- Clamps that keep their books' ids. -/
theorem clampIds_congr (h : ∀ c, (bookIn t c).map (·.ticket.id) = (bookIn s c).map (·.ticket.id)) :
    clampIds t = clampIds s := by
  rw [clampIds_eq_finRange, clampIds_eq_finRange]
  exact congrArg (fun f => (List.finRange 20).filterMap f) (funext h)

/-- Clamps replaced by others that hold the same books. -/
theorem books_safe {v : Vector Clamp 20} (hv : clampIds { t with car := { t.car with clamps := v } } = clampIds t)
    (h : Safe s t) : Safe s { t with car := { t.car with clamps := v } } := by
  have hbooks : bookIds { t with car := { t.car with clamps := v } } = bookIds t :=
    congrArg (fun l => l ++ t.dlv.cooling.map (·.ticket.id) ++ trimIds t ++ t.dlv.done.map (·.ticket.id)) hv
  exact h.update { balance := balance_of_perm (.of_eq hbooks) rfl rfl, ids := ids_of_perm rfl (.of_eq hbooks) }

theorem faultBooks_clampIds (s : State) : clampIds (faultBooks s) = clampIds s := by
  refine clampIds_congr fun c => ?_
  rw [bookIn_eq, clampRec_faultBooks]
  cases bookIn s c with
  | none => rfl
  | some b => simp [Book.withReason_ticket]

theorem faultBooks_safe (h : Safe s t) : Safe s (faultBooks t) := by
  have hids := faultBooks_clampIds t
  obtain ⟨v, hv⟩ : ∃ v, faultBooks t = { t with car := { t.car with clamps := v } } := ⟨_, rfl⟩
  rw [hv] at hids ⊢
  exact books_safe hids h

theorem enterFaulted_safe (c : FaultCause) (h : Safe s t) : Safe s (enterFaulted c t) := by
  unfold enterFaulted
  have hx := enterState_safe (l := .faulted) (x := { t.line with
    cause := some c, holds := .empty, drainRelease := false
    warmTimer := none, standbyTimer := none, parkTimer := none }) (fun _ => rfl) (faultBooks_safe h)
  exact carFault_safe _ hx

theorem lineFault_safe (c : FaultCause) (h : Safe s t) : Safe s (lineFault c t) := by
  unfold lineFault
  split
  · exact h
  · exact h
  · rename_i hl
    have k : Safe s { t with line := { t.line with cause := some c } } :=
      h.update { lineCause := fun _ => by simp [hl] }
    exact .ite (fun _ => unhome_safe k) fun _ => k
  · exact enterFaulted_safe c h

/-! ## Dwells and moves -/

/-- A clamp's book changed for one of the same ticket. -/
theorem setBook_safe (c : Fin 20) {b b' : Book} (e : bookIn t c = some b) (k : b'.ticket.id = b.ticket.id)
    (h : Safe s t) : Safe s (setBook c (some b') t) := by
  refine books_safe (clampIds_congr fun i => ?_) h
  show (bookIn (setBook c (some b') t) i).map _ = _
  rw [bookIn_setBook]
  split
  · rename_i hi; rw [hi, e]; exact congrArg some k
  · rfl

theorem setReason_safe (c : Fin 20) (r : RejectReason) (h : Safe s t) : Safe s (setReason c r t) := by
  unfold setReason
  split
  · rename_i b e; exact setBook_safe c e (by rw [Book.withReason_ticket]) h
  · exact h

theorem openTimeCheck_safe (h : Safe s t) : Safe s (openTimeCheck t) := by
  unfold openTimeCheck
  split
  · exact h
  · split
    · exact h
    · exact .ite (fun _ => setReason_safe _ _ h) fun _ => h

theorem beginDwell_safe (k : DwellKind) {l : List Job} (hl : l.length ≤ 8) (h : Safe s t) :
    Safe s (beginDwell k l t) := by
  unfold beginDwell
  simp only
  split
  · exact stopStandby_safe (h.update { jobs := fun _ => hl })
  · exact handOver_safe _ (stopStandby_safe (h.update { jobs := fun _ => hl }))

theorem sendIndex_safe (h : Safe s t) : Safe s (sendIndex t) := by
  unfold sendIndex
  have k : Safe s (stopStandby { t with car := { t.car with state := .indexing, moveTimer := none } }) :=
    stopStandby_safe (h.update {})
  exact .ite (fun _ => handRequest_safe _ _ k) fun _ => lineFault_safe _ k

theorem sendHome_safe (h : Safe s t) : Safe s (sendHome t) := by
  unfold sendHome
  have k : Safe s { t with car := { t.car with state := .homing, moveTimer := none } } := h.update {}
  exact .ite (fun _ => handRequest_safe _ _ k) fun _ => lineFault_safe _ k

theorem carStood_safe {again : State → State} (ha : ∀ u, Safe s u → Safe s (again u)) (n e : Bool)
    (h : Safe s t) : Safe s (carStood again n e t) := by
  unfold carStood
  split
  · rename_i hl
    refine .ite (fun _ => enterHeld_safe (by simp [hl]) h) fun _ => ?_
    have k : Safe s (if (n && !anyLoaded t) = true then startStandby t else t) :=
      .ite (fun _ => startStandby_safe h) fun _ => h
    refine .ite (fun _ => ?_) fun _ => k
    split
    · exact beginDwell_safe _ (by simp) k
    · exact k
  · rename_i hl
    have hne : t.line.state ≠ .faulted := by simp [hl]
    refine .ite (fun _ => .ite (fun _ => enterHeld_safe hne h) fun _ => h) fun _ => ?_
    refine .ite (fun _ => enterParked_safe hne h) fun _ => ?_
    exact .ite (fun _ => enterHeld_safe hne h) fun _ => ha _ (enterStandby_safe hne h)
  · exact h

theorem carDecide_safe {again : State → State} (ha : ∀ u, Safe s u → Safe s (again u)) (n e : Bool)
    (h : Safe s t) : Safe s (carDecide again n e t) := by
  have hs : Safe s (carStood again n e (setCarState .standing t)) :=
    carStood_safe ha n e (setCarState_safe _ h)
  unfold carDecide
  refine .ite (fun _ => hs) fun _ => ?_
  split
  · exact hs
  · refine .ite (fun _ => ?_) fun _ => .ite (fun _ => sendIndex_safe h) fun _ => hs
    split
    · exact beginDwell_safe _ (by simp) h
    · exact hs

theorem lineDwellEnd_safe (h : Safe s t) : Safe s (lineDwellEnd t) := by
  unfold lineDwellEnd
  split
  · rename_i hl
    have hne : t.line.state ≠ .faulted := by simp [hl]
    refine .ite (fun _ => enterHeld_safe hne h) fun _ => ?_
    exact .ite (fun _ => enterDraining_safe hne h) fun _ => h
  · rename_i hl
    refine .ite (fun _ => ?_) fun _ => h
    exact .ite (fun _ => h) fun _ => enterHeld_safe (by simp [hl]) h
  · exact h

theorem carDwellEnd_safe {again : State → State} (ha : ∀ u, Safe s u → Safe s (again u))
    (h : Safe s t) : Safe s (carDwellEnd again t) :=
  carDecide_safe ha _ _ (lineDwellEnd_safe (setWorked_safe _ (slowPolls_safe h)))

/-- A full dwell has at most a job per station (R47). -/
theorem fullList_length (s : State) : (fullList s).length ≤ 8 := List.length_filterMap_le _ _

theorem beginFull_safe {again : State → State} (ha : ∀ u, Safe s u → Safe s (again u))
    (h : Safe s t) : Safe s (beginFull again t) := by
  unfold beginFull
  refine .ite (fun _ => ?_) fun _ => h
  have k := beginDwell_safe .full (fullList_length (openTimeCheck t)) (openTimeCheck_safe h)
  exact .ite (fun _ => carDwellEnd_safe ha k) fun _ => k

theorem carTold_safe (n : Nat) (h : Safe s t) : Safe s (carTold n t) := by
  induction n generalizing t with
  | zero => exact h
  | succ n ih =>
    unfold carTold
    split
    · exact .ite (fun _ => sendHome_safe h) fun _ => h
    · refine .ite (fun _ => ?_) fun _ => h
      exact .ite (fun _ => carDecide_safe (fun _ => ih) _ _ h) fun _ => beginFull_safe (fun _ => ih) h
    · exact h

theorem tellCarousel_safe (h : Safe s t) : Safe s (tellCarousel t) := carTold_safe _ h

theorem dwellCheck_safe (h : Safe s t) : Safe s (dwellCheck t) :=
  .ite (fun _ => carDwellEnd_safe (fun _ => carTold_safe _) h) fun _ => h

theorem redecide_safe (e : Bool) (h : Safe s t) : Safe s (redecide e t) :=
  .ite (fun _ => carDecide_safe (fun _ => carTold_safe _) false e h) fun _ => h

theorem freshTest_safe (h : Safe s t) : Safe s (freshTest t) := by
  refine .ite (fun _ => ?_) fun _ => h
  split
  · exact beginDwell_safe _ (by simp) h
  · exact h

theorem wakeTest_safe (h : Safe s t) : Safe s (wakeTest t) := by
  refine .ite (fun hw => tellCarousel_safe (enterWarming_safe ?_ h)) fun _ => h
  simp_all

theorem drainReleaseTest_safe (h : Safe s t) : Safe s (drainReleaseTest t) := by
  refine .ite (fun hw => tellCarousel_safe (enterDraining_safe ?_ h)) fun _ => h
  simp_all

theorem moveFailed_safe (h : Safe s t) : Safe s (moveFailed t) :=
  raiseNotice_safe _ _ (lineFault_safe _ (setWorked_safe _ (unhome_safe (giveUp_safe _ h))))

theorem indexDone_safe (h : Safe s t) : Safe s (indexDone t) := tellCarousel_safe (h.update {})

theorem homeDone_safe (q : Fin 20) (h : Safe s t) : Safe s (homeDone q t) := by
  refine tellCarousel_safe (h.update { mismatch := ?_ })
  split <;> exact id

end

end Sys2Proof.Machine

/-! PROOFS. The Delivery Unit, the Trimmer Controller and the Glue Unit keep the invariants, one lemma per operation. -/

namespace Sys2Proof.Machine

set_option Elab.async false -- as in the first part

/-! ## Books that change places -/

/-- The ids in the clamps but one. -/
def otherIds (c : Fin 20) (s : State) : List TicketId :=
  (s.car.clamps.toList.eraseIdx c.val).filterMap fun k => k.book.map (·.ticket.id)

theorem clampIds_setBook (c : Fin 20) (b : Option Book) (s : State) :
    (clampIds (setBook c b s)).Perm ((b.map (·.ticket.id)).toList ++ otherIds c s) := by
  have hset : (setBook c b s).car.clamps.toList = s.car.clamps.toList.set c.val { clampRec s c with book := b } := by
    rw [setBook_car_clamps, Vector.toList_set]
  have hperm := (List.set_perm_cons_eraseIdx (l := s.car.clamps.toList) (n := c.val) (by simp)
    { clampRec s c with book := b }).filterMap fun k : Clamp => k.book.map (·.ticket.id)
  rw [clampIds, hset]
  cases b with
  | none => simpa [otherIds] using hperm
  | some b => simpa [otherIds] using hperm

theorem setBook_self (c : Fin 20) (s : State) : setBook c (bookIn s c) s = s := by
  have hclamps : s.car.clamps.set c.val (clampRec s c) = s.car.clamps := by simp [clampRec]
  show { s with car := { s.car with clamps := s.car.clamps.set c.val (clampRec s c) } } = s
  rw [hclamps]

theorem clampIds_perm (c : Fin 20) (s : State) :
    (clampIds s).Perm (((bookIn s c).map (·.ticket.id)).toList ++ otherIds c s) := by
  have h := clampIds_setBook c (bookIn s c) s
  rwa [setBook_self] at h

/-- A loaded clamp's id goes with its book. -/
theorem clampIds_emptied {s : State} {c : Fin 20} {b : Book} (h : bookIn s c = some b) :
    (clampIds s).Perm ([b.ticket.id] ++ clampIds (setBook c none s)) := by
  have hfull := clampIds_perm c s
  rw [h] at hfull
  exact hfull.trans ((clampIds_setBook c none s).symm.append_left [b.ticket.id])

/-- An empty clamp takes the id of its new book. -/
theorem clampIds_loaded {s : State} {c : Fin 20} (b : Book) (h : bookIn s c = none) :
    (clampIds (setBook c (some b) s)).Perm ([b.ticket.id] ++ clampIds s) := by
  have hempty := clampIds_perm c s
  rw [h] at hempty
  exact (clampIds_setBook c (some b) s).trans (hempty.symm.append_left [b.ticket.id])

/-! ## What the bus does not read -/

/-- An update of the state that the bus's work neither reads nor writes. -/
structure BusBlind (g : State → State) : Prop where
  bus     : ∀ s, (g s).bus = s.bus
  withBus : ∀ s b, g { s with bus := b } = { g s with bus := b }
  send    : ∀ f s, sendFrame f (g s) = g (sendFrame f s)

theorem BusBlind.pump {g : State → State} (hg : BusBlind g) (n : Nat) (s : State) : pump n (g s) = g (pump n s) := by
  induction n generalizing s with
  | zero => rfl
  | succ n ih =>
    simp only [Machine.pump, hg.bus]
    split
    · rw [← hg.withBus, hg.send, ih]
    · rfl

theorem BusBlind.handOver {g : State → State} (hg : BusBlind g) (f : Frame) (s : State) :
    handOver f (g s) = g (handOver f s) := by
  unfold Machine.handOver busPump
  rw [hg.bus, ← hg.withBus, hg.pump, hg.bus]

theorem busBlind_dlv (d : Delivery) : BusBlind fun s => { s with dlv := d } where
  bus _ := rfl
  withBus _ _ := rfl
  send f s := by
    cases f with
    | req r =>
      simp only [sendFrame, sendRequest]
      cases r.seq <;> cases r.kind <;> rfl
    | _ => rfl

theorem busBlind_trimState (x : TrimState) : BusBlind fun s => { s with trim := { s.trim with state := x } } where
  bus _ := rfl
  withBus _ _ := rfl
  send f s := by
    cases f with
    | req r =>
      simp only [sendFrame, sendRequest]
      cases r.seq <;> cases r.kind <;> rfl
    | _ => rfl

/-! ## The cooling queue and the gate -/

/-- A head that leaves a full queue makes room for a held release (R124). -/
def roomGiven (s : State) : State := if coolingFull s then roomReport s else s

theorem roomReport_dlv (d : Delivery) (s : State) :
    roomReport { s with dlv := d } = { roomReport s with dlv := d } := by
  unfold roomReport
  have hjob : jobAt { s with dlv := d } .release = jobAt s .release := rfl
  rw [hjob]
  cases jobAt s .release with
  | none => rfl
  | some j =>
    simp only
    split
    · exact (busBlind_dlv d).handOver _ (updateJob .release (fun j => { j with status := .built }) s)
    · rfl

/-- The head's leaving is the room report, then a change of the cooling queue and its timer alone. -/
theorem removeHead_eq {d : Delivery} {s : State} (h : d.cooling = s.dlv.cooling) :
    ∃ x, removeHead { s with dlv := d } =
      { roomGiven s with dlv := { d with cooling := d.cooling.drop 1, headTimer := x } } := by
  have htimer : ∀ u : State, ∃ x, startHeadTimer u = { u with dlv := { u.dlv with headTimer := x } } := by
    intro u
    unfold startHeadTimer
    split <;> exact ⟨_, rfl⟩
  obtain ⟨x, hx⟩ := htimer { s with dlv := { d with cooling := d.cooling.drop 1 } }
  refine ⟨x, ?_⟩
  have hfull : coolingFull { s with dlv := d } = coolingFull s := by simp only [coolingFull, h]
  unfold removeHead roomGiven
  simp only [hfull, hx]
  split
  · exact roomReport_dlv _ s
  · rfl

section
variable {s t : State}

theorem roomReport_safe (h : Safe s t) : Safe s (roomReport t) := by
  unfold roomReport
  split
  · exact .ite (fun _ => handOver_safe _ (updateJob_safe _ _ h)) fun _ => h
  · exact h

theorem roomGiven_safe (h : Safe s t) : Safe s (roomGiven t) := .ite (fun _ => roomReport_safe h) fun _ => h

end

/-- The room report concerns the jobs and the bus: the books outside the carousel and the gate stand. -/
theorem roomGiven_kept (s : State) : (roomGiven s).dlv = s.dlv ∧ (roomGiven s).clock = s.clock
    ∧ ∃ x y z, (roomGiven s).trim = { s.trim with moveTime := x, settleTimer := y, stepTimer := z } := by
  have hover : ∀ f u, (handOver f u).dlv = u.dlv ∧ (handOver f u).clock = u.clock
      ∧ ∃ x y z, (handOver f u).trim = { u.trim with moveTime := x, settleTimer := y, stepTimer := z } :=
    fun f u => ⟨(handOver_busWork f u).dlv, (handOver_busWork f u).clock, (handOver_busWork f u).trim⟩
  unfold roomGiven roomReport
  split
  · split
    · split
      · exact hover _ _
      · exact ⟨rfl, rfl, _, _, _, rfl⟩
    · exact ⟨rfl, rfl, _, _, _, rfl⟩
  · exact ⟨rfl, rfl, _, _, _, rfl⟩

section
variable {s t : State}

theorem startHeadTimer_safe (h : Safe s t) : Safe s (startHeadTimer t) := by
  unfold startHeadTimer
  split <;> exact h.update {}

/-- The gate's record changed; an infeed push begins only on an idle trimmer. -/
theorem gate_safe {g : Gate} {c : Confirm} (hg : g = .infeedPush → t.trim.state = .idle) (h : Safe s t) :
    Safe s { t with dlv := { t.dlv with gate := g, gateConfirm := c } } :=
  h.update { infeedFree := fun k hi => k.idleEmpty (hg hi) }

theorem headDecision_safe (h : Safe s t) : Safe s (headDecision t) := by
  unfold headDecision
  split
  · refine .ite (fun _ => h) fun _ => .ite (fun _ => handRequest_safe _ _ (gate_safe nofun h)) fun _ => ?_
    refine .ite (fun hi => handRequest_safe _ _ (gate_safe (fun _ => ?_) h)) fun _ => h
    simp_all
  · exact h

/-- The head of the cooling queue changed for one of the same ticket. -/
theorem modifyHead_safe {f : Book → Book} (hf : ∀ b, (f b).ticket.id = b.ticket.id) (h : Safe s t) :
    Safe s (modifyHead f t) := by
  have hbooks : bookIds (modifyHead f t) = bookIds t := by
    simp only [bookIds, modifyHead]
    cases t.dlv.cooling with
    | nil => rfl
    | cons b q => simp only [List.map_cons, hf]; rfl
  exact h.update { balance := balance_of_perm (.of_eq hbooks) rfl rfl, ids := ids_of_perm rfl (.of_eq hbooks) }

/-! ## The trimmer's record -/

/-- The id of a held book. -/
def Held.ids : Held → List TicketId
  | .none => []
  | .inside b | .out b => [b.ticket.id]

theorem trimIds_eq (s : State) : trimIds s = s.trim.held.ids := by
  unfold trimIds heldBook
  cases s.trim.held <;> rfl

theorem Held.ids_eq_nil {x : Held} : x.ids = [] ↔ x = .none := by cases x <;> simp [Held.ids]

theorem Held.ids_map {f : Book → Book} (hf : ∀ b, (f b).ticket.id = b.ticket.id) (x : Held) : (x.map f).ids = x.ids := by
  cases x <;> simp [Held.map, Held.ids, hf]

theorem Held.ids_toOut (x : Held) : x.toOut.ids = x.ids := by cases x <;> rfl

/-- The trimmer's record changed, its book the same: it comes to IDLE from IDLE only, and its cause must be named in
FAULTED and none elsewhere. -/
theorem trim_safe {x : Trimmer} (hids : x.held.ids = t.trim.held.ids)
    (hidle : x.state = .idle → t.trim.state = .idle)
    (hcause : CausesMatch t → x.cause.isSome = (x.state == .faulted))
    (hsettle : t.trim.settleCount ≤ 2 → x.settleCount ≤ 2) (h : Safe s t) : Safe s { t with trim := x } := by
  have hbooks : bookIds { t with trim := x } = bookIds t := by
    have htrim : trimIds { t with trim := x } = trimIds t := by rw [trimIds_eq, trimIds_eq]; exact hids
    exact congrArg (fun l => clampIds t ++ t.dlv.cooling.map (·.ticket.id) ++ l ++ t.dlv.done.map (·.ticket.id)) htrim
  have hnone : t.trim.held = .none → x.held = .none := by
    rw [← Held.ids_eq_nil, ← Held.ids_eq_nil, hids]
    exact id
  exact h.update {
    balance := balance_of_perm (.of_eq hbooks) rfl rfl
    idleEmpty := fun k hi => hnone (k.idleEmpty (hidle hi))
    infeedFree := fun k hg => hnone (k.infeedFree hg)
    ids := ids_of_perm rfl (.of_eq hbooks)
    settleCount := hsettle
    trimCause := hcause }

/-- The trimmer enters a state other than IDLE and FAULTED from one that has no cause. -/
theorem trimEnters_safe {x : Trimmer} (hids : x.held.ids = t.trim.held.ids) (hidle : x.state ≠ .idle)
    (hfault : x.state ≠ .faulted) (ht : t.trim.state ≠ .faulted) (hcause : x.cause = t.trim.cause)
    (hsettle : t.trim.settleCount ≤ 2 → x.settleCount ≤ 2) (h : Safe s t) : Safe s { t with trim := x } := by
  refine trim_safe hids (fun hi => absurd hi hidle) (fun k => ?_) hsettle h
  rw [hcause, k.trimmer, beq_false_of_ne ht, beq_false_of_ne hfault]

theorem modifyHeld_safe {f : Book → Book} (hf : ∀ b, (f b).ticket.id = b.ticket.id) (h : Safe s t) :
    Safe s (modifyHeld f t) :=
  trim_safe (Held.ids_map hf _) id (fun k => k.trimmer) id h

theorem withReason_id (r : RejectReason) (b : Book) : (b.withReason r).ticket.id = b.ticket.id := by
  rw [Book.withReason_ticket]

theorem trimFaultState_safe (c : TrimCause) (h : Safe s t) : Safe s (trimFaultState c t) := by
  refine trim_safe ?_ nofun (fun _ => rfl) id h
  cases t.trim.held with
  | inside b => simp only [Held.ids, withReason_id]
  | _ => rfl

theorem trimFault_safe (c : TrimCause) (abort : Bool) (h : Safe s t) : Safe s (trimFault c abort t) := by
  unfold trimFault
  refine .ite (fun hf => trim_safe rfl id (fun _ => ?_) id h) fun _ => ?_
  · simpa using hf
  · have k := trimFaultState_safe c (giveUp_safe isTrimWork h)
    exact .ite (fun _ => abortTrimmer_safe k) fun _ => k

theorem trimRequest_safe (k : ReqKind) (h : Safe s t) : Safe s (trimRequest k t) :=
  .ite (fun _ => handRequest_safe _ _ h) fun _ => trimFault_safe _ _ h

/-- The states of the cut cycle (R144). -/
theorem trimStep_safe {st : TrimState} (k : StepKind) (hidle : st ≠ .idle) (hfault : st ≠ .faulted)
    (ht : t.trim.state ≠ .faulted) (h : Safe s t) : Safe s (trimStep st k t) :=
  trimRequest_safe _ (trimEnters_safe (t := t) rfl hidle hfault ht rfl id h)

theorem beginClamping_safe (ht : t.trim.state ≠ .faulted) (h : Safe s t) : Safe s (beginClamping t) := by
  unfold beginClamping
  have k : Safe s { giveUp isTrimWork t with
      trim := { t.trim with settleTimer := .stopped, settleCount := 0 } } :=
    trim_safe rfl id (fun k => k.trimmer) (fun _ => Nat.zero_le _) (giveUp_safe isTrimWork h)
  exact trimStep_safe _ (by decide) (by decide) ht (modifyHeld_safe (fun _ => rfl) k)

theorem positionDecision_safe (ht : t.trim.state ≠ .faulted) (h : Safe s t) : Safe s (positionDecision t) := by
  unfold positionDecision
  split
  · exact h
  · simp only
    split
    · exact trimRequest_safe _ (trimEnters_safe (t := t) rfl (by simp) (by simp) ht rfl id h)
    · exact beginClamping_safe ht (trim_safe (t := t) rfl id (fun k => k.trimmer) id h)

theorem beginEject_safe (ht : t.trim.state ≠ .faulted) (h : Safe s t) : Safe s (beginEject t) := by
  unfold beginEject
  have k : Safe s { t with trim := { t.trim with exitConfirm := .none } } :=
    trim_safe (t := t) rfl id (fun k => k.trimmer) id h
  refine .ite (fun _ => ?_) fun _ => trimStep_safe _ (by decide) (by decide) ht k
  exact trimEnters_safe (t := t) rfl (by simp) (by simp) ht rfl id h

theorem abortTrimmer_trimState (s : State) : (abortTrimmer s).trim.state = s.trim.state := by
  obtain ⟨x, y, z, h⟩ := (abortTrimmer_busWork s).trim
  rw [h]

theorem raiseNotice_trim (n : Notice) (x : BitVec 32) (s : State) : (raiseNotice n x s).trim = s.trim := by
  obtain ⟨y, hy⟩ := raiseNotice_host n x s
  rw [hy]

theorem stepFailed_safe (timeout : Bool) (ht : t.trim.state ≠ .faulted) (h : Safe s t) :
    Safe s (stepFailed timeout t) := by
  unfold stepFailed
  simp only
  have k₁ : Safe s (giveUp isTrimWork { t with trim := { t.trim with stepTimer := none, settleTimer := .stopped } }) :=
    giveUp_safe _ (trim_safe (t := t) rfl id (fun k => k.trimmer) id h)
  have hst : ∀ u : State, u.trim.state = t.trim.state →
      (if timeout then abortTrimmer u else u).trim.state ≠ .faulted := by
    intro u hu
    split
    · rwa [abortTrimmer_trimState, hu]
    · rwa [hu]
  specialize hst (giveUp isTrimWork { t with trim := { t.trim with stepTimer := none, settleTimer := .stopped } }) rfl
  have k₂ := Safe.ite (p := timeout = true) (fun _ => abortTrimmer_safe k₁) fun _ => k₁
  generalize (if timeout then abortTrimmer _ else _) = u at hst k₂
  have k₃ : Safe s { u with trim := { u.trim with pendingFault := some .trimmerFault } } :=
    trim_safe (t := u) rfl id (fun k => k.trimmer) id k₂
  have k₄ := raiseNotice_safe .trimmerFault (heldId t) (modifyHeld_safe (withReason_id .trim) k₃)
  refine .ite (fun _ => trimFault_safe _ _ k₄) fun _ => beginEject_safe ?_ ?_
  · simp only [raiseNotice_trim]
    exact hst
  · exact trim_safe rfl id (fun k => k.trimmer) id k₄

theorem settleTimedOut_safe (ht : t.trim.state ≠ .faulted) (h : Safe s t) : Safe s (settleTimedOut t) := by
  unfold settleTimedOut
  simp only
  have k₁ : Safe s { t with trim := { t.trim with
      settleTimer := .stopped, settleCount := min 2 (t.trim.settleCount + 1) } } :=
    trim_safe (t := t) rfl id (fun k => k.trimmer) (fun _ => Nat.min_le_left _ _) h
  have k₂ := modifyHeld_safe (withReason_id .trim) (giveUp_safe isTrimWork k₁)
  split
  · refine beginEject_safe (by simp only [raiseNotice_trim]; exact ht) ?_
    refine trim_safe rfl id (fun k => k.trimmer) id (raiseNotice_safe _ _ ?_)
    exact trim_safe rfl id (fun k => k.trimmer) id k₂
  · exact beginEject_safe ht (trim_safe rfl id (fun k => k.trimmer) id k₂)

theorem afterTrimmer_safe (h : Safe s t) : Safe s (afterTrimmer t) := .ite (fun _ => headDecision_safe h) fun _ => h

/-- The trimmer enters IDLE without a book. -/
theorem trimIdle_safe (hheld : t.trim.held = .none) (hc : CausesMatch t → t.trim.cause.isSome = false)
    (h : Safe s t) : Safe s (trimIdle t) :=
  h.update { idleEmpty := fun _ _ => hheld, trimCause := hc }

/-! ## The done list -/

theorem doneRoom_iff : doneRoom t = true ↔ t.dlv.done.length < 32 := decide_eq_true_iff

/-- The record that enters the done list has left its holder. -/
theorem writeDone_safe {b : Book} {p : BookOutcome}
    (h : Safe s { t with dlv := { t.dlv with done := t.dlv.done ++ [b.asDone p t.clock] } }) :
    Safe s (writeDone b p t) :=
  .ite (fun _ => raiseDoneReady_safe _ h) fun _ => h

theorem writeDone_trim (b : Book) (p : BookOutcome) (s : State) : (writeDone b p s).trim = s.trim := by
  unfold writeDone
  simp only
  split
  · obtain ⟨x, hx⟩ := raiseDoneReady_host (s.dlv.done.length + 1)
      { s with dlv := { s.dlv with done := s.dlv.done ++ [b.asDone p s.clock] } }
    rw [hx]
  · rfl

theorem asDone_id (b : Book) (p : BookOutcome) (now : Time) : (b.asDone p now).ticket.id = b.ticket.id := rfl

/-- A record leaves its clamp for the done list. -/
theorem writeClamp_perm {c : Fin 20} {b : Book} (e : bookIn t c = some b) (x : Book) (hx : x.ticket.id = b.ticket.id) :
    (bookIds { setBook c none t with dlv := { t.dlv with done := t.dlv.done ++ [x] } }).Perm (bookIds t) := by
  show (clampIds (setBook c none t) ++ t.dlv.cooling.map (·.ticket.id) ++ trimIds t
    ++ (t.dlv.done ++ [x]).map (·.ticket.id)).Perm (bookIds t)
  rw [List.perm_iff_count]
  intro a
  have hcount := (clampIds_emptied e).count_eq a
  simp only [bookIds, List.map_append, List.map_cons, List.map_nil, hx, List.count_append] at hcount ⊢
  omega

/-- The head of the cooling queue leaves it for the done list. -/
theorem writeHead_perm {u : State} {b : Book} {q : List Book} {d : Delivery} (e : u.dlv.cooling = b :: q) (x : Book)
    (hx : x.ticket.id = b.ticket.id) (hc : d.cooling = q) (hd : d.done = u.dlv.done ++ [x]) :
    (bookIds { u with dlv := d }).Perm (bookIds u) := by
  show (clampIds u ++ d.cooling.map (·.ticket.id) ++ trimIds u ++ d.done.map (·.ticket.id)).Perm (bookIds u)
  rw [List.perm_iff_count]
  intro a
  simp only [bookIds, e, hc, hd, List.map_append, List.map_cons, List.map_nil, hx, List.count_append, List.count_cons,
    List.count_nil]
  omega

/-- A book held out of the trimmer leaves it for the done list. -/
theorem writeHeld_perm {b : Book} (e : t.trim.held = .out b) (x : Book) (hx : x.ticket.id = b.ticket.id) :
    (bookIds { t with
      trim := { t.trim with held := .none }
      dlv := { t.dlv with done := t.dlv.done ++ [x] } }).Perm (bookIds t) := by
  show (clampIds t ++ t.dlv.cooling.map (·.ticket.id) ++ ([] : List TicketId)
    ++ (t.dlv.done ++ [x]).map (·.ticket.id)).Perm (bookIds t)
  rw [List.perm_iff_count]
  intro a
  simp only [bookIds, trimIds_eq, e, Held.ids, List.map_append, List.map_cons, List.map_nil, hx, List.count_append,
    List.count_nil]
  omega

theorem done_append (x : Book) (hroom : doneRoom t = true) : (t.dlv.done ++ [x]).length ≤ 32 := by
  have := doneRoom_iff.mp hroom
  simp only [List.length_append, List.length_cons, List.length_nil]
  omega

theorem writeHolder_safe (x : Holder) (hroom : doneRoom t = true) (h : Safe s t) : Safe s (writeHolder x t) := by
  unfold writeHolder
  split
  · split
    · rename_i c b e
      have hperm := writeClamp_perm e (b.asDone .rejected t.clock) rfl
      exact writeDone_safe (h.update {
        balance := balance_of_perm hperm rfl rfl
        ids := ids_of_perm rfl hperm
        done := fun _ => done_append _ hroom })
    · exact h
  · split
    · rename_i b q e
      obtain ⟨y, hy⟩ := removeHead_eq (s := t) (d := t.dlv) rfl
      obtain ⟨hdlv, -, -⟩ := roomGiven_kept t
      rw [show removeHead t = _ from hy]
      have k : Safe s { roomGiven t with dlv := { t.dlv with
          cooling := t.dlv.cooling.drop 1, headTimer := y
          done := t.dlv.done ++ [b.asDone .rejected (roomGiven t).clock] } } := by
        have hperm := writeHead_perm (u := roomGiven t) (b := b) (q := q) (by rw [hdlv, e])
          (b.asDone .rejected (roomGiven t).clock) rfl (d := { t.dlv with
            cooling := t.dlv.cooling.drop 1, headTimer := y
            done := t.dlv.done ++ [b.asDone .rejected (roomGiven t).clock] }) (by rw [e]; rfl) (by rw [hdlv])
        exact (roomGiven_safe h).update {
          balance := balance_of_perm hperm (by rw [hdlv]) (by rw [hdlv])
          idleEmpty := fun k => k.idleEmpty
          infeedFree := fun k hg => k.infeedFree (by rw [hdlv]; exact hg)
          ids := ids_of_perm rfl hperm
          done := fun _ => done_append _ hroom }
      exact (writeDone_safe k).update { infeedFree := fun _ => nofun }
    · exact h
  · split
    · rename_i b e
      have hperm := writeHeld_perm e (b.asDone (exitOutcome t.trim.dest) t.clock) rfl
      have k : Safe s (writeDone b (exitOutcome t.trim.dest) { t with trim := { t.trim with held := .none } }) :=
        writeDone_safe (h.update {
          balance := balance_of_perm hperm rfl rfl
          idleEmpty := fun _ _ => rfl
          infeedFree := fun _ _ => rfl
          ids := ids_of_perm rfl hperm
          done := fun _ => done_append _ hroom })
      refine .ite (fun hej => trimIdle_safe (by rw [writeDone_trim]) (fun c => ?_) k) fun _ => k
      rw [c.trimmer, beq_iff_eq.mp hej]
      rfl
    · exact h

theorem writeOrWait_safe (x : Holder) (h : Safe s t) : Safe s (writeOrWait x t) :=
  .ite (fun hroom => writeHolder_safe x hroom h) fun _ => h.update {}

theorem reportLeft_safe (x : Holder) (h : Safe s t) : Safe s (reportLeft x t) := by
  cases x with
  | clamp c => exact redecide_safe false h
  | _ => exact h

theorem drainWaiters_safe (l : List Holder) (h : Safe s t) : Safe s (drainWaiters l t) := by
  induction l generalizing t with
  | nil => exact h.update {}
  | cons x rest ih =>
    refine .ite (fun hroom => ih (reportLeft_safe x (writeHolder_safe x hroom ?_))) fun _ => h.update {}
    exact h.update {}

theorem trimOut_safe (h : Safe s t) : Safe s (trimOut t) := writeOrWait_safe .trimmer h

theorem pushLost_safe (h : Safe s t) : Safe s (pushLost t) := by
  unfold pushLost
  have k := giveUp_safe (fun r => isPush r.kind) h
  simp only
  split
  · exact k.update { infeedFree := fun _ => nofun }
  · refine headDecision_safe (raiseNotice_safe _ _ (lineFault_safe _ ?_))
    refine Safe.update (writeOrWait_safe .cooling (modifyHead_safe (withReason_id .fault) ?_)) {}
    exact k.update { infeedFree := fun _ => nofun }

/-! ## The cut cycle -/

theorem exitConfirmed_safe (h : Safe s t) : Safe s (exitConfirmed t) :=
  afterTrimmer_safe (trimOut_safe (trim_safe (t := t) rfl id (fun k => k.trimmer) id h))

theorem ejectDone_safe (h : Safe s t) : Safe s (ejectDone t) := by
  unfold ejectDone
  have k : Safe s { t with trim := { t.trim with held := t.trim.held.toOut, stepTimer := none } } :=
    trim_safe (t := t) (Held.ids_toOut _) id (fun k => k.trimmer) id h
  simp only
  split
  · split
    · exact trimOut_safe (trimFault_safe _ _ k)
    · exact afterTrimmer_safe (trimOut_safe k)
  · split
    · exact exitConfirmed_safe k
    · exact trim_safe (t := t) (Held.ids_toOut _) id (fun k => k.trimmer) id h

theorem nextStep_safe (h : Safe s t) : Safe s (nextStep t) := by
  unfold nextStep
  split
  · rename_i ht
    exact trimStep_safe _ (by decide) (by decide) (by simp [ht]) h
  · rename_i ht
    exact trimStep_safe _ (by decide) (by decide) (by simp [ht]) h
  · rename_i ht
    refine trimStep_safe _ (by decide) (by decide) (by simp [ht]) ?_
    exact trim_safe (t := t) rfl id (fun k => k.trimmer) id h
  · exact h

theorem stepDone_safe (h : Safe s t) : Safe s (stepDone t) := by
  have k : Safe s { t with trim := { t.trim with stepTimer := none } } :=
    trim_safe (t := t) rfl id (fun k => k.trimmer) id h
  have hnext : Safe s (if t.trim.guardPause then
      { t with trim := { t.trim with stepTimer := none, stepHeld := true } }
      else nextStep { t with trim := { t.trim with stepTimer := none } }) :=
    .ite (fun _ => trim_safe (t := t) rfl id (fun k => k.trimmer) id h) fun _ => nextStep_safe k
  unfold stepDone
  split
  · exact hnext
  · exact hnext
  · exact hnext
  · exact ejectDone_safe h
  · exact h

theorem axesRead_safe (ef eo eh : Int) (h : Safe s t) : Safe s (axesRead ef eo eh t) := by
  refine trimRequest_safe _ (modifyHeld_safe (fun _ => rfl) ?_)
  exact trim_safe (t := t) rfl id (fun k => k.trimmer) id h

theorem guardResumed_safe (h : Safe s t) : Safe s (guardResumed t) := by
  unfold guardResumed
  have k : Safe s { t with trim := { t.trim with guardPause := false } } :=
    trim_safe (t := t) rfl id (fun k => k.trimmer) id h
  simp only
  split
  · rename_i ht
    exact positionDecision_safe (by simp [ht]) k
  · rename_i ht
    refine .ite (fun _ => beginClamping_safe (by simp [ht]) k) fun _ => ?_
    exact .ite (fun _ => settleTimedOut_safe (by simp [ht]) k) fun _ => k
  · exact .ite (fun _ => nextStep_safe k) fun _ => k
  · exact .ite (fun _ => nextStep_safe k) fun _ => k
  · exact .ite (fun _ => nextStep_safe k) fun _ => k
  · rename_i ht
    exact .ite (fun _ => trimStep_safe _ (by decide) (by decide) (by simp [ht]) k) fun _ => k
  · exact k

theorem clearFlags_safe (h : Safe s t) : Safe s (clearFlags t) :=
  trim_safe (t := t) rfl id (fun k => k.trimmer) id h

theorem trimRestarted_safe (h : Safe s t) : Safe s (trimRestarted t) := by
  unfold trimRestarted
  have k := clearFlags_safe h
  simp only
  split
  · rename_i ht; exact stepFailed_safe _ (by rw [ht]; decide) k
  · rename_i ht; exact stepFailed_safe _ (by rw [ht]; decide) k
  · rename_i ht; exact stepFailed_safe _ (by rw [ht]; decide) k
  · rename_i ht; exact stepFailed_safe _ (by rw [ht]; decide) k
  · rename_i ht
    exact .ite (fun _ => stepFailed_safe _ (by rw [ht]; decide) k) fun _ => k
  · exact k

/-! ## Confirms of the gate and the drop -/

/-- The trimmer takes the head of the cooling queue: in one update the head leaves and the free trimmer holds it. -/
theorem takeHead_safe {b : Book} {q : List Book} (e : t.dlv.cooling = b :: q) (hg : t.dlv.gate = .infeedPush)
    {d : Delivery} (hc : d.cooling = q) (hdone : d.done = t.dlv.done) (hload : d.loaded = t.dlv.loaded)
    (hcoll : d.collected = t.dlv.collected) (hgate : d.gate = .idle) {x : Trimmer}
    (hheld : x.held.ids = [b.ticket.id]) (hidle : x.state ≠ .idle)
    (hcause : CausesMatch t → x.cause.isSome = (x.state == .faulted))
    (hsettle : x.settleCount = t.trim.settleCount) (h : Safe s t) : Safe s { t with dlv := d, trim := x } := by
  have hids : ∀ a, List.count a (bookIds { t with dlv := d, trim := x }) + List.count a (trimIds t)
      = List.count a (bookIds t) := by
    intro a
    show List.count a (clampIds t ++ d.cooling.map (·.ticket.id) ++ trimIds { t with dlv := d, trim := x }
      ++ d.done.map (·.ticket.id)) + _ = _
    rw [trimIds_eq { t with dlv := d, trim := x }]
    simp only [bookIds, hheld, hc, hdone, e, List.map_cons, List.count_append, List.count_cons, List.count_nil]
    omega
  have hperm : t.trim.held = .none → (bookIds { t with dlv := d, trim := x }).Perm (bookIds t) := by
    intro hnone
    rw [List.perm_iff_count]
    intro a
    have := hids a
    rwa [trimIds_eq t, hnone, show Held.ids .none = [] from rfl, List.count_nil, Nat.add_zero] at this
  exact h.update {
    balance := fun k => balance_of_perm (hperm (k.infeedFree hg)) hload hcoll k
    idleEmpty := fun _ hi => absurd hi hidle
    infeedFree := fun _ hi => by rw [show d.gate = .infeedPush from hi] at hgate; cases hgate
    ids := ids_of_subperm (by
      rw [List.subperm_iff_count]
      intro a
      have := hids a
      rw [heldIds_eq, heldIds_eq, List.count_append, List.count_append]
      show List.count a (queueIds t) + _ ≤ _
      omega)
    done := by rw [hdone]; exact id
    settleCount := by rw [hsettle]; exact id
    trimCause := hcause }

theorem pushConfirmed_safe (h : Safe s t) : Safe s (pushConfirmed t) := by
  unfold pushConfirmed
  split
  · refine headDecision_safe (writeOrWait_safe .cooling ?_)
    exact h.update { infeedFree := fun _ => nofun }
  · rename_i hg
    split
    · rename_i b q e
      obtain ⟨y, hy⟩ := removeHead_eq (s := t) (d := { t.dlv with gate := .idle, gateConfirm := .none }) rfl
      obtain ⟨hdlv, -, x₁, x₂, x₃, htrim⟩ := roomGiven_kept t
      simp only [hy]
      refine headDecision_safe ?_
      have k := fun (x : Trimmer) h₁ h₂ h₃ h₄ => takeHead_safe (t := roomGiven t) (b := b) (q := q) (x := x)
        (by rw [hdlv, e]) (by rw [hdlv, hg]) (d := { t.dlv with
          gate := .idle, gateConfirm := .none, cooling := t.dlv.cooling.drop 1, headTimer := y })
        (by rw [e]; rfl) (by rw [hdlv]) (by rw [hdlv]) (by rw [hdlv]) rfl h₁ h₂ h₃ h₄ (roomGiven_safe h)
      unfold trimTake
      simp only
      split
      · rename_i hf
        have hf' : (roomGiven t).trim.state = .faulted := beq_iff_eq.mp hf
        exact k { (roomGiven t).trim with held := .inside (Book.withReason { b with revibrate := some 0 } .fault) }
          (by simp only [Held.ids, withReason_id]) (by rw [hf']; decide) (fun c => c.trimmer) rfl
      · rename_i hf
        have hf' : (roomGiven t).trim.state ≠ .faulted := fun e => hf (beq_iff_eq.mpr e)
        have k₂ := k { (roomGiven t).trim with
          state := .positioning
          held := .inside { b with revibrate := some 0 }
          dest := if b.ticket.sample then .sample else .good
          moveTime := none
          front := { (roomGiven t).trim.front with revibrate := 0 }
          foot := { (roomGiven t).trim.foot with revibrate := 0 }
          head := { (roomGiven t).trim.head with revibrate := 0 } }
          rfl (by simp) (fun c => by rw [c.trimmer, beq_false_of_ne hf']; rfl) rfl
        exact .ite (fun _ => k₂) fun _ => positionDecision_safe (by simp) k₂
    · exact h.update { infeedFree := fun _ => nofun }
  · exact h

theorem pushContact_safe (g : Gate) (h : Safe s t) : Safe s (pushContact g t) := by
  refine .ite (fun _ => ?_) fun _ => h
  split
  · exact pushConfirmed_safe h
  · exact h.update {}

theorem pushDone_safe (h : Safe s t) : Safe s (pushDone t) := by
  unfold pushDone
  split
  · exact pushConfirmed_safe h
  · exact h.update {}

/-- A book leaves its clamp for the tail of the cooling queue. -/
theorem dropBook_perm {c : Fin 20} {b : Book} (e : bookIn t c = some b) (x : Book) (hx : x.ticket.id = b.ticket.id)
    {d : Delivery} (hc : d.cooling = t.dlv.cooling ++ [x]) (hd : d.done = t.dlv.done) :
    (bookIds { setBook c none t with dlv := d }).Perm (bookIds t) := by
  show (clampIds (setBook c none t) ++ d.cooling.map (·.ticket.id) ++ trimIds t
    ++ d.done.map (·.ticket.id)).Perm (bookIds t)
  rw [List.perm_iff_count]
  intro a
  have hcount := (clampIds_emptied e).count_eq a
  simp only [bookIds, hc, hd, List.map_append, List.map_cons, List.map_nil, hx, List.count_append] at hcount ⊢
  omega

theorem dropConfirmed_safe (c : Fin 20) (h : Safe s t) : Safe s (dropConfirmed c t) := by
  unfold dropConfirmed
  split
  · exact h.update {}
  · rename_i b e
    have hperm := dropBook_perm e { b with coolEntry := some t.clock } rfl (d := { t.dlv with
      cooling := t.dlv.cooling ++ [{ b with coolEntry := some t.clock }], dropWatch := .none }) rfl rfl
    have k : Safe s { setBook c none t with dlv := { t.dlv with
        cooling := t.dlv.cooling ++ [{ b with coolEntry := some t.clock }], dropWatch := .none } } :=
      h.update { balance := balance_of_perm hperm rfl rfl, ids := ids_of_perm rfl hperm }
    have hend : ∀ u, Safe s u → Safe s (match jobAt u .release with
        | some j => if j.ended then u else setOverrun .release 0 (endJob .release .done u)
        | none => u) := by
      intro u hu
      split
      · exact .ite (fun _ => hu) fun _ => setOverrun_safe _ (by decide) (endJob_safe _ _ hu)
      · exact hu
    have k₂ := redecide_safe false (hend _ k)
    exact .ite (fun _ => headDecision_safe (startHeadTimer_safe k₂)) fun _ => k₂

theorem dropContact_safe (h : Safe s t) : Safe s (dropContact t) := by
  unfold dropContact
  split
  · exact dwellCheck_safe (dropConfirmed_safe _ h)
  · exact .ite (fun _ => h.update {}) fun _ => h

theorem releaseAnswered_safe (c : Fin 20) (h : Safe s t) : Safe s (releaseAnswered c t) := by
  unfold releaseAnswered
  have k := updateJob_safe .release
    (fun j => { j with status := .busy, limit := .suspended, releaseDone := true }) h
  have k₂ : ∀ u, Safe s u → Safe s (match bookIn u c with
      | some b => setBook c (some { b with releaseTime := some u.clock }) u
      | none => u) := by
    intro u hu
    split
    · rename_i b e; exact setBook_safe c e rfl hu
    · exact hu
  specialize k₂ _ k
  simp only at k₂ ⊢
  split
  · exact dropConfirmed_safe c k₂
  · exact k₂.update {}

theorem dropLost_safe (c : Fin 20) (h : Safe s t) : Safe s (dropLost c t) := by
  unfold dropLost
  split
  · exact h.update {}
  · have k : Safe s (setReason c .fault { t with dlv := { t.dlv with dropWatch := .none } }) :=
      setReason_safe c _ (h.update {})
    refine raiseNotice_safe _ _ (lineFault_safe _ ?_)
    exact .ite (fun hroom => redecide_safe false (writeHolder_safe _ hroom k)) fun _ => writeOrWait_safe _ k

/-! ## The Glue Unit -/

/-- The pot's record changed but for its target. -/
theorem glue_safe {g : GlueUnit} (hg : g.target = t.glue.target) (h : Safe s t) : Safe s { t with glue := g } :=
  h.update { outputs := fun k => ⟨k.fault, k.heat, k.drive, k.trim, k.ready, hg.trans k.target⟩ }

theorem lineOutOfBand_safe (h : Safe s t) : Safe s (lineOutOfBand t) :=
  .ite (fun _ => raiseNotice_safe _ _ (lineHold_safe _ h)) fun _ => h

theorem testBand_safe (h : Safe s t) : Safe s (testBand t) := by
  refine .ite (fun _ => ?_) fun _ => h
  have k : Safe s { t with glue := { t.glue with outOfBand := outOfBandOf t.glue.reading t.settings.workTemp } } :=
    glue_safe (t := t) rfl h
  exact .ite (fun _ => lineOutOfBand_safe k) fun _ => k

theorem potAfterReading_target (now : Time) (x work : Nat) (g : GlueUnit) :
    (potAfterReading now x work g).target = g.target := by
  unfold potAfterReading
  split
  · split <;> rfl
  · rfl

theorem glueReading_safe (x : Nat) (h : Safe s t) : Safe s (glueReading x t) :=
  testBand_safe (glue_safe (t := t) (potAfterReading_target _ _ _ _) h)

theorem glueLost_safe (h : Safe s t) : Safe s (glueLost t) := testBand_safe (glue_safe (t := t) rfl h)

theorem glueSettled_safe (h : Safe s t) : Safe s (glueSettled t) := by
  have k : Safe s { t with glue := { t.glue with cond := .atTemp, window := none } } := glue_safe (t := t) rfl h
  refine .ite (fun hw => tellCarousel_safe (enterRunning_safe ?_ k)) fun _ => drainReleaseTest_safe k
  simp_all

/-- The target moves with the settings (R79). -/
theorem replaceSettings_safe (c : Settings) (h : Safe s t) : Safe s (replaceSettings c t) := by
  have houtputs : ∀ g : GlueUnit, g.target = retarget c t.glue.target → Safe s { t with settings := c, glue := g } := by
    intro g hg
    refine h.update { outputs := fun k => ⟨k.fault, k.heat, k.drive, k.trim, k.ready, ?_⟩ }
    show g.target = _
    rw [hg, k.target]
    cases t.line.state <;> rfl
  exact .ite (fun _ => testBand_safe (houtputs _ rfl)) fun _ => houtputs _ rfl

end

end Sys2Proof.Machine

/-! PROOFS. The jobs' endings, the nodes and the bus events keep the invariants, one lemma per operation. -/

namespace Sys2Proof.Machine

set_option Elab.async false -- as in the first part

section
variable {s t : State}

/-! ## Jobs -/

theorem stationOverrun_safe (st : Station) (h : Safe s t) : Safe s (stationOverrun st t) := by
  have k := setOverrun_safe st (Nat.min_le_left 2 (t.car.overruns[stationIdx st] + 1)) h
  exact .ite (fun _ => raiseNotice_safe _ _ (lineFault_safe _ k)) fun _ => k

theorem countAttempts_le {n : Nat} (h : n ≤ 2) (l : List Attempt) : countAttempts n l ≤ 2 := by
  unfold countAttempts
  induction l generalizing n with
  | nil => exact h
  | cons a l ih =>
    refine ih ?_
    cases a with
    | hit => exact Nat.zero_le _
    | _ => exact Nat.min_le_left _ _

theorem countMismatch_safe (l : List Attempt) (h : Safe s t) :
    Safe s { t with cover := { t.cover with mismatch := countAttempts t.cover.mismatch l } } :=
  h.update { mismatch := fun k => countAttempts_le k l }

theorem coverSequence_safe (id : TicketId) (l : List Attempt) (h : Safe s t) : Safe s (coverSequence id l t) :=
  .ite (fun _ => raiseNotice_safe _ _ (lineHold_safe _ h)) fun _ => h

theorem jobFailed_safe (l : List Attempt) (j : Job) (h : Safe s t) : Safe s (jobFailed l j t) := by
  have k := endJob_safe j.item.station .failed h
  have hz : ∀ st, Safe s (setOverrun st 0 (endJob j.item.station .failed t)) := fun st =>
    setOverrun_safe st (by decide) k
  unfold jobFailed
  simp only
  split
  · exact .ite (fun _ => dropReservation_safe (hz _)) fun _ => hz _
  · exact setReason_safe _ _ (hz _)
  · exact setReason_safe _ _ (hz _)
  · exact setReason_safe _ _ (hz _)
  · exact setReason_safe _ _ (hz _)
  · exact coverSequence_safe _ _ (setReason_safe _ _ (setOverrun_safe _ (by decide) (countMismatch_safe l k)))
  · exact setReason_safe _ _ (removeEntry_safe (hz _))
  · exact stationOverrun_safe _ (discardEarly_safe k)

theorem jobOverran_safe (j : Job) (h : Safe s t) : Safe s (jobOverran j t) := by
  have k := endJob_safe j.item.station .aborted (abortStation_safe j.item.station h)
  unfold jobOverran
  simp only
  refine stationOverrun_safe _ ?_
  split
  · exact .ite (fun _ => dropReservation_safe k) fun _ => k
  · exact setReason_safe _ _ (removeEntry_safe k)
  · exact setReason_safe _ _ (discardEarly_safe k)
  · exact setReason_safe _ _ k

/-- The head ticket becomes a book in an empty clamp, and the loaded count rises with it. -/
theorem loadBook_safe {q : List Ticket} {k : Ticket} (e : t.tickets.queue = k :: q) {c : Fin 20}
    (hc : bookIn t c = none) {b : Book} (hb : b.ticket.id = k.id) (h : Safe s t) :
    Safe s { setBook c (some b) t with
      tickets := ⟨q, false⟩
      dlv := { t.dlv with loaded := t.dlv.loaded + 1 } } := by
  have hcount := (clampIds_loaded b hc).count_eq
  have hlen : booksOnLine { setBook c (some b) t with
      tickets := ⟨q, false⟩
      dlv := { t.dlv with loaded := t.dlv.loaded + 1 } } = booksOnLine t + 1 := by
    have hclamps : (clampIds (setBook c (some b) t)).length = (clampIds t).length + 1 := by
      rw [(clampIds_loaded b hc).length_eq, List.length_append, Nat.add_comm]
      rfl
    rw [booksOnLine_eq, booksOnLine_eq]
    show (clampIds (setBook c (some b) t) ++ t.dlv.cooling.map (·.ticket.id) ++ trimIds t
      ++ t.dlv.done.map (·.ticket.id)).length = _
    simp only [bookIds, List.length_append, hclamps]
    omega
  refine h.update {
    balance := fun k => ?_
    ids := ids_of_subperm (List.Perm.subperm ?_)
    queue := fun k => by rw [e] at k; exact (Nat.le_succ _).trans k }
  · rw [hlen, Nat.add_comm, BitVec.ofNat_add]
    show t.dlv.loaded + 1 = _
    rw [k.balance]
    show _ = 1 + _ + t.dlv.collected
    ac_rfl
  · show (q.map (·.id) ++ clampIds (setBook c (some b) t) ++ t.dlv.cooling.map (·.ticket.id) ++ trimIds t
      ++ t.dlv.done.map (·.ticket.id)).Perm (heldIds t)
    rw [List.perm_iff_count]
    intro a
    have := hcount a
    simp only [heldIds, queueIds, e, hb, List.map_cons, List.count_append, List.count_cons, List.count_nil] at this ⊢
    omega

theorem loadedResult_safe (gap : BitVec 16) (c : Fin 20) (h : Safe s t) : Safe s (loadedResult gap c t) := by
  unfold loadedResult
  split
  · exact dropReservation_safe h
  · rename_i k q e
    refine .ite (fun _ => dropReservation_safe h) fun hc => afterRemoval_safe _ ?_
    have hempty : bookIn t c = none := by simpa [loadedAt] using hc
    have hb := loadBook_safe e hempty (b := loadedBook k t.profiles[k.profile].fields c gap (clampRec t c).zero t.clock)
      rfl h
    exact hb.update { diverts := fun _ => Nat.zero_le _ }

theorem loadDiverted_safe (h : Safe s t) : Safe s (loadDiverted t) := by
  have k : Safe s (dropReservation { t with car := { t.car with diverts := min 3 (t.car.diverts + 1) } }) :=
    dropReservation_safe (h.update { diverts := fun _ => Nat.min_le_left _ _ })
  exact .ite (fun _ => raiseNotice_safe _ _ (lineHold_safe _ k)) fun _ => k

theorem setClamp_safe {c : Fin 20} {k : Clamp} (hk : k.book = bookIn t c) (h : Safe s t) : Safe s (setClamp c k t) := by
  refine books_safe (clampIds_congr fun i => ?_) h
  show (bookIn (setClamp c k t) i).map _ = _
  rw [bookIn_eq, clampRec_setClamp]
  split
  · rename_i hi; rw [hi, hk]
  · rfl

theorem learned_safe (gap : BitVec 16) (c : Fin 20) (h : Safe s t) : Safe s (learned gap c t) := by
  unfold learned
  simp only
  split
  · exact raiseNotice_safe _ _ (setClamp_safe (by rfl) h)
  · exact setClamp_safe (by rfl) h

theorem loadDone_safe (r : JobResult) (j : Job) (h : Safe s t) : Safe s (loadDone r j t) := by
  refine .ite (fun _ => ?_) fun _ => h
  have k := setOverrun_safe .load (n := 0) (by decide) (endJob_safe .load .done h)
  split
  · exact loadedResult_safe _ _ k
  · exact loadDiverted_safe k
  · exact loadDiverted_safe k
  · exact dropReservation_safe k
  · exact learned_safe _ _ k
  · exact k
  · exact k

theorem drawDone_safe (l : List Attempt) (j : Job) (h : Safe s t) : Safe s (drawDone l j t) := by
  unfold drawDone
  split
  · split
    · exact jobFailed_safe _ _ h
    · refine .ite (fun _ => jobFailed_safe _ _ h) fun _ => coverSequence_safe _ _ ?_
      have k := countMismatch_safe l (setOverrun_safe .draw (n := 0) (by decide) (endJob_safe .draw .done h))
      split
      · exact .ite (fun _ => Safe.update k {}) fun _ => setReason_safe _ _ k
      · exact k
  · exact h

/-- A time written into the book of a clamp. -/
theorem stampBook_safe (c : Fin 20) {f : Book → Book} (hf : ∀ b, (f b).ticket.id = b.ticket.id) (h : Safe s t) :
    Safe s (match bookIn t c with
      | some b => setBook c (some (f b)) t
      | none => t) := by
  split
  · rename_i b e; exact setBook_safe c e (hf b) h
  · exact h

theorem jobDone_safe (r : JobResult) (j : Job) (h : Safe s t) : Safe s (jobDone r j t) := by
  have hdone : ∀ st, Safe s (setOverrun st 0 (endJob st .done t)) := fun st =>
    setOverrun_safe st (by decide) (endJob_safe st .done h)
  unfold jobDone
  split
  · exact loadDone_safe r j h
  · exact hdone _
  · exact stampBook_safe j.item.clamp (f := fun b => { b with glueTime := some t.clock }) (fun _ => rfl) (hdone .spine)
  · exact hdone _
  · exact drawDone_safe _ j h
  · have k := removeEntry_safe (hdone .apply)
    refine .ite (fun _ => ?_) fun _ => k
    exact stampBook_safe j.item.clamp (f := fun b => { b with coverTime := some t.clock }) (fun _ => rfl) k
  · exact hdone _
  · exact releaseAnswered_safe _ h

theorem noJob_safe (j : Job) (h : Safe s t) : Safe s (noJob j t) :=
  .ite (fun _ => jobFailed_safe _ _ h) fun _ => .ite (fun _ => h) fun _ => handOver_safe _ h

theorem takeStatus_safe (jobs : List (Station × JobAnswer)) (st : Station) (h : Safe s t) :
    Safe s (takeStatus jobs st t) := by
  unfold takeStatus
  split
  · exact h
  · refine .ite (fun _ => h) fun _ => ?_
    split
    · exact updateJob_safe _ _ h
    · exact jobDone_safe _ _ h
    · exact jobFailed_safe _ _ h
    · exact noJob_safe _ h

/-- A safe operation for each of a list's elements in turn. -/
theorem foldl_safe {α : Type} {f : State → α → State} (hf : ∀ u a, Safe s u → Safe s (f u a)) (l : List α)
    (h : Safe s t) : Safe s (l.foldl f t) := by
  induction l generalizing t with
  | nil => exact h
  | cons a l ih => exact ih (hf t a h)

theorem takeJobs_safe (tag : Byte) (n : NodeId) (jobs : List (Station × JobAnswer)) (h : Safe s t) :
    Safe s (takeJobs tag n jobs t) :=
  .ite (fun _ => foldl_safe (fun _ st => takeStatus_safe jobs st) _ h) fun _ => h

/-! ## Nodes -/

theorem startUpCheck_safe (h : Safe s t) : Safe s (startUpCheck t) := by
  refine .ite (fun hl => Safe.update (enterParked_safe ?_ h) {}) fun _ => h
  simp_all

theorem probeEnded_safe (h : Safe s t) : Safe s (probeEnded t) := by
  have k : Safe s { t with bus := { t.bus with probesLeft := t.bus.probesLeft - 1 } } := h.update {}
  exact .ite (fun _ => startUpCheck_safe (k.update {})) fun _ => k

theorem phaseFromProbe_safe (q : Fin 20) (h : Safe s t) : Safe s (phaseFromProbe q t) :=
  .ite (fun _ => h.update {}) fun _ => h

theorem restartJob_safe (n : NodeId) (st : Station) (h : Safe s t) : Safe s (restartJob n st t) := by
  unfold restartJob
  split
  · exact .ite (fun _ => jobFailed_safe _ _ h) fun _ => h
  · exact h

theorem restartWork_safe (n : NodeId) (h : Safe s t) : Safe s (restartWork n t) := by
  unfold restartWork
  split
  · exact .ite (fun _ => moveFailed_safe h) fun _ => h
  · split
    · exact h
    · exact .ite (fun _ => pushLost_safe h) fun _ => h
  · exact trimRestarted_safe h
  · exact foldl_safe (fun _ st => restartJob_safe n st) _ h

/-- A node's record replaced by one whose counts are within their bounds. -/
theorem setNode_safe {n : NodeId} {r : NodeRec}
    (hm : (∀ i : Fin 9, t.bus.nodes[i].misses ≤ 3) → r.misses ≤ 3)
    (hr : (∀ i : Fin 9, t.bus.nodes[i].restarts ≤ 255) → r.restarts ≤ 255) (h : Safe s t) : Safe s (setNode n r t) := by
  refine h.update { misses := fun k i => ?_, restarts := fun k i => ?_ }
  · simp only [setNode, Fin.getElem_fin, Vector.getElem_set]
    split
    · exact hm k
    · exact k i
  · simp only [setNode, Fin.getElem_fin, Vector.getElem_set]
    split
    · exact hr k
    · exact k i

theorem takeRestart_safe (n : NodeId) (h : Safe s t) : Safe s (takeRestart n t) := by
  refine .ite (fun _ => h) fun _ => restartWork_safe n (setNode_safe (fun k => k _) (fun _ => ?_) h)
  exact Nat.min_le_left _ _

theorem nodeAnswered_safe (n : NodeId) (restarted : Bool) (h : Safe s t) : Safe s (nodeAnswered n restarted t) := by
  have k : Safe s (setNode n { nodeRec t n with state := .present, misses := 0, lastAnswer := t.clock } t) :=
    setNode_safe (fun _ => Nat.zero_le _) (fun k => k _) h
  have k₂ := Safe.ite (p := restarted = true) (fun _ => takeRestart_safe n k) fun _ => k
  exact .ite (fun _ => headDecision_safe k₂) fun _ => k₂

theorem lossReported_safe (n : NodeId) (h : Safe s t) : Safe s (lossReported n t) := by
  unfold lossReported
  split
  · have k := trimFault_safe .nodeLost true h
    exact .ite (fun _ => pushLost_safe k) fun _ => k
  · exact trimFault_safe _ _ h
  · exact glueLost_safe (lineFault_safe _ h)
  · exact lineFault_safe _ h

theorem nodeLost_safe (n : NodeId) (h : Safe s t) : Safe s (nodeLost n t) := by
  have k : Safe s (setNode n { nodeRec t n with state := .lost, misses := 3 } t) :=
    setNode_safe (fun _ => le_rfl) (fun k => k _) h
  exact lossReported_safe n (raiseNotice_safe _ _ (dropCarFrames_safe _ (giveUp_safe _ k)))

theorem nodeMiss_safe (n : NodeId) (h : Safe s t) : Safe s (nodeMiss n t) := by
  refine .ite (fun _ => .ite (fun hm => setNode_safe (fun _ => ?_) (fun k => k _) h) fun _ => nodeLost_safe n h)
    fun _ => h
  exact hm.le

theorem received_safe (ok : Bool) {f : State → State} (hf : ∀ u, Safe s u → Safe s (f u)) (h : Safe s t) :
    Safe s (received ok f t) := .ite (fun _ => hf t h) fun _ => h

theorem takeAnswer_safe (n : NodeId) (fits : ReqKind → Bool) (seq : Byte) (busy restarted : Bool)
    {act : ReqKind → State → State} (ha : ∀ k u, Safe s u → Safe s (act k u)) (h : Safe s t) :
    Safe s (takeAnswer n fits seq busy restarted act t) := by
  unfold takeAnswer
  split
  · refine .ite (fun _ => endTransaction_safe ?_) fun _ => h
    have k := nodeAnswered_safe n restarted h
    exact .ite (fun _ => k) fun _ => .ite (fun _ => k.update {}) fun _ => ha _ _ k
  · exact h

/-! ## POLL rounds -/

theorem pollRoundDue_safe (h : Safe s t) : Safe s (pollRoundDue t) := by
  refine .ite (fun _ => ?_) fun _ => h
  have k : Safe s { t with bus := { t.bus with pollBase := t.bus.pollBase + BitVec.ofNat 32 (cadence t.bus) } } :=
    h.update {}
  exact .ite (fun _ => k) fun _ => handOver_safe _ k

theorem slotClosed_safe (h : Safe s t) : Safe s (slotClosed t) := by
  unfold slotClosed
  split
  · exact h.update { bus := fun _ => nofun }
  · exact h

theorem slotTemp_safe (n : NodeId) (temp : Option Nat) (h : Safe s t) : Safe s (slotTemp n temp t) := by
  unfold slotTemp
  split
  · exact glueReading_safe _ h
  · exact h

theorem slotAnswered_safe (n : NodeId) (jobs : List (Station × JobAnswer)) (temp : Option Nat) (restarted : Bool)
    (h : Safe s t) : Safe s (slotAnswered n jobs temp restarted t) := by
  unfold slotAnswered
  split
  · refine .ite (fun _ => ?_) fun _ => h
    exact slotClosed_safe (dwellCheck_safe (slotTemp_safe _ _ (takeJobs_safe _ _ _ (nodeAnswered_safe _ _ h))))
  · exact h

theorem slotMissed_safe (h : Safe s t) : Safe s (slotMissed t) := by
  unfold slotMissed
  split
  · split
    · exact slotClosed_safe (nodeMiss_safe _ h)
    · exact h
  · exact h

theorem roundEnded_safe (h : Safe s t) : Safe s (roundEnded t) := by
  unfold roundEnded
  split
  · exact .ite (fun _ => endTransaction_safe h) fun _ => h
  · exact h

/-! ## Final answers -/

theorem indexAnswered_safe (a : Answer) (h : Safe s t) : Safe s (indexAnswered a t) := by
  refine .ite (fun _ => ?_) fun _ => h
  cases a with
  | busy => exact h
  | done => exact indexDone_safe h
  | failed => exact moveFailed_safe h

theorem homeAnswered_safe (a : HomeAnswer) (h : Safe s t) : Safe s (homeAnswered a t) := by
  refine .ite (fun _ => ?_) fun _ => h
  cases a with
  | busy => exact h
  | done q => exact homeDone_safe q h
  | failed => exact moveFailed_safe h

theorem pushAnswered_safe (a : Answer) (h : Safe s t) : Safe s (pushAnswered a t) := by
  refine .ite (fun _ => ?_) fun _ => h
  cases a with
  | busy => exact h
  | done => exact pushDone_safe h
  | failed => exact pushLost_safe h

theorem setAxesAnswered_safe (a : Answer) (h : Safe s t) : Safe s (setAxesAnswered a t) := by
  refine .ite (fun hs => ?_) fun _ => h
  cases a with
  | busy => exact h
  | done => exact trimRequest_safe _ h
  | failed => exact stepFailed_safe _ (by rw [beq_iff_eq.mp hs]; decide) h

theorem readAxesAnswered_safe (a : AxesAnswer) (h : Safe s t) : Safe s (readAxesAnswered a t) := by
  unfold readAxesAnswered
  split
  · exact axesRead_safe _ _ _ h
  · exact h

theorem not_faulted_of_inCutCycle (h : inCutCycle t = true) : t.trim.state ≠ .faulted := by
  intro hf
  simp [inCutCycle, hf] at h

theorem stepAnswered_safe (a : Answer) (h : Safe s t) : Safe s (stepAnswered a t) := by
  refine .ite (fun hs => ?_) fun _ => h
  cases a with
  | busy => exact h
  | done => exact stepDone_safe h
  | failed => exact stepFailed_safe _ (not_faulted_of_inCutCycle hs) h

theorem probeAnswered_safe (n : NodeId) (position : Option (Fin 20)) (k : ReqKind) (h : Safe s t) :
    Safe s (probeAnswered n position k t) := by
  unfold probeAnswered
  split
  · refine probeEnded_safe ?_
    split
    · exact phaseFromProbe_safe _ h
    · exact h
  · exact h

theorem probeAnswer_safe (n : NodeId) (seq : Byte) (position : Option (Fin 20)) (restarted : Bool) (h : Safe s t) :
    Safe s (probeAnswer n seq position restarted t) := by
  unfold probeAnswer
  split
  · refine .ite (fun _ => endTransaction_safe ?_) fun _ => h
    have k := probeAnswered_safe n position ‹Request›.kind (nodeAnswered_safe n restarted h)
    exact .ite (fun _ => dwellCheck_safe k) fun _ => k
  · exact h

/-! ## Reply windows and cadences -/

/-- A request offered again, while its transaction is still on the bus. -/
theorem offerAgain_safe (h : Safe s t) : Safe s (offerAgain t) := by
  unfold offerAgain
  split
  · rename_i r w hcur
    have hsame : (t.bus.requeue (.req r)).current = t.bus.current := by
      unfold Bus.requeue
      cases requesterOf (.req r) <;> rfl
    refine bus_safe (requeue_nodes (.req r) t.bus) (fun _ hfree => ?_) h
    rw [hsame, hcur] at hfree
    cases hfree
  · exact h

theorem windowClosed_safe (h : Safe s t) : Safe s (windowClosed t) := by
  unfold windowClosed
  split
  · refine .ite (fun _ => h) fun _ => .ite (fun _ => endTransaction_safe ?_) fun _ => ?_
    · split
      · exact probeEnded_safe h
      · exact h
    · exact endTransaction_safe (offerAgain_safe (nodeMiss_safe _ h))
  · exact h

theorem requestRepeat_safe (n : NodeId) (h : Safe s t) : Safe s (requestRepeat n t) := by
  unfold requestRepeat
  split
  · exact busPump_safe (requeue_nodes _ _) h
  · exact h

theorem statusDue_safe (n : NodeId) (h : Safe s t) : Safe s (statusDue n t) :=
  .ite (fun _ => handRequest_safe _ _ h) fun _ => h

theorem probeNode_safe (n : NodeId) (h : Safe s t) : Safe s (probeNode t n) :=
  .ite (fun _ => h) fun _ => handRequest_safe _ _ h

theorem probeBase_safe (x : Time) (h : Safe s t) : Safe s { t with bus := { t.bus with probeBase := x } } :=
  h.update {}

theorem recoveryProbes_safe (h : Safe s t) : Safe s (recoveryProbes t) :=
  .ite (fun _ => foldl_safe (fun _ n => probeNode_safe n) _ (probeBase_safe _ h)) fun _ => h

/-! ## Owners of the contacts -/

theorem exitContact_safe (e : Exit) (h : Safe s t) : Safe s (exitContact e t) := by
  refine .ite (fun _ => ?_) fun _ => h
  split
  · exact exitConfirmed_safe h
  · exact .ite (fun _ => trim_safe (t := t) rfl id (fun k => k.trimmer) id h) fun _ => h

theorem drawLimit_safe (l : Limit) (h : Safe s t) : Safe s (drawLimit l t) := updateJob_safe _ _ h

theorem guardOpened_safe (i : Fin 64) (h : Safe s t) : Safe s (guardOpened i t) :=
  .ite (fun _ => raiseNotice_safe _ _ (lineHold_safe _ h)) fun _ => h

theorem contactChange_safe (i : Nat) (closing : Bool) (h : Safe s t) : Safe s (contactChange i closing t) := by
  unfold contactChange
  split
  · exact wakeTest_safe (freshTest_safe h)
  · exact dropContact_safe h
  · exact pushContact_safe _ h
  · exact exitContact_safe _ h
  · exact pushContact_safe _ h
  · exact exitContact_safe _ h
  · exact raiseNotice_safe _ _ h
  · exact drawLimit_safe _ (raiseNotice_safe _ _ (lineHold_safe _ h))
  · exact drainReleaseTest_safe (drawLimit_safe _ h)
  · exact raiseNotice_safe _ _ (lineFault_safe _ h)
  · exact guardResumed_safe h
  · exact trim_safe (t := t) rfl id (fun k => k.trimmer) id h
  · exact raiseNotice_safe _ _ (lineHold_safe _ h)
  · exact raiseNotice_safe _ _ (trimFault_safe _ _ h)
  · refine .ite (fun _ => ?_) fun _ => h
    exact .ite (fun _ => drainReleaseTest_safe h) fun _ => guardOpened_safe _ h

theorem takeChanges_safe (l : List (Fin 64 × Bool)) (h : Safe s t) : Safe s (takeChanges l t) :=
  foldl_safe (f := fun u (e : Fin 64 × Bool) => contactChange e.1.val e.2 u) (fun _ e => contactChange_safe e.1.val e.2) l h

theorem ghostNotices_safe (old new : Vector Contact 64) (h : Safe s t) : Safe s (ghostNotices old new t) :=
  foldl_safe (fun _ _ => raiseNotice_safe _ _) _ h

/-! ## The e-stop input -/

theorem estopOn_safe (h : Safe s t) : Safe s (estopOn t) := by
  refine trimFault_safe _ _ (raiseNotice_safe _ _ (lineFault_safe _ ?_))
  refine h.update { outputs := fun k => ⟨k.fault, k.heat, k.drive, ?_, k.ready, k.target⟩ }
  simp

theorem estopActivated_safe (h : Safe s t) : Safe s (estopActivated t) :=
  .ite (fun _ => h.update {}) fun _ => estopOn_safe h

theorem estopReleased_safe (h : Safe s t) : Safe s (estopReleased t) := .ite (fun _ => h.update {}) fun _ => h

end

end Sys2Proof.Machine

/-! PROOFS. The contact matrix, the host requests, the link, the resets and the timers keep the invariants; with them
every command is safe, and the invariants of every step follow. -/

namespace Sys2Proof.Machine

set_option Elab.async false -- as in the first part

/-! ## The contact matrix (R166, R167) -/

/-- `MatrixSound` of a table of contacts. -/
def MatrixOk (v : Vector Contact 64) : Prop :=
  (∀ i : Fin 64, v[i].uncertain = true → v[i].closed = false) ∧ ∀ a c b d : Fin 8, closedRectangle v a c b d = false

theorem matrixSound_iff {s : State} : MatrixSound s ↔ MatrixOk s.scan.contacts :=
  ⟨fun h => ⟨h.1, h.2⟩, fun h => ⟨h.1, h.2⟩⟩

theorem closedRectangle_iff {v : Vector Contact 64} {a c b d : Fin 8} :
    closedRectangle v a c b d = true ↔ a ≠ c ∧ b ≠ d ∧ v[crossing a b].closed = true ∧ v[crossing a d].closed = true
      ∧ v[crossing c b].closed = true ∧ v[crossing c d].closed = true := by
  simp [closedRectangle, and_assoc]

@[simp] theorem driveOf_crossing (a b : Fin 8) : driveOf (crossing a b) = a :=
  Fin.ext (by simp only [driveOf, crossing]; omega)

@[simp] theorem senseOf_crossing (a b : Fin 8) : senseOf (crossing a b) = b :=
  Fin.ext (by simp only [senseOf, crossing]; omega)

theorem crossing_inj {a b c d : Fin 8} (h : crossing a b = crossing c d) : a = c ∧ b = d := by
  refine ⟨?_, ?_⟩
  · simpa using congrArg driveOf h
  · simpa using congrArg senseOf h

theorem get_set_eq (v : Vector Contact 64) (i : Fin 64) (k : Contact) : (v.set i.val k)[i] = k := by simp

theorem get_set_ne {v : Vector Contact 64} {i j : Fin 64} (k : Contact) (h : j ≠ i) : (v.set i.val k)[j] = v[j] := by
  have : i.val ≠ j.val := fun e => h (Fin.ext e.symm)
  simp [this]

/-- Three closed corners of a sound matrix make the fourth ghosted. -/
theorem ghosted_of_corners {v : Vector Contact 64} (h : MatrixOk v) {a c b d : Fin 8} (hac : a ≠ c) (hbd : b ≠ d)
    (h₁ : v[crossing a d].closed = true) (h₂ : v[crossing c b].closed = true) (h₃ : v[crossing c d].closed = true) :
    ghosted v (crossing a b) = true := by
  have hcertain : ∀ i : Fin 64, v[i].closed = true → certainClosed v i = true := by
    intro i hi
    have hun : v[i].uncertain = false := by
      by_contra hu
      rw [h.1 i (by simpa using hu)] at hi
      cases hi
    simp only [certainClosed, hi, hun]
    rfl
  refine List.any_eq_true.mpr ⟨c, List.mem_finRange c, List.any_eq_true.mpr ⟨d, List.mem_finRange d, ?_⟩⟩
  simp only [ghostCorner, driveOf_crossing, senseOf_crossing, hcertain _ h₁, hcertain _ h₂, hcertain _ h₃,
    bne_iff_ne.mpr hac.symm, bne_iff_ne.mpr hbd.symm, Bool.and_self]

/-- A rectangle can be read from any of its corners. -/
theorem closedRectangle_swap {v : Vector Contact 64} {a c b d : Fin 8} (h : closedRectangle v a c b d = true) :
    closedRectangle v c a b d = true ∧ closedRectangle v a c d b = true := by
  rw [closedRectangle_iff] at h
  obtain ⟨hac, hbd, h₁, h₂, h₃, h₄⟩ := h
  exact ⟨closedRectangle_iff.mpr ⟨hac.symm, hbd, h₃, h₄, h₁, h₂⟩, closedRectangle_iff.mpr ⟨hac, hbd.symm, h₂, h₁, h₄, h₃⟩⟩

theorem debounced_certain (first r : Bool) (k : Contact) : (debounced first r k).uncertain = false := by
  unfold debounced
  split
  · rfl
  · split
    · rfl
    · split <;> rfl

/-- No rectangle gets its last corner from a contact that is judged: three closed corners make it a ghost, which
keeps its state. -/
theorem no_rectangle_at {v : Vector Contact 64} (h : MatrixOk v) (first : Bool) (r : BitVec 64) {a c b d : Fin 8} :
    closedRectangle (v.set (crossing a b).val (judged first r v (crossing a b))) a c b d ≠ true := by
  intro hrect
  rw [closedRectangle_iff] at hrect
  obtain ⟨hac, hbd, h₁, h₂, h₃, h₄⟩ := hrect
  rw [get_set_ne _ fun e => hbd (crossing_inj e).2.symm] at h₂
  rw [get_set_ne _ fun e => hac (crossing_inj e).1.symm] at h₃
  rw [get_set_ne _ fun e => hac (crossing_inj e).1.symm] at h₄
  rw [get_set_eq, judged, if_pos (ghosted_of_corners h hac hbd h₂ h₃ h₄)] at h₁
  have := h.2 a c b d
  rw [← Bool.not_eq_true, closedRectangle_iff] at this
  exact this ⟨hac, hbd, h₁, h₂, h₃, h₄⟩

theorem ghosted_open {v : Vector Contact 64} (h : MatrixOk v) {i : Fin 64} (hg : ghosted v i = true) :
    v[i].closed = false := by
  obtain ⟨c, -, hc⟩ := List.any_eq_true.mp hg
  obtain ⟨d, -, hd⟩ := List.any_eq_true.mp hc
  have hi : crossing (driveOf i) (senseOf i) = i := Fin.ext (by simp only [crossing, driveOf, senseOf]; omega)
  simp only [ghostCorner, certainClosed, Bool.and_eq_true, bne_iff_ne] at hd
  obtain ⟨⟨⟨⟨hc', hd'⟩, h₁, -⟩, h₂, -⟩, h₃, -⟩ := hd
  by_contra hclosed
  have hsame : ∀ j, j = i → v[j].closed = true := by
    rintro j rfl
    simpa using hclosed
  have := h.2 (driveOf i) c (senseOf i) d
  rw [← Bool.not_eq_true, closedRectangle_iff] at this
  exact this ⟨hc'.symm, hd'.symm, hsame _ hi, h₁, h₂, h₃⟩

/-- Judging one contact keeps the matrix sound. -/
theorem matrixOk_judged {v : Vector Contact 64} (h : MatrixOk v) (first : Bool) (r : BitVec 64) (i : Fin 64) :
    MatrixOk (v.set i.val (judged first r v i)) := by
  refine ⟨fun j hu => ?_, fun a c b d => ?_⟩
  · by_cases hj : j = i
    · subst hj
      rw [get_set_eq] at hu ⊢
      unfold judged at hu ⊢
      split at hu
      · rename_i hg
        rw [if_pos hg]
        exact ghosted_open h hg
      · rw [debounced_certain] at hu
        cases hu
    · rw [get_set_ne _ hj] at hu ⊢
      exact h.1 j hu
  · by_contra hrect
    rw [Bool.not_eq_false] at hrect
    have hcorner : ∀ a b c d, closedRectangle (v.set i.val (judged first r v i)) a c b d = true → i ≠ crossing a b := by
      rintro a b c d hr rfl
      exact no_rectangle_at h first r hr
    have hswap := closedRectangle_swap hrect
    have h₁ := hcorner a b c d hrect
    have h₂ := hcorner c b a d hswap.1
    have h₃ := hcorner a d c b hswap.2
    have h₄ := hcorner c d a b (closedRectangle_swap hswap.1).2
    rw [closedRectangle_iff, get_set_ne _ h₁.symm, get_set_ne _ h₂.symm, get_set_ne _ h₃.symm, get_set_ne _ h₄.symm,
      ← closedRectangle_iff, h.2] at hrect
    cases hrect

theorem judged_count {v : Vector Contact 64} {i : Fin 64} (first : Bool) (r : BitVec 64) :
    (judged first r v i).count ≤ 2 := by
  unfold judged
  simp only
  split
  · exact Nat.zero_le _
  · unfold debounced
    split
    · exact Nat.zero_le _
    · split
      · exact Nat.zero_le _
      · split
        · rename_i hk
          exact Nat.le_of_lt_succ hk
        · exact Nat.zero_le _

/-- What judging one contact keeps, the pass keeps. -/
theorem scanPass_keeps {P : Vector Contact 64 → Prop} (first : Bool) (r : BitVec 64)
    (hp : ∀ v i, P v → P (v.set i.val (judged first r v i))) (l : List (Fin 64)) {v : Vector Contact 64} (h : P v) :
    P (scanPass first r l v) := by
  unfold scanPass
  induction l generalizing v with
  | nil => exact h
  | cons i l ih => exact ih (hp v i h)

section
variable {s t : State}

/-- A table of contacts that stays sound and within its counts. -/
theorem contacts_safe {v : Vector Contact 64} {later : Bool} {x : Time}
    (hm : MatrixOk t.scan.contacts → MatrixOk v)
    (hc : (∀ i : Fin 64, t.scan.contacts[i].count ≤ 2) → ∀ i : Fin 64, v[i].count ≤ 2) (h : Safe s t) :
    Safe s { t with scan := ⟨v, later, x⟩ } :=
  h.trans {
    pending := rfl
    conserved := fun k => ⟨k.balance, k.idleEmpty, k.infeedFree⟩
    ids := id
    bounded := fun k => { k with counts := hc k.counts }
    lines := fun k => ⟨k.transmit, k.bus⟩
    causes := fun k => ⟨k.line, k.trimmer⟩
    outputs := fun k => ⟨k.1, k.2, k.3, k.4, k.5, k.6⟩
    matrix := fun k => matrixSound_iff.mpr (hm (matrixSound_iff.mp k)) }

/-- The scanner's record after a pass. -/
theorem scanned_safe (first later : Bool) (r : BitVec 64) (l : List (Fin 64)) (x : Time) (h : Safe s t) :
    Safe s { t with scan := ⟨scanPass first r l t.scan.contacts, later, x⟩ } := by
  refine contacts_safe (scanPass_keeps (P := MatrixOk) first r (fun _ i hv => matrixOk_judged hv first r i) l)
    (scanPass_keeps (P := fun v => ∀ i : Fin 64, v[i].count ≤ 2) first r (fun v i hv j => ?_) l) h
  by_cases hj : j = i
  · rw [hj, get_set_eq]; exact judged_count first r
  · rw [get_set_ne _ hj]; exact hv j

theorem scanEnded_safe (r : BitVec 64) (h : Safe s t) : Safe s (scanEnded r t) :=
  .ite (fun _ => takeChanges_safe _ (ghostNotices_safe _ _ (scanned_safe _ _ _ _ _ h))) fun _ => h

/-! ## Host requests -/

theorem Safe.iteTaken {p : Prop} [Decidable p] {a b : Taken} (h : p → Safe s a.1) (k : ¬p → Safe s b.1) :
    Safe s (if p then a else b).1 := by
  split
  · exact h ‹_›
  · exact k ‹_›

theorem ticketCheck_eq_none {k : Ticket} (h : ticketCheck k t = none) :
    (k.id ≠ 0 ∧ k.id ∉ heldIds t) ∧ t.tickets.queue.length < 64 := by
  unfold ticketCheck at h
  split at h
  · cases h
  · rename_i hid
    split at h
    · cases h
    split at h
    · cases h
    split at h
    · cases h
    split at h
    · cases h
    · rename_i hlen
      exact ⟨not_or.mp hid, Nat.lt_of_not_le hlen⟩

theorem appendTicket_safe {k : Ticket} (hk : ticketCheck k t = none) (h : Safe s t) : Safe s (appendTicket k t) := by
  obtain ⟨⟨h0, hnew⟩, hlen⟩ := ticketCheck_eq_none hk
  refine h.update { ids := fun u => ?_, queue := fun _ => ?_ }
  · have hperm : (heldIds (appendTicket k t)).Perm (k.id :: heldIds t) := by
      rw [heldIds_eq, heldIds_eq]
      show ((t.tickets.queue ++ [k]).map (·.id) ++ bookIds t).Perm _
      rw [List.perm_iff_count]
      intro a
      simp only [queueIds, List.map_append, List.map_cons, List.map_nil, List.count_append, List.count_cons,
        List.count_nil]
      omega
    refine ⟨hperm.nodup_iff.mpr (List.nodup_cons.mpr ⟨hnew, u.1⟩), fun hmem => ?_⟩
    rcases List.mem_cons.mp (hperm.mem_iff.mp hmem) with e | e
    · exact h0 e.symm
    · exact u.2 e
  · simp only [appendTicket, List.length_append, List.length_cons, List.length_nil]
    omega

theorem takeTicket_safe (p : List Byte) (h : Safe s t) : Safe s (takeTicket p t).1 := by
  refine .iteTaken (fun _ => h) fun _ => ?_
  split
  · exact h
  · refine .iteTaken (fun _ => h) fun _ => ?_
    split
    · exact h
    · rename_i hk
      exact wakeTest_safe (redecide_safe _ (appendTicket_safe hk h))

theorem takeWithdraw_safe (p : List Byte) (h : Safe s t) : Safe s (takeWithdraw p t).1 := by
  refine .iteTaken (fun _ => h) fun _ => .iteTaken (fun _ => h) fun _ => .iteTaken (fun _ => ?_) fun _ => ?_
  · refine .iteTaken (fun _ => h) fun _ => afterRemoval_safe _ (h.update {
      ids := ids_of_subperm ?_
      queue := fun k => (List.length_eraseP_le).trans k })
    rw [heldIds_eq, heldIds_eq]
    exact (List.eraseP_sublist.map _).append_right _ |>.subperm
  · exact .iteTaken (fun _ => h) fun _ => h

theorem takeProfilePut_safe (p : List Byte) (h : Safe s t) : Safe s (takeProfilePut p t).1 := by
  refine .iteTaken (fun _ => h) fun _ => .iteTaken (fun _ => h) fun _ => ?_
  split
  · exact h
  · exact .iteTaken (fun _ => h) fun _ => h.update {}

theorem takeProfileGet_safe (p : List Byte) (h : Safe s t) : Safe s (takeProfileGet p t).1 := by
  refine .iteTaken (fun _ => h) fun _ => .iteTaken (fun _ => h) fun _ => ?_
  split <;> exact h

theorem takeClampPut_safe (p : List Byte) (h : Safe s t) : Safe s (takeClampPut p t).1 := by
  refine .iteTaken (fun _ => h) fun _ => .iteTaken (fun _ => h) fun _ => ?_
  split
  · exact h
  · exact .iteTaken (fun _ => h) fun _ => redecide_safe _ (setClamp_safe rfl h)

theorem takeClampGet_safe (p : List Byte) (h : Safe s t) : Safe s (takeClampGet p t).1 := by
  refine .iteTaken (fun _ => h) fun _ => .iteTaken (fun _ => h) fun _ => ?_
  split <;> exact h

theorem takeGlueChange_safe (p : List Byte) (h : Safe s t) : Safe s (takeGlueChange p t).1 :=
  .iteTaken (fun _ => h) fun _ => .iteTaken (fun _ => h) fun _ => .iteTaken (fun _ => h) fun _ =>
    .iteTaken (fun _ => h) fun _ => glue_safe (t := t) rfl h

theorem clearGateStop_safe (h : Safe s t) : Safe s (clearGateStop t) := by
  have k : Safe s { t with dlv := { t.dlv with gateStop := false } } := h.update {}
  exact .ite (fun _ => headDecision_safe k) fun _ => h

theorem takeStart_safe (p : List Byte) (h : Safe s t) : Safe s (takeStart p t).1 := by
  refine .iteTaken (fun _ => h) fun _ => .iteTaken (fun _ => h) fun _ => .iteTaken (fun _ => h) fun hl => ?_
  refine .iteTaken (fun _ => h) fun _ => .iteTaken (fun _ => h) fun _ => ?_
  refine clearGateStop_safe (tellCarousel_safe (enterWarming_safe (fun hf => ?_) h))
  rw [hf] at hl
  exact hl ⟨by decide, by decide⟩

theorem takeHalt_safe (p : List Byte) (h : Safe s t) : Safe s (takeHalt p t).1 := by
  refine .iteTaken (fun _ => h) fun _ => .iteTaken (fun _ => h) fun _ => ?_
  split
  · rename_i hl
    refine .iteTaken (fun _ => tellCarousel_safe (enterDraining_safe (by simp [hl]) h)) fun _ => ?_
    exact h.update {}
  · exact h
  · rename_i hl
    split
    · exact h
    · refine .iteTaken (fun _ => tellCarousel_safe (enterDraining_safe (by simp [hl]) h)) fun _ => ?_
      exact h.update {}
  · exact h

theorem takeHold_safe (p : List Byte) (h : Safe s t) : Safe s (takeHold p t).1 := by
  refine .iteTaken (fun _ => h) fun _ => .iteTaken (fun _ => h) fun _ => ?_
  split
  · exact lineHold_safe _ h
  · exact lineHold_safe _ h
  · exact lineHold_safe _ h
  · exact h

theorem cancelHold_safe (h : Safe s t) : Safe s (cancelHold t) :=
  redecide_safe _ (h.update { diverts := fun _ => Nat.zero_le _, mismatch := fun _ => Nat.zero_le _ })

theorem takeResume_safe (p : List Byte) (h : Safe s t) : Safe s (takeResume p t).1 := by
  refine .iteTaken (fun _ => h) fun _ => .iteTaken (fun _ => h) fun _ => .iteTaken (fun hl => ?_) fun _ => ?_
  · have hne : t.line.state ≠ .faulted := by
      intro hf
      simp [hf] at hl
    split
    · exact tellCarousel_safe (enterRunning_safe hne h)
    · exact tellCarousel_safe (enterDraining_safe hne h)
  · exact .iteTaken (fun _ => cancelHold_safe h) fun _ => h

theorem takePark_safe (p : List Byte) (h : Safe s t) : Safe s (takePark p t).1 := by
  refine .iteTaken (fun _ => h) fun _ => .iteTaken (fun _ => h) fun _ => ?_
  split
  · rename_i hl
    exact enterParked_safe (by simp [hl]) h
  · rename_i hl
    exact .iteTaken (fun _ => h) fun _ => enterParked_safe (by simp [hl]) h
  · exact .iteTaken (fun _ => h) fun _ => h.update {}
  · exact h

theorem zero_overruns_safe (h : Safe s t) :
    Safe s { t with car := { t.car with overruns := Vector.replicate 8 0 } } :=
  h.update { overruns := fun _ i => by simp }

/-- What CLEAR (LINE) leaves of the carousel. -/
def carCleared (s : State) : State :=
  setWorked false (unhome { s with car := { s.car with overruns := Vector.replicate 8 0 } })

theorem carCleared_safe (h : Safe s t) : Safe s (carCleared t) :=
  setWorked_safe false (unhome_safe (zero_overruns_safe h))

theorem lineCleared_eq (t : State) : lineCleared t =
    clearGateStop (if anyLoaded (carCleared t)
      then tellCarousel (enterDraining { carCleared t with line := { t.line with cause := none } })
      else enterParked { carCleared t with line := { t.line with cause := none } }) := by
  rfl

theorem lineCleared_safe (h : Safe s t) : Safe s (lineCleared t) := by
  rw [lineCleared_eq]
  have k := carCleared_safe h
  generalize carCleared t = u at k
  exact clearGateStop_safe (.ite (fun _ => tellCarousel_safe (enterDraining_safe_of (fun _ => rfl) k))
    fun _ => enterParked_safe_of (fun _ => rfl) k)

theorem clearLineTaken_safe (h : Safe s t) : Safe s (clearLineTaken t).1 :=
  .iteTaken (fun _ => h) fun _ => .iteTaken (fun _ => h) fun _ => .iteTaken (fun _ => h) fun _ =>
    .iteTaken (fun _ => h) fun _ => lineCleared_safe h

/-- The trimmer's state among the states of its work is nothing to the head decision. -/
theorem headDecision_trimState {x : TrimState} (hx : x ≠ .idle) (ht : t.trim.state ≠ .idle) :
    headDecision { t with trim := { t.trim with state := x } }
      = { headDecision t with trim := { (headDecision t).trim with state := x } } := by
  have hpush : ∀ g k, beginPush g k { t with trim := { t.trim with state := x } }
      = { beginPush g k t with trim := { (beginPush g k t).trim with state := x } } := fun g k =>
    (busBlind_trimState x).handOver _ { t with dlv := { t.dlv with gate := g, gateConfirm := .none } }
  have hallowed : pushAllowed { t with trim := { t.trim with state := x } } = pushAllowed t := rfl
  unfold headDecision
  simp only [hpush, hallowed, beq_false_of_ne hx, beq_false_of_ne ht]
  split
  · split
    · rfl
    · split
      · rfl
      · rw [Bool.and_false]; rfl
  · rfl

/-- The latch is cleared and TRIM_EN follows the line state. -/
theorem latchCleared_safe (h : Safe s t) : Safe s (latchCleared t) :=
  headDecision_safe (h.update { outputs := fun k => ⟨k.fault, k.heat, k.drive, by simp, k.ready, k.target⟩ })

theorem headDecision_trim (u : State) :
    ∃ x y z, (headDecision u).trim = { u.trim with moveTime := x, settleTimer := y, stepTimer := z } := by
  have hpush : ∀ g k, ∃ x y z, (beginPush g k u).trim
      = { u.trim with moveTime := x, settleTimer := y, stepTimer := z } := fun g k =>
    (handRequest_busWork .cooling k { u with dlv := { u.dlv with gate := g, gateConfirm := .none } }).trim
  unfold headDecision
  split
  · split
    · exact ⟨_, _, _, rfl⟩
    · split
      · exact hpush _ _
      · split
        · exact hpush _ _
        · exact ⟨_, _, _, rfl⟩
  · exact ⟨_, _, _, rfl⟩

/-- An eject sets the trimmer's state anew. -/
theorem beginEject_trimState (x : TrimState) (e : Exit) (u : State) :
    beginEject { u with trim := { u.trim with state := x, dest := e } }
      = beginEject { u with trim := { u.trim with dest := e } } := by
  cases hg : u.trim.guardPause <;> simp only [beginEject, hg] <;> rfl

/-- A cleared fault is as an eject about to be decided: the trimmer's state is nothing to the head decision, and is
set anew after it. -/
theorem trimmerCleared_safe (ht : t.trim.state = .faulted) (h : Safe s t) : Safe s (trimmerCleared t) := by
  have k : Safe s { t with trim := { t.trim with state := .eject, cause := none, settleCount := 0 } } :=
    trim_safe (t := t) rfl nofun (fun _ => rfl) (fun _ => Nat.zero_le _) h
  have k₂ := latchCleared_safe k
  have hcomm : latchCleared { t with trim := { t.trim with cause := none, settleCount := 0 } }
      = { latchCleared { t with trim := { t.trim with state := .eject, cause := none, settleCount := 0 } } with
        trim := { (latchCleared { t with trim := { t.trim with
          state := .eject, cause := none, settleCount := 0 } }).trim with state := .faulted } } := by
    have := headDecision_trimState (x := .faulted) (by decide) (t := { t with
      trim := { t.trim with state := .eject, cause := none, settleCount := 0 }
      line := { t.line with
        estopLatch := false, lamps := { t.line.lamps with trim := t.line.state != .starting } } }) (by simp)
    rw [← ht] at this ⊢
    exact this
  unfold trimmerCleared
  simp only [hcomm]
  obtain ⟨x, y, z, htrim⟩ := headDecision_trim { t with
      trim := { t.trim with state := .eject, cause := none, settleCount := 0 }
      line := { t.line with
        estopLatch := false, lamps := { t.line.lamps with trim := t.line.state != .starting } } }
  have hu : (latchCleared { t with trim := { t.trim with state := .eject, cause := none, settleCount := 0 } }).trim
      = _ := htrim
  have hstate := congrArg Trimmer.state hu
  have hcause := congrArg Trimmer.cause hu
  clear hu htrim hcomm
  generalize latchCleared { t with trim := { t.trim with state := .eject, cause := none, settleCount := 0 } } = u
    at k₂ hstate hcause ⊢
  split
  · have k₃ : Safe s { u with trim := { u.trim with dest := .reject } } :=
      trim_safe (t := u) rfl id (fun k => k.trimmer) id k₂
    have k₄ := beginEject_safe (t := { u with trim := { u.trim with dest := .reject } })
      (fun hf => TrimState.noConfusion (hstate.symm.trans hf)) k₃
    rw [← beginEject_trimState .faulted] at k₄
    exact k₄
  · exact trim_safe (t := u) rfl nofun (fun _ => congrArg _ hcause) id k₂
  · rename_i hheld
    exact afterTrimmer_safe (trimIdle_safe (t := u) hheld (fun _ => congrArg Option.isSome hcause) k₂)

theorem clearTrimmerTaken_safe (h : Safe s t) : Safe s (clearTrimmerTaken t).1 :=
  .iteTaken (fun _ => h) fun ht => .iteTaken (fun _ => h) fun _ => .iteTaken (fun _ => h) fun _ =>
    .iteTaken (fun _ => h) fun _ => trimmerCleared_safe (not_not.mp ht) h

theorem takeClear_safe (p : List Byte) (h : Safe s t) : Safe s (takeClear p t).1 :=
  .iteTaken (fun _ => h) fun _ => .iteTaken (fun _ => h) fun _ => .iteTaken (fun _ => clearLineTaken_safe h) fun _ =>
    .iteTaken (fun _ => clearTrimmerTaken_safe h) fun _ => h

/-- Records leave the done list and are counted as collected. -/
theorem collected_safe {n : Nat} (hn : n ≤ t.dlv.done.length) (h : Safe s t) : Safe s (collected n t) := by
  refine headDecision_safe (drainWaiters_safe _ (h.update {
    balance := fun k => ?_
    ids := ids_of_subperm ?_
    done := fun k => ?_ }))
  · have hlen : booksOnLine { t with dlv := { t.dlv with
        done := t.dlv.done.drop n, collected := t.dlv.collected + BitVec.ofNat 32 n } } + n = booksOnLine t := by
      show loadedClamps t + t.dlv.cooling.length + (heldBook t).toList.length + (t.dlv.done.drop n).length + n = _
      rw [List.length_drop, booksOnLine]
      omega
    have hbal := k.balance
    rw [← hlen, BitVec.ofNat_add] at hbal
    show t.dlv.loaded = _ + (t.dlv.collected + BitVec.ofNat 32 n)
    rw [hbal]
    ac_rfl
  · rw [heldIds_eq, heldIds_eq]
    exact (((List.drop_sublist n _).map _).append_left _ |>.append_left _).subperm
  · show (t.dlv.done.drop n).length ≤ 32
    rw [List.length_drop]
    omega

theorem takeCollect_safe (p : List Byte) (h : Safe s t) : Safe s (takeCollect p t).1 := by
  refine .iteTaken (fun _ => h) fun _ => .iteTaken (fun _ => h) fun _ => .iteTaken (fun _ => h) fun _ => ?_
  exact .ite (fun _ => h) fun _ => collected_safe (Nat.min_le_right _ _) h

theorem takeNodes_safe (p : List Byte) (h : Safe s t) : Safe s (takeNodes p t).1 :=
  .iteTaken (fun _ => h) fun _ => .iteTaken (fun _ => h) fun _ => h

theorem takeContacts_safe (p : List Byte) (h : Safe s t) : Safe s (takeContacts p t).1 :=
  .iteTaken (fun _ => h) fun _ => .iteTaken (fun _ => h) fun _ => h

theorem takeStatusRequest_safe (p : List Byte) (h : Safe s t) : Safe s (takeStatusRequest p t).1 :=
  .iteTaken (fun _ => h) fun _ => h

theorem takeTrace_safe (p : List Byte) (h : Safe s t) : Safe s (takeTrace p t).1 := by
  refine .iteTaken (fun _ => h) fun _ => .iteTaken (fun _ => h) fun _ => .iteTaken (fun _ => h) fun _ => ?_
  split <;> exact h

theorem takeSettingsPut_safe (p : List Byte) (h : Safe s t) : Safe s (takeSettingsPut p t).1 := by
  refine .iteTaken (fun _ => h) fun _ => .iteTaken (fun _ => h) fun _ => ?_
  split
  · exact h
  · exact replaceSettings_safe _ h

theorem takeSettingsGet_safe (p : List Byte) (h : Safe s t) : Safe s (takeSettingsGet p t).1 :=
  .iteTaken (fun _ => h) fun _ => .iteTaken (fun _ => h) fun _ => h

theorem hostRequest_safe (k g : Byte) {act : State → Taken} (ha : ∀ u, Safe s u → Safe s (act u).1) (h : Safe s t) :
    Safe s (hostRequest k g act t) :=
  .ite (fun _ => oweBusy_safe _ _ (clearRx_safe h)) fun _ => respond_safe _ _ _ _ (ha _ (clearRx_safe h))

/-- A STORE that waits for its save has no reply to send yet. -/
theorem beginSave_safe (g : Byte) (h : Safe s t) : Safe s (beginSave g t) := by
  refine h.update { link := ⟨id, fun k htx => ?_⟩ }
  have hlatches := (nextFrame_eq_none.mp (k htx)).2.2
  exact nextFrame_eq_none.mpr ⟨fun r hr => by cases hr; rfl, nofun, hlatches⟩

theorem storeRequest_safe (g : Byte) (p : List Byte) (h : Safe s t) : Safe s (storeRequest g p t) := by
  have k := clearRx_safe h
  refine .ite (fun _ => oweBusy_safe _ _ k) fun _ => .ite (fun _ => respond_safe _ _ _ _ k) fun _ => ?_
  exact .ite (fun _ => respond_safe _ _ _ _ k) fun _ => beginSave_safe g k

theorem resetRequest_safe (g : Byte) (p : List Byte) (h : Safe s t) : Safe s (resetRequest g p t) := by
  have k : Safe s (clearRx { t with host := { t.host with resetTaken := t.host.resetTaken || p.isEmpty } }) :=
    h.update { link := rx_linkSafe _ _ _ _ }
  refine .ite (fun _ => owe_safe _ _ ?_ k) fun _ => respond_safe _ _ _ _ k
  split <;> decide

theorem Safe.iteRun {p : Prop} [Decidable p] {f g : State → State} (h : Safe s (f t)) (k : Safe s (g t)) :
    Safe s ((if p then f else g) t) := by
  split
  · exact h
  · exact k

theorem requestTaken_safe (f : HostFrame) (h : Safe s t) : Safe s (requestTaken f t) :=
  .iteRun (hostRequest_safe _ _ (fun _ => takeTicket_safe _) h) <|
  .iteRun (hostRequest_safe _ _ (fun _ => takeWithdraw_safe _) h) <|
  .iteRun (hostRequest_safe _ _ (fun _ => takeProfilePut_safe _) h) <|
  .iteRun (hostRequest_safe _ _ (fun _ => takeProfileGet_safe _) h) <|
  .iteRun (hostRequest_safe _ _ (fun _ => takeClampPut_safe _) h) <|
  .iteRun (hostRequest_safe _ _ (fun _ => takeClampGet_safe _) h) <|
  .iteRun (hostRequest_safe _ _ (fun _ => takeGlueChange_safe _) h) <|
  .iteRun (hostRequest_safe _ _ (fun _ => takeStart_safe _) h) <|
  .iteRun (hostRequest_safe _ _ (fun _ => takeHalt_safe _) h) <|
  .iteRun (hostRequest_safe _ _ (fun _ => takeHold_safe _) h) <|
  .iteRun (hostRequest_safe _ _ (fun _ => takeResume_safe _) h) <|
  .iteRun (hostRequest_safe _ _ (fun _ => takePark_safe _) h) <|
  .iteRun (hostRequest_safe _ _ (fun _ => takeClear_safe _) h) <|
  .iteRun (hostRequest_safe _ _ (fun _ => takeCollect_safe _) h) <|
  .iteRun (hostRequest_safe _ _ (fun _ => takeNodes_safe _) h) <|
  .iteRun (hostRequest_safe _ _ (fun _ => takeContacts_safe _) h) <|
  .iteRun (hostRequest_safe _ _ (fun _ => takeStatusRequest_safe _) h) <|
  .iteRun (hostRequest_safe _ _ (fun _ => takeTrace_safe _) h) <|
  .iteRun (hostRequest_safe _ _ (fun _ => takeSettingsPut_safe _) h) <|
  .iteRun (hostRequest_safe _ _ (fun _ => takeSettingsGet_safe _) h) <|
  .iteRun (storeRequest_safe _ _ h) <|
  .iteRun (resetRequest_safe _ _ h) <|
  hostRequest_safe _ _ (fun _ hu => hu) h

theorem receive_safe (bytes : List Byte) (h : Safe s t) : Safe s (receive bytes t) :=
  (foldl_safe (f := fun u f => requestTaken f u) (fun _ f => requestTaken_safe f) _ h).update
    { link := rx_linkSafe _ _ _ _ }

theorem clearOut_safe (h : Safe s t) : Safe s (clearOut t) := h.update {}

theorem live_safe {f : State → State} (hf : ∀ u, Safe s u → Safe s (f u)) (h : Safe s t) : Safe s (live f t) :=
  .ite (fun _ => h) fun _ => hf _ (clearOut_safe h)

theorem arrives_safe (f : HostFrame) {take : State → State} (hf : ∀ u, Safe s u → Safe s (take u)) (h : Safe s t) :
    Safe s (arrives f take t) :=
  live_safe (fun _ hu => .ite (fun _ => receive_safe _ hu) fun _ => hf _ hu) h

theorem overlappedRequest_safe (k g : Byte) (p : List Byte) (h : Safe s t) : Safe s (overlappedRequest k g p t) :=
  .ite (fun _ => resetRequest_safe _ _ h) fun _ => oweBusy_safe _ _ (clearRx_safe h)

/-! ## The link's line and the store -/

theorem byteGap_safe (h : Safe s t) : Safe s (byteGap t) := .ite (fun _ => clearRx_safe h) fun _ => h

theorem frameEnd_safe (h : Safe s t) : Safe s (frameEnd t) := by
  unfold frameEnd
  split
  · exact txPump_safe h id
  · exact h

theorem storeReply_owed (x : HostLink) : (storeReply x).owed = x.owed := by
  unfold storeReply
  split <;> rfl

theorem saveEnded_safe (h : Safe s t) : Safe s (saveEnded t) := by
  unfold saveEnded
  split
  · rename_i image _
    have k : Safe s { t with store := ⟨image, false, none⟩ } := h.update {}
    refine txPump_safe k fun hb => ?_
    rwa [busyOwed, storeReply_owed]
  · exact h

/-- The load happens in STARTING, where the pot's target is OFF whatever the settings are. -/
theorem loadTables_safe {v : Vector Clamp 20} {p : Vector Profile 16} {c : Settings} {f : Family}
    (hl : t.line.state = .starting) (hv : clampIds { t with car := { t.car with clamps := v } } = clampIds t)
    (h : Safe s t) :
    Safe s { t with profiles := p, car := { t.car with clamps := v }, settings := c, glue := { t.glue with family := f } } := by
  refine (books_safe hv h).update { outputs := fun k => ⟨k.fault, k.heat, k.drive, k.trim, k.ready, ?_⟩ }
  have := k.target
  simp only [hl] at this ⊢
  exact this

theorem storeLoaded_safe (h : Safe s t) : Safe s (storeLoaded t) := by
  refine .ite (fun hl => startUpCheck_safe (Safe.update (.ite (fun _ => ?_) fun _ => raiseNotice_safe _ _ ?_) {}))
    fun _ => h
  · refine loadTables_safe (by simp_all) (clampIds_congr fun c => ?_) h
    simp only [bookIn, imageClamps, Fin.getElem_fin, Vector.getElem_ofFn]
    split <;> rfl
  · refine loadTables_safe (by simp_all) (clampIds_congr fun c => ?_) h
    simp [bookIn]

end

/-! ## Resets -/

/-- The part right after a reset meets every invariant, whatever its straps, its store and its queue. -/
theorem afterReset_conserved (a b : StrapLevel) (x : Store) (l : List Instr) : Conserved (State.afterReset a b x l) :=
  ⟨rfl, fun _ => rfl, nofun⟩

theorem afterReset_idsUnique (a b : StrapLevel) (x : Store) (l : List Instr) : IdsUnique (State.afterReset a b x l) := by
  have h : heldIds (State.afterReset a b x l) = [] := rfl
  rw [IdsUnique, h]
  simp

theorem idle_misses : ∀ i : Fin 9, Bus.idle.nodes[i].misses ≤ 3 := by decide

theorem idle_restarts : ∀ i : Fin 9, Bus.idle.nodes[i].restarts ≤ 255 := by decide

theorem startUp_misses : ∀ i : Fin 9, Bus.startUp.nodes[i].misses ≤ 3 := by decide

theorem startUp_restarts : ∀ i : Fin 9, Bus.startUp.nodes[i].restarts ≤ 255 := by decide

theorem afterReset_bounded (a b : StrapLevel) (x : Store) (l : List Instr) : Bounded (State.afterReset a b x l) where
  tickets := Nat.zero_le _
  jobs := Nat.zero_le _
  owed := Nat.zero_le _
  done := Nat.zero_le _
  diverts := Nat.zero_le _
  mismatch := Nat.zero_le _
  settles := Nat.zero_le _
  overruns i := by simp [State.afterReset, Carousel.afterReset]
  misses := startUp_misses
  restarts := startUp_restarts
  counts i := by simp [State.afterReset, Scanner.afterReset]

theorem afterReset_matrixSound (a b : StrapLevel) (x : Store) (l : List Instr) :
    MatrixSound (State.afterReset a b x l) := by
  have hopen : ∀ i : Fin 64, (State.afterReset a b x l).scan.contacts[i].closed = false := by
    intro i
    simp [State.afterReset, Scanner.afterReset]
  exact ⟨fun i _ => hopen i, fun p q r u => by simp only [closedRectangle, hopen, Bool.and_false]⟩

theorem afterReset_outputsFollow (a b : StrapLevel) (x : Store) (l : List Instr) :
    OutputsFollow (State.afterReset a b x l) := ⟨rfl, rfl, rfl, rfl, fun _ _ => rfl, rfl⟩

theorem State.afterReset_safe (a b : StrapLevel) (x : Store) (s : State) :
    Safe s (State.afterReset a b x s.pending) where
  pending := rfl
  conserved _ := afterReset_conserved a b x _
  ids _ := afterReset_idsUnique a b x _
  bounded _ := afterReset_bounded a b x _
  lines _ := ⟨fun _ => rfl, nofun⟩
  causes _ := ⟨rfl, rfl⟩
  outputs _ := afterReset_outputsFollow a b x _
  matrix _ := afterReset_matrixSound a b x _

section
variable {s t : State}

theorem afterReset_safe (a b : StrapLevel) (low : Bool) (x : Store) (h : t.pending = s.pending) :
    Safe s (afterReset a b low x t) := by
  have k := State.afterReset_safe a b x s
  rw [← h] at k
  exact .ite (fun _ => estopOn_safe k) fun _ => k

theorem resetBegin_safe (low : Bool) (h : Safe s t) : Safe s (resetBegin low t) :=
  .ite (fun _ => afterReset_safe _ _ _ _ h.pending) fun _ => h

theorem heldInReset_safe (s : State) : Safe s (heldInReset s) := by
  refine .ite (fun _ => .refl s) fun _ => ?_
  exact (State.afterReset_safe s.pins.strapA s.pins.strapB s.store.abandoned s).update {
    bus := fun _ _ => rfl
    misses := fun _ => idle_misses
    restarts := fun _ => idle_restarts }

theorem resetEnds_safe (a b : StrapLevel) (low : Bool) (s : State) : Safe s (resetEnds a b low s) :=
  .ite (fun _ => afterReset_safe _ _ _ _ rfl) fun _ => .refl s

/-! ## Timers -/

theorem jobOverrun_safe (st : Station) (h : Safe s t) : Safe s (jobOverrun st t) := by
  unfold jobOverrun
  split
  · exact .ite (fun _ => dwellCheck_safe (jobOverran_safe _ h)) fun _ => h
  · exact h

theorem indexTimeout_safe (h : Safe s t) : Safe s (indexTimeout t) := .ite (fun _ => moveFailed_safe h) fun _ => h

theorem homingTimeout_safe (h : Safe s t) : Safe s (homingTimeout t) := .ite (fun _ => moveFailed_safe h) fun _ => h

theorem glueWindow_safe (h : Safe s t) : Safe s (glueWindow t) := .ite (fun _ => glueSettled_safe h) fun _ => h

theorem warmTimeout_safe (h : Safe s t) : Safe s (warmTimeout t) :=
  .ite (fun _ => raiseNotice_safe _ _ (lineFault_safe _ h)) fun _ => h

theorem standbyTimeout_safe (h : Safe s t) : Safe s (standbyTimeout t) := by
  refine .ite (fun hl => tellCarousel_safe (enterStandby_safe ?_ h)) fun _ => h
  simp_all

theorem parkTimeout_safe (h : Safe s t) : Safe s (parkTimeout t) := by
  refine .ite (fun hl => enterParked_safe ?_ h) fun _ => h
  simp_all

theorem dropTimeout_safe (h : Safe s t) : Safe s (dropTimeout t) := by
  unfold dropTimeout
  split
  · exact .ite (fun _ => dropLost_safe _ h) fun _ => h
  · exact h

theorem headExpiry_safe (h : Safe s t) : Safe s (headExpiry t) := by
  have k : Safe s { t with dlv := { t.dlv with headTimer := none } } := h.update {}
  exact .ite (fun _ => headDecision_safe k) fun _ => h

theorem pushTimeout_safe (h : Safe s t) : Safe s (pushTimeout t) := .ite (fun _ => pushLost_safe h) fun _ => h

theorem setAxis_rest (a : Axis) (r : AxisRec) (x : Trimmer) : (setAxis a r x).held = x.held
    ∧ (setAxis a r x).state = x.state ∧ (setAxis a r x).cause = x.cause
    ∧ (setAxis a r x).settleCount = x.settleCount := by
  cases a <;> exact ⟨rfl, rfl, rfl, rfl⟩

theorem axisWindow_safe (a : Axis) (h : Safe s t) : Safe s (axisWindow a t) := by
  refine .ite (fun _ => ?_) fun _ => h
  obtain ⟨hheld, hstate, hcause, hcount⟩ := setAxis_rest a (convergeAxis t.clock t.trim.moveTime (axisOf t.trim a)) t.trim
  have k : Safe s { t with
      trim := setAxis a (convergeAxis t.clock t.trim.moveTime (axisOf t.trim a)) t.trim } :=
    trim_safe (t := t) (by rw [hheld]) (by rw [hstate]; exact id)
      (by rw [hcause, hstate]; exact fun c => c.trimmer) (by rw [hcount]; exact id) h
  refine .ite (fun hs => beginClamping_safe ?_ k) fun _ => k
  intro hf
  simp only [Bool.and_eq_true, beq_iff_eq] at hs
  rw [hs.1.1] at hf
  cases hf

theorem settleTimeout_safe (h : Safe s t) : Safe s (settleTimeout t) := by
  refine .ite (fun hs => .ite (fun _ => trim_safe (t := t) rfl id (fun k => k.trimmer) id h) fun _ => ?_) fun _ => h
  refine settleTimedOut_safe (fun hf => ?_) h
  simp [hf] at hs

theorem stepTimeout_safe (h : Safe s t) : Safe s (stepTimeout t) := by
  refine .ite (fun hs => stepFailed_safe _ (not_faulted_of_inCutCycle ?_) h) fun _ => h
  exact (Bool.and_eq_true_iff.mp hs).1

theorem exitTimeout_safe (h : Safe s t) : Safe s (exitTimeout t) := by
  have k : Safe s { t with trim := { t.trim with exitConfirm := .none } } :=
    trim_safe (t := t) rfl id (fun k => k.trimmer) id h
  refine .ite (fun _ => trimFault_safe _ _ (raiseNotice_safe _ _ (lineFault_safe _ ?_))) fun _ => h
  exact trimOut_safe (modifyHeld_safe (withReason_id .fault) k)

theorem flash_safe {ready : Bool} {at_ : Time} (hl : flashes t.line.state = true) (h : Safe s t) :
    Safe s { t with line := { t.line with lamps := { t.line.lamps with ready := ready }, flashBase := at_ } } := by
  refine h.update { outputs := fun k => ⟨k.fault, k.heat, k.drive, k.trim, fun hw hh => ?_, k.target⟩ }
  simp only [flashes, Bool.or_eq_true, beq_iff_eq] at hl
  exact (hl.elim hw hh).elim

theorem lampToggle_safe (h : Safe s t) : Safe s (lampToggle t) :=
  .ite (fun hl => flash_safe (Bool.and_eq_true_iff.mp hl).1 h) fun _ => h

theorem clock_safe (c : Time) (h : Safe s t) : Safe s { t with clock := c, busOut := [] } := h.update {}

theorem tick_safe (s : State) : Safe s (tick s) := .ite (fun _ => .refl s) fun _ => clock_safe _ (.refl s)

end

/-! ## Every command -/

/-- A request command of the table keeps the invariants when its owner's action does. -/
theorem request_safe (f : HostFrame) (k g : Byte) {act : State → Taken} {s : State}
    (ha : ∀ u, Safe s u → Safe s (act u).1) : Safe s (arrives f (hostRequest k g act) s) :=
  arrives_safe f (fun _ => hostRequest_safe k g ha) (.refl s)

theorem event_safe {f : State → State} {s : State} (hf : ∀ u, Safe s u → Safe s (f u)) : Safe s (live f s) :=
  live_safe hf (.refl s)

theorem answer_safe (ok : Bool) {f : State → State} {s : State} (hf : ∀ u, Safe s u → Safe s (f u)) :
    Safe s (live (received ok f) s) := event_safe fun _ => received_safe ok hf

/-- Every command answers a next state and keeps every invariant. -/
theorem exec_safe (c : Instr) (s : State) : ∃ t, exec c s = .next t ∧ Safe s t := by
  cases c with
  | ticket g p => exact ⟨_, rfl, request_safe _ _ _ fun _ => takeTicket_safe p⟩
  | withdraw g p => exact ⟨_, rfl, request_safe _ _ _ fun _ => takeWithdraw_safe p⟩
  | profilePut g p => exact ⟨_, rfl, request_safe _ _ _ fun _ => takeProfilePut_safe p⟩
  | profileGet g p => exact ⟨_, rfl, request_safe _ _ _ fun _ => takeProfileGet_safe p⟩
  | clampPut g p => exact ⟨_, rfl, request_safe _ _ _ fun _ => takeClampPut_safe p⟩
  | clampGet g p => exact ⟨_, rfl, request_safe _ _ _ fun _ => takeClampGet_safe p⟩
  | glueChange g p => exact ⟨_, rfl, request_safe _ _ _ fun _ => takeGlueChange_safe p⟩
  | start g p => exact ⟨_, rfl, request_safe _ _ _ fun _ => takeStart_safe p⟩
  | halt g p => exact ⟨_, rfl, request_safe _ _ _ fun _ => takeHalt_safe p⟩
  | hold g p => exact ⟨_, rfl, request_safe _ _ _ fun _ => takeHold_safe p⟩
  | resume g p => exact ⟨_, rfl, request_safe _ _ _ fun _ => takeResume_safe p⟩
  | park g p => exact ⟨_, rfl, request_safe _ _ _ fun _ => takePark_safe p⟩
  | clearLine g p => exact ⟨_, rfl, request_safe _ _ _ fun _ => takeClear_safe p⟩
  | clearTrimmer g => exact ⟨_, rfl, request_safe _ _ _ fun _ => takeClear_safe [1]⟩
  | collect g p => exact ⟨_, rfl, request_safe _ _ _ fun _ => takeCollect_safe p⟩
  | nodes g p => exact ⟨_, rfl, request_safe _ _ _ fun _ => takeNodes_safe p⟩
  | contacts g p => exact ⟨_, rfl, request_safe _ _ _ fun _ => takeContacts_safe p⟩
  | status g p => exact ⟨_, rfl, request_safe _ _ _ fun _ => takeStatusRequest_safe p⟩
  | trace g p => exact ⟨_, rfl, request_safe _ _ _ fun _ => takeTrace_safe p⟩
  | settingsPut g p => exact ⟨_, rfl, request_safe _ _ _ fun _ => takeSettingsPut_safe p⟩
  | settingsGet g p => exact ⟨_, rfl, request_safe _ _ _ fun _ => takeSettingsGet_safe p⟩
  | store g p => exact ⟨_, rfl, arrives_safe _ (fun _ => storeRequest_safe g p) (.refl s)⟩
  | reset g p => exact ⟨_, rfl, arrives_safe _ (fun _ => resetRequest_safe g p) (.refl s)⟩
  | unknownKind k g p =>
    exact ⟨_, rfl, .ite (fun _ => event_safe fun _ hu => hu) fun _ => request_safe _ _ _ fun _ hu => hu⟩
  | overlappedRequest k g p =>
    exact ⟨_, rfl, .ite (fun _ => arrives_safe _ (fun _ => overlappedRequest_safe k g p) (.refl s))
      fun _ => event_safe fun _ hu => hu⟩
  | badFrameDiscard bytes => exact ⟨_, rfl, event_safe fun _ => receive_safe bytes⟩
  | frameByteGapTimeout => exact ⟨_, rfl, event_safe fun _ => byteGap_safe⟩
  | transmitFrameEnd => exact ⟨_, rfl, event_safe fun _ => frameEnd_safe⟩
  | saveEnd => exact ⟨_, rfl, event_safe fun _ => saveEnded_safe⟩
  | resetBegin low => exact ⟨_, rfl, event_safe fun _ => resetBegin_safe low⟩
  | powerOnReset a b low => exact ⟨_, rfl, afterReset_safe a b low _ rfl⟩
  | resetLineLow => exact ⟨_, rfl, heldInReset_safe s⟩
  | resetLineHigh a b low => exact ⟨_, rfl, resetEnds_safe a b low s⟩
  | storeLoadDone => exact ⟨_, rfl, event_safe fun _ => storeLoaded_safe⟩
  | estopActivated => exact ⟨_, rfl, event_safe fun _ => estopActivated_safe⟩
  | estopReleased => exact ⟨_, rfl, event_safe fun _ => estopReleased_safe⟩
  | scanEnd r => exact ⟨_, rfl, event_safe fun _ => scanEnded_safe r⟩
  | lampFlashToggle => exact ⟨_, rfl, event_safe fun _ => lampToggle_safe⟩
  | pollRoundDue => exact ⟨_, rfl, event_safe fun _ => pollRoundDue_safe⟩
  | slotAnswer n jobs temp m => exact ⟨_, rfl, answer_safe _ fun _ => slotAnswered_safe n jobs temp m.restarted⟩
  | slotEmpty => exact ⟨_, rfl, event_safe fun _ => slotMissed_safe⟩
  | pollRoundEnd => exact ⟨_, rfl, event_safe fun _ => roundEnded_safe⟩
  | indexAnswer q a m =>
    exact ⟨_, rfl, answer_safe _ fun _ => takeAnswer_safe _ _ _ _ _ fun _ _ => indexAnswered_safe a⟩
  | homeAnswer q a m =>
    exact ⟨_, rfl, answer_safe _ fun _ => takeAnswer_safe _ _ _ _ _ fun _ _ => homeAnswered_safe a⟩
  | pushAnswer q a m =>
    exact ⟨_, rfl, answer_safe _ fun _ => takeAnswer_safe _ _ _ _ _ fun _ _ => pushAnswered_safe a⟩
  | setAxesAnswer q a m =>
    exact ⟨_, rfl, answer_safe _ fun _ => takeAnswer_safe _ _ _ _ _ fun _ _ => setAxesAnswered_safe a⟩
  | readAxesAnswer q a m =>
    exact ⟨_, rfl, answer_safe _ fun _ => takeAnswer_safe _ _ _ _ _ fun _ _ => readAxesAnswered_safe a⟩
  | stepAnswer q a m =>
    exact ⟨_, rfl, answer_safe _ fun _ => takeAnswer_safe _ _ _ _ _ fun _ _ => stepAnswered_safe a⟩
  | nodeStatusAnswer n q m => exact ⟨_, rfl, answer_safe _ fun _ => takeAnswer_safe _ _ _ _ _ fun _ _ hu => hu⟩
  | probeAnswer n q p m => exact ⟨_, rfl, answer_safe _ fun _ => probeAnswer_safe n q p m.restarted⟩
  | replyWindowClosed => exact ⟨_, rfl, event_safe fun _ => windowClosed_safe⟩
  | requestRepeatDue n => exact ⟨_, rfl, event_safe fun _ => requestRepeat_safe n⟩
  | nodeStatusDue n => exact ⟨_, rfl, event_safe fun _ => statusDue_safe n⟩
  | recoveryProbeDue => exact ⟨_, rfl, event_safe fun _ => recoveryProbes_safe⟩
  | jobOverrun st => exact ⟨_, rfl, event_safe fun _ => jobOverrun_safe st⟩
  | indexTimeout => exact ⟨_, rfl, event_safe fun _ => indexTimeout_safe⟩
  | homingTimeout => exact ⟨_, rfl, event_safe fun _ => homingTimeout_safe⟩
  | glueSettlingWindow => exact ⟨_, rfl, event_safe fun _ => glueWindow_safe⟩
  | warmTimeout => exact ⟨_, rfl, event_safe fun _ => warmTimeout_safe⟩
  | standbyTimeout => exact ⟨_, rfl, event_safe fun _ => standbyTimeout_safe⟩
  | parkTimeout => exact ⟨_, rfl, event_safe fun _ => parkTimeout_safe⟩
  | dropWindowTimeout => exact ⟨_, rfl, event_safe fun _ => dropTimeout_safe⟩
  | headTimerExpiry => exact ⟨_, rfl, event_safe fun _ => headExpiry_safe⟩
  | pushWindowTimeout => exact ⟨_, rfl, event_safe fun _ => pushTimeout_safe⟩
  | axisSettleWindow a => exact ⟨_, rfl, event_safe fun _ => axisWindow_safe a⟩
  | settleTimeout => exact ⟨_, rfl, event_safe fun _ => settleTimeout_safe⟩
  | stepTimeout => exact ⟨_, rfl, event_safe fun _ => stepTimeout_safe⟩
  | exitWindowTimeout => exact ⟨_, rfl, event_safe fun _ => exitTimeout_safe⟩

/-- What a step does but to take the command off the queue. -/
theorem step_safe {s t : State} (h : step s = .next t) :
    Safe { s with pending := s.pending.drop 1 } t ∨ Safe s t := by
  unfold step at h
  split at h
  · cases h
    exact .inr (tick_safe s)
  · rename_i c rest hq
    obtain ⟨u, hu, k⟩ := exec_safe c { s with pending := rest }
    rw [hu] at h
    cases h
    exact .inl (by rw [hq]; exact k)

/-- The queue of commands is no part of the invariants. -/
theorem step_keeps {P : State → Prop} (hsafe : ∀ u v, Safe u v → P u → P v)
    (hqueue : ∀ (u : State) (l : List Instr), P u → P { u with pending := l }) {s t : State} (hp : P s)
    (h : step s = .next t) : P t := by
  rcases step_safe h with k | k
  · exact hsafe _ _ k (hqueue s _ hp)
  · exact hsafe _ _ k hp

/-- Settles O2: the safety of every command names its next state. -/
theorem everyCommandCompletes : Obligations.EveryCommandCompletes := by
  intro c s
  obtain ⟨t, ht, hsafe⟩ := exec_safe c s
  exact ⟨t, ht, hsafe.pending⟩

/-- Settles O56: each operation that moves a book keeps the balance, or changes a count with it. -/
theorem booksConservedByEveryStep : Obligations.BooksConservedByEveryStep := fun _ _ hs =>
  step_keeps (fun _ _ k => k.conserved) (fun _ _ k => ⟨k.balance, k.idleEmpty, k.infeedFree⟩) hs

/-- Settles O57: only a ticket that passes the check of R4 brings a new id, and books take theirs with them. -/
theorem ticketIdsStayUnique : Obligations.TicketIdsStayUnique := fun _ _ hs =>
  step_keeps (P := IdsUnique) (fun _ _ k => k.ids) (fun _ _ k => k) hs

/-- Settles O58. -/
theorem boundsAndLinesKept : Obligations.BoundsAndLinesKept := fun _ _ h =>
  ⟨fun hs => step_keeps (fun _ _ k => k.bounded) (fun _ _ k => { k with }) hs h,
    fun hs => step_keeps (fun _ _ k => k.lines) (fun _ _ k => ⟨k.transmit, k.bus⟩) hs h⟩

/-- Settles O59. -/
theorem causesAndOutputsFollowStates : Obligations.CausesAndOutputsFollowStates := fun _ _ h =>
  ⟨fun hs => step_keeps (fun _ _ k => k.causes) (fun _ _ k => ⟨k.line, k.trimmer⟩) hs h,
    fun hs => step_keeps (fun _ _ k => k.outputs) (fun _ _ k => ⟨k.1, k.2, k.3, k.4, k.5, k.6⟩) hs h⟩

/-- Settles O60: a contact whose rectangle lacks only it is judged a ghost, which keeps its open state. -/
theorem matrixKeptSound : Obligations.MatrixKeptSound := fun _ _ hs =>
  step_keeps (fun _ _ k => k.matrix) (fun _ _ k => ⟨k.uncertainOpen, k.noRectangle⟩) hs

/-- Settles O1: the step's two branches, with reset apart. -/
theorem stepRunsFrontCommandElseTicks : Obligations.StepRunsFrontCommandElseTicks := by
  refine ⟨fun _ _ => rfl, fun s hq => ⟨fun hr => ?_, fun hr => ?_⟩⟩
  · simp [step, hq, tick, hr]
  · simp [step, hq, tick, hr]

/-- Settles O55: the reset state is one of the states after a reset. -/
theorem invariantsHoldAtReset : Obligations.InvariantsHoldAtReset :=
  ⟨afterReset_conserved _ _ _ _, afterReset_idsUnique _ _ _ _, afterReset_bounded _ _ _ _, ⟨fun _ => rfl, nofun⟩,
    ⟨rfl, rfl⟩, afterReset_outputsFollow _ _ _ _, afterReset_matrixSound _ _ _ _⟩

end Sys2Proof.Machine

/-! PROOFS. Host requests: the action of each request command, and the statements about requests in general, tickets
and WITHDRAW. -/

namespace Sys2Proof.Machine

/-! ## The action of a request command -/

/-- The owner's action of a request command; a command that is no request is refused. -/
def requestAct : Instr → State → Taken
  | .ticket _ p => takeTicket p
  | .withdraw _ p => takeWithdraw p
  | .profilePut _ p => takeProfilePut p
  | .profileGet _ p => takeProfileGet p
  | .clampPut _ p => takeClampPut p
  | .clampGet _ p => takeClampGet p
  | .glueChange _ p => takeGlueChange p
  | .start _ p => takeStart p
  | .halt _ p => takeHalt p
  | .hold _ p => takeHold p
  | .resume _ p => takeResume p
  | .park _ p => takePark p
  | .clearLine _ p => takeClear p
  | .clearTrimmer _ => takeClear [1]
  | .collect _ p => takeCollect p
  | .nodes _ p => takeNodes p
  | .contacts _ p => takeContacts p
  | .status _ p => takeStatusRequest p
  | .trace _ p => takeTrace p
  | .settingsPut _ p => takeSettingsPut p
  | .settingsGet _ p => takeSettingsGet p
  | _ => refuse .unknownKind

/-- A request command is the arrival of its frame, taken by its owner. -/
theorem exec_request {c : Instr} {k g : Byte} (hc : requestOf c = some (k, g)) (s : State) :
    exec c s = .next (arrives ⟨k, g, c.payload⟩ (hostRequest k g (requestAct c)) s) := by
  cases c <;> cases hc <;> rfl

/-- A request that is taken at once: its owner's result is replied. -/
theorem exec_taken {c : Instr} {k g : Byte} (hc : requestOf c = some (k, g)) {s : State} (h : TakesRequest s) :
    exec c s = .next (respond k g (requestAct c (begun s)).2.1 (requestAct c (begun s)).2.2
      (requestAct c (begun s)).1) := by
  rw [exec_request hc, arrives_taken _ _ _ _ _ h]

theorem exec_of_taken {c : Instr} {k g : Byte} (hc : requestOf c = some (k, g)) {s u : State} (h : TakesRequest s)
    {r : Result} {d : List Byte} (ha : requestAct c (begun s) = (u, r, d)) :
    exec c s = .next (respond k g r d u) := by
  rw [exec_taken hc h, ha]

theorem exec_of_refused {c : Instr} {k g : Byte} (hc : requestOf c = some (k, g)) {s : State} (h : TakesRequest s)
    {r : Result} (ha : requestAct c (begun s) = refuse r (begun s)) :
    exec c s = .next (respond k g r [] (begun s)) := exec_of_taken hc h ha

theorem begun_kept (s : State) : LineKept s (begun s) :=
  ⟨⟨rfl, rfl, rfl, rfl, rfl, rfl, rfl, rfl⟩, ⟨rfl, rfl, rfl, rfl, rfl, rfl⟩, .ofEq rfl, rfl⟩

/-! ## A refusal changes nothing -/

/-- An action refuses and changes nothing, or accepts. -/
def RefusesOrAccepts (s : State) (a : Taken) : Prop := (∃ r, r ≠ .ok ∧ a = refuse r s) ∨ a.2.1 = .ok

section
variable {s : State}

theorem refuses {r : Result} (h : r ≠ .ok) : RefusesOrAccepts s (refuse r s) := .inl ⟨r, h, rfl⟩

theorem RefusesOrAccepts.ite {p : Prop} [Decidable p] {a b : Taken} (h : RefusesOrAccepts s a)
    (k : RefusesOrAccepts s b) : RefusesOrAccepts s (if p then a else b) := by
  split
  · exact h
  · exact k

/-- A check that refuses stands before the rest of the action. -/
theorem RefusesOrAccepts.check {p : Prop} [Decidable p] {r : Result} {b : Taken} (hr : r ≠ .ok)
    (k : RefusesOrAccepts s b) : RefusesOrAccepts s (if p then refuse r s else b) := .ite (refuses hr) k

theorem accepts {u : State} {d : List Byte} : RefusesOrAccepts s (u, .ok, d) := .inr rfl

theorem ticketCheck_ne_ok {k : Ticket} {r : Result} (h : ticketCheck k s = some r) : r ≠ .ok := by
  unfold ticketCheck at h
  split_ifs at h <;> cases h <;> exact Result.noConfusion

theorem takeTicket_answers (p : List Byte) : RefusesOrAccepts s (takeTicket p s) := by
  refine .check nofun ?_
  split
  · exact refuses nofun
  · refine .check nofun ?_
    split
    · exact refuses (ticketCheck_ne_ok ‹_›)
    · exact accepts

theorem takeWithdraw_answers (p : List Byte) : RefusesOrAccepts s (takeWithdraw p s) :=
  .check nofun <| .check nofun <| .ite (.check nofun accepts) <| .check nofun <| refuses nofun

theorem takeProfilePut_answers (p : List Byte) : RefusesOrAccepts s (takeProfilePut p s) := by
  refine .check nofun <| .check nofun ?_
  split
  · exact refuses nofun
  · exact .check nofun accepts

theorem takeProfileGet_answers (p : List Byte) : RefusesOrAccepts s (takeProfileGet p s) := by
  refine .check nofun <| .check nofun ?_
  split
  · exact accepts
  · exact refuses nofun

theorem takeClampPut_answers (p : List Byte) : RefusesOrAccepts s (takeClampPut p s) := by
  refine .check nofun <| .check nofun ?_
  split
  · exact refuses nofun
  · exact .check nofun accepts

theorem takeClampGet_answers (p : List Byte) : RefusesOrAccepts s (takeClampGet p s) := by
  refine .check nofun <| .check nofun ?_
  split
  · exact accepts
  · exact refuses nofun

theorem takeHalt_answers (p : List Byte) : RefusesOrAccepts s (takeHalt p s) := by
  refine .check nofun <| .check nofun ?_
  split
  · exact .ite accepts accepts
  · exact accepts
  · split
    · exact accepts
    · exact .ite accepts accepts
  · exact refuses nofun

theorem takeHold_answers (p : List Byte) : RefusesOrAccepts s (takeHold p s) := by
  refine .check nofun <| .check nofun ?_
  split
  · exact accepts
  · exact accepts
  · exact accepts
  · exact refuses nofun

theorem takeResume_answers (p : List Byte) : RefusesOrAccepts s (takeResume p s) := by
  refine .check nofun <| .check nofun <| .ite ?_ <| .ite accepts <| refuses nofun
  split
  · exact accepts
  · exact accepts

theorem takePark_answers (p : List Byte) : RefusesOrAccepts s (takePark p s) := by
  refine .check nofun <| .check nofun ?_
  split
  · exact accepts
  · exact .check nofun accepts
  · exact .check nofun accepts
  · exact refuses nofun

theorem takeClear_answers (p : List Byte) : RefusesOrAccepts s (takeClear p s) := by
  have hline : RefusesOrAccepts s (clearLineTaken s) :=
    .check nofun <| .check nofun <| .check nofun <| .check nofun accepts
  have htrim : RefusesOrAccepts s (clearTrimmerTaken s) :=
    .check nofun <| .check nofun <| .check nofun <| .check nofun accepts
  exact .check nofun <| .check nofun <| .ite hline <| .ite htrim <| refuses nofun

theorem takeTrace_answers (p : List Byte) : RefusesOrAccepts s (takeTrace p s) := by
  refine .check nofun <| .check nofun <| .check nofun ?_
  split
  · exact accepts
  · exact refuses nofun

theorem takeSettingsPut_answers (p : List Byte) : RefusesOrAccepts s (takeSettingsPut p s) := by
  refine .check nofun <| .check nofun ?_
  split
  · exact refuses nofun
  · exact accepts

theorem requestAct_answers (c : Instr) : RefusesOrAccepts s (requestAct c s) := by
  cases c with
  | ticket g p => exact takeTicket_answers p
  | withdraw g p => exact takeWithdraw_answers p
  | profilePut g p => exact takeProfilePut_answers p
  | profileGet g p => exact takeProfileGet_answers p
  | clampPut g p => exact takeClampPut_answers p
  | clampGet g p => exact takeClampGet_answers p
  | glueChange g p => exact .check nofun <| .check nofun <| .check nofun <| .check nofun accepts
  | start g p => exact .check nofun <| .check nofun <| .check nofun <| .check nofun <| .check nofun accepts
  | halt g p => exact takeHalt_answers p
  | hold g p => exact takeHold_answers p
  | resume g p => exact takeResume_answers p
  | park g p => exact takePark_answers p
  | clearLine g p => exact takeClear_answers p
  | clearTrimmer g => exact takeClear_answers [1]
  | collect g p => exact .check nofun <| .check nofun <| .check nofun accepts
  | nodes g p => exact .check nofun <| .check nofun accepts
  | contacts g p => exact .check nofun <| .check nofun accepts
  | status g p => exact .check nofun accepts
  | trace g p => exact takeTrace_answers p
  | settingsPut g p => exact takeSettingsPut_answers p
  | settingsGet g p => exact .check nofun <| .check nofun accepts
  | _ => exact refuses nofun

theorem requestAct_safe (c : Instr) (s : State) : Safe s (requestAct c s).1 := by
  cases c with
  | ticket g p => exact takeTicket_safe p (.refl s)
  | withdraw g p => exact takeWithdraw_safe p (.refl s)
  | profilePut g p => exact takeProfilePut_safe p (.refl s)
  | profileGet g p => exact takeProfileGet_safe p (.refl s)
  | clampPut g p => exact takeClampPut_safe p (.refl s)
  | clampGet g p => exact takeClampGet_safe p (.refl s)
  | glueChange g p => exact takeGlueChange_safe p (.refl s)
  | start g p => exact takeStart_safe p (.refl s)
  | halt g p => exact takeHalt_safe p (.refl s)
  | hold g p => exact takeHold_safe p (.refl s)
  | resume g p => exact takeResume_safe p (.refl s)
  | park g p => exact takePark_safe p (.refl s)
  | clearLine g p => exact takeClear_safe p (.refl s)
  | clearTrimmer g => exact takeClear_safe [1] (.refl s)
  | collect g p => exact takeCollect_safe p (.refl s)
  | nodes g p => exact takeNodes_safe p (.refl s)
  | contacts g p => exact takeContacts_safe p (.refl s)
  | status g p => exact takeStatusRequest_safe p (.refl s)
  | trace g p => exact takeTrace_safe p (.refl s)
  | settingsPut g p => exact takeSettingsPut_safe p (.refl s)
  | settingsGet g p => exact takeSettingsGet_safe p (.refl s)
  | _ => exact .refl s

end

/-- Settles O3: an owner refuses and changes nothing, or accepts, and either way its result is replied. -/
theorem requestsAnsweredRefusalsChangeNothing : Obligations.RequestsAnsweredRefusalsChangeNothing := by
  intro c s k g hc h
  rcases requestAct_answers (s := begun s) c with ⟨r, hr, ha⟩ | ha
  · exact .inl ⟨r, hr, exec_of_refused hc h ha, respond_answered _ _ _ _ _⟩
  · refine .inr ⟨(requestAct c (begun s)).1, (requestAct c (begun s)).2.2, ?_, respond_answered _ _ _ _ _,
      (requestAct_safe c (begun s)).pending⟩
    rw [exec_taken hc h, ha]

/-! ## The state and format checks -/

theorem starting_eq {s : State} (h : s.line.state = .starting) : starting s = true := by simp [starting, h]

theorem not_starting {s : State} (h : s.line.state ≠ .starting) : ¬starting s = true := by simp [starting, h]

/-- In STARTING every owner but STATUS's refuses. -/
theorem requestAct_starting {c : Instr} {k g : Byte} (hc : requestOf c = some (k, g)) (hk : k ≠ 0x11) {s : State}
    (hs : s.line.state = .starting) : requestAct c s = refuse .wrongState s := by
  cases c <;> cases hc
  case status => exact absurd rfl hk
  all_goals exact if_pos (starting_eq hs)

/-- Outside STARTING a payload of another length than the kind's is refused. -/
theorem requestAct_badFormat {c : Instr} {k g : Byte} (hc : requestOf c = some (k, g)) {n : Nat}
    (hn : payloadLength c = some n) (hlen : c.payload.length ≠ n) {s : State} (hs : s.line.state ≠ .starting) :
    requestAct c s = refuse .badFormat s := by
  have hempty : ∀ p : List Byte, p.length ≠ 0 → p ≠ [] := fun p h he => h (by rw [he]; rfl)
  cases c <;> cases hc <;> cases hn
  case status => exact if_pos (hempty _ hlen)
  case start | halt | hold | resume | park | nodes | contacts | settingsGet =>
    exact (if_neg (not_starting hs)).trans (if_pos (hempty _ hlen))
  all_goals exact (if_neg (not_starting hs)).trans (if_pos hlen)

theorem exec_store {s : State} (g : Byte) (p : List Byte) (h : TakesRequest s) :
    exec (.store g p) s = .next (storeTaken g p (begun s)) := by
  show Host.Outcome.next (arrives ⟨kindStore, g, p⟩ (storeRequest g p) s) = _
  rw [arrives_heard _ _ _ h.1, storeRequest, if_neg (by rw [show overlapped (clearOut s) = false from h.2]; decide)]
  rfl

/-- Settles O4: the two checks stand first in every owner's action, and in STORE's. -/
theorem requestStateAndFormatChecks : Obligations.RequestStateAndFormatChecks := by
  refine ⟨fun s h hs => ⟨fun c k g hc hk => ?_, fun g p => ?_⟩, fun s h hs => ⟨fun c k g n hc hn hlen => ?_, fun g p hp => ?_⟩⟩
  · exact exec_of_refused hc h (requestAct_starting hc hk hs)
  · rw [exec_store g p h, storeTaken, if_pos (starting_eq (s := begun s) hs)]
    rfl
  · exact exec_of_refused hc h (requestAct_badFormat hc hn hlen hs)
  · rw [exec_store g p h, storeTaken, if_neg (not_starting (s := begun s) hs), if_pos hp]
    rfl

/-! ## The payload of a TICKET (R3) -/

/-- The bits of the presence byte are the marks of the optional fields. -/
theorem presenceBits_testBit (r : RawTicket) : presenceBits r < 32
    ∧ (presenceBits r).testBit 0 = r.coverId.isSome ∧ (presenceBits r).testBit 1 = r.footMargin.isSome
    ∧ (presenceBits r).testBit 2 = r.hinge.isSome ∧ (presenceBits r).testBit 3 = r.sideGlue.isSome
    ∧ (presenceBits r).testBit 4 = r.sample := by
  have hbits : ∀ a b c d e : Bool, let n := a.toNat + 2 * b.toNat + 4 * c.toNat + 8 * d.toNat + 16 * e.toNat
      n < 32 ∧ n.testBit 0 = a ∧ n.testBit 1 = b ∧ n.testBit 2 = c ∧ n.testBit 3 = d ∧ n.testBit 4 = e := by decide
  exact hbits _ _ _ _ _

@[simp] theorem optBytes_length (w : Nat) (x : Option Nat) :
    (optBytes w x).length = if x.isSome = true then w else 0 := by
  cases x <;> simp [optBytes]

theorem encodeTicket_length (r : RawTicket) : (encodeTicket r).length = ticketLength (presenceBits r) := by
  obtain ⟨-, h0, h1, h2, h3, -⟩ := presenceBits_testBit r
  simp only [encodeTicket, ticketLength, List.length_append, leBytes_length, optBytes_length, h0, h1, h2, h3]
  omega

/-- The payload behind the presence byte. -/
def ticketBody (r : RawTicket) : List Byte :=
  leBytes 4 r.id ++ (leBytes 8 r.blockId ++ (optBytes 8 r.coverId
    ++ (leBytes 1 r.profile ++ (leBytes 4 r.blockWidth ++ (leBytes 4 r.blockHeight ++ (leBytes 4 r.nominal
    ++ (leBytes 4 r.tolerance ++ (leBytes 4 r.millDepth ++ (leBytes 4 r.trimWidth ++ (leBytes 4 r.trimHeight
    ++ (optBytes 4 r.footMargin ++ (leBytes 4 r.coverStock ++ (leBytes 4 r.coverWidth ++ (optBytes 4 r.hinge
    ++ (optBytes 4 r.sideGlue ++ [])))))))))))))))

theorem encodeTicket_eq (r : RawTicket) : encodeTicket r = BitVec.ofNat 8 (presenceBits r) :: ticketBody r := by
  simp [encodeTicket, ticketBody, leBytes]

theorem Dimension.lt {lo hi x n : Nat} (h : Dimension lo hi x) (hn : hi < n) : x < n := lt_of_le_of_lt h.2.1 hn

theorem OptDimension.lt {lo hi n : Nat} {x : Option Nat} (h : OptDimension lo hi x) (hn : hi < n) :
    ∀ y, x = some y → y < n := fun y hy => (h y hy).lt hn

theorem readTicket_body {r : RawTicket} (h : TicketInRange r) : readTicket (presenceBits r) (ticketBody r) = r := by
  obtain ⟨-, h0, h1, h2, h3, h4⟩ := presenceBits_testBit r
  unfold ticketBody
  simp only [readTicket, h0, h1, h2, h3, h4,
    takeNat_leBytes 4 r.id _ h.id, takeNat_leBytes 8 r.blockId _ h.blockId,
    takeOpt_optBytes 8 r.coverId _ h.coverId, takeNat_leBytes 1 r.profile _ (lt_of_le_of_lt h.profile (by decide)),
    takeNat_leBytes 4 r.blockWidth _ (h.blockWidth.lt (by decide)),
    takeNat_leBytes 4 r.blockHeight _ (h.blockHeight.lt (by decide)),
    takeNat_leBytes 4 r.nominal _ (h.nominal.lt (by decide)),
    takeNat_leBytes 4 r.tolerance _ (h.tolerance.lt (by decide)),
    takeNat_leBytes 4 r.millDepth _ (h.millDepth.lt (by decide)),
    takeNat_leBytes 4 r.trimWidth _ (h.trimWidth.lt (by decide)),
    takeNat_leBytes 4 r.trimHeight _ (h.trimHeight.lt (by decide)),
    takeOpt_optBytes 4 r.footMargin _ (h.footMargin.lt (by decide)),
    takeNat_leBytes 4 r.coverStock _ (h.coverStock.lt (by decide)),
    takeNat_leBytes 4 r.coverWidth _ (h.coverWidth.lt (by decide)),
    takeOpt_optBytes 4 r.hinge _ (h.hinge.lt (by decide)),
    takeOpt_optBytes 4 r.sideGlue _ (h.sideGlue.lt (by decide))]

theorem parseTicket_encodeTicket {r : RawTicket} (h : TicketInRange r) : parseTicket (encodeTicket r) = some r := by
  have hlt := (presenceBits_testBit r).1
  have hbyte : (BitVec.ofNat 8 (presenceBits r)).toNat = presenceBits r := by
    rw [BitVec.toNat_ofNat, Nat.mod_eq_of_lt (by omega)]
  have hlen := encodeTicket_length r
  rw [encodeTicket_eq, List.length_cons] at hlen
  rw [encodeTicket_eq, parseTicket, hbyte, if_pos ⟨hlt, hlen⟩, readTicket_body h]

/-- Settles O5: each field is read back from its own bytes, in the order of R1. -/
theorem ticketPayloadRoundTrip : Obligations.TicketPayloadRoundTrip := fun r h =>
  ⟨parseTicket_encodeTicket h, encodeTicket_length r⟩

end Sys2Proof.Machine

/-! PROOFS. TICKET and WITHDRAW: the six checks of a ticket in their order, its arrival, and a ticket's leaving. -/

namespace Sys2Proof.Machine

/-! ## The range check of a ticket (R1, R5) -/

theorem dimOk_iff {lo hi x : Nat} : dimOk lo hi x = true ↔ Dimension lo hi x := decide_eq_true_iff

theorem optDimOk_iff {lo hi : Nat} {x : Option Nat} : optDimOk lo hi x = true ↔ OptDimension lo hi x := by
  cases x with
  | none => exact ⟨fun _ => nofun, fun _ => rfl⟩
  | some y => exact dimOk_iff.trans ⟨fun h z hz => Option.some.inj hz ▸ h, fun h => h y rfl⟩

theorem TicketInRange.rangeOk {r : RawTicket} (h : TicketInRange r) : r.rangeOk = true := by
  simp only [RawTicket.rangeOk, Bool.and_eq_true, dimOk_iff, optDimOk_iff, decide_eq_true_iff]
  obtain ⟨-, -, -, h4, h5, h6, h7, h8, h9, h10, h11, h12, h13, h14, h15, h16⟩ := h
  exact ⟨⟨⟨⟨⟨⟨⟨⟨⟨⟨⟨⟨h4, h5⟩, h6⟩, h7⟩, h8⟩, h9⟩, h10⟩, h11⟩, h12⟩, h13⟩, h14⟩, h15⟩, h16⟩

theorem leNat_take_lt (w : Nat) (l : List Byte) : leNat (l.take w) < 256 ^ w :=
  lt_of_lt_of_le (leNat_lt _) (Nat.pow_le_pow_right (by decide) (List.length_take_le w l))

theorem takeOpt_lt {b : Bool} {w : Nat} {l : List Byte} : ∀ c, (takeOpt b w l).1 = some c → c < 256 ^ w := by
  cases b with
  | false => exact nofun
  | true => rintro _ ⟨⟩; exact leNat_take_lt w l

/-- The ids of a payload that parses fill their bytes, so the range check is all that a ticket in range needs. -/
theorem ticketInRange_of_parse {p : List Byte} {r : RawTicket} (hp : parseTicket p = some r) (h : r.rangeOk = true) :
    TicketInRange r := by
  simp only [RawTicket.rangeOk, Bool.and_eq_true, dimOk_iff, optDimOk_iff, decide_eq_true_iff] at h
  obtain ⟨⟨⟨⟨⟨⟨⟨⟨⟨⟨⟨⟨h4, h5⟩, h6⟩, h7⟩, h8⟩, h9⟩, h10⟩, h11⟩, h12⟩, h13⟩, h14⟩, h15⟩, h16⟩ := h
  have hids : r.id < 256 ^ 4 ∧ r.blockId < 256 ^ 8 ∧ ∀ c, r.coverId = some c → c < 256 ^ 8 := by
    unfold parseTicket at hp
    split at hp
    · cases hp
    · split_ifs at hp
      cases hp
      exact ⟨leNat_take_lt 4 _, leNat_take_lt 8 _, takeOpt_lt⟩
  exact ⟨hids.1, hids.2.1, hids.2.2, h4, h5, h6, h7, h8, h9, h10, h11, h12, h13, h14, h15, h16⟩

theorem toTicket_id_eq_zero {r : RawTicket} (h : r.id < 2 ^ 32) : r.toTicket.id = 0 ↔ r.id = 0 := by
  show BitVec.ofNat 32 r.id = 0 ↔ _
  rw [← BitVec.toNat_inj, BitVec.toNat_ofNat, Nat.mod_eq_of_lt h]
  rfl

theorem geometryOk_iff {k : Ticket} : k.geometryOk = true ↔ TrimsInLimits k := by
  simp only [Ticket.geometryOk, trimOk, Bool.and_eq_true, decide_eq_true_iff]
  exact ⟨fun h => ⟨h.1.1, h.1.2, h.2⟩, fun h => ⟨⟨h.front, h.foot⟩, h.head⟩⟩

/-! ## The checks of a ticket in their order (R4) -/

section
variable {k : Ticket} {s : State}

theorem ticketCheck_duplicate (h : k.id = 0 ∨ k.id ∈ heldIds s) : ticketCheck k s = some .duplicate := if_pos h

theorem ticketCheck_of_fresh (h : ¬(k.id = 0 ∨ k.id ∈ heldIds s)) : ticketCheck k s =
    if !s.profiles[k.profile].valid then some .profile
    else if s.profiles[k.profile].fields.family ≠ s.glue.family then some .family
    else if !k.geometryOk then some .badGeometry
    else if Config.ticketCap ≤ s.tickets.queue.length then some .full
    else none := if_neg h

theorem ticketCheck_of_valid (h : ¬(k.id = 0 ∨ k.id ∈ heldIds s)) (hv : s.profiles[k.profile].valid = true) :
    ticketCheck k s = if s.profiles[k.profile].fields.family ≠ s.glue.family then some .family
      else if !k.geometryOk then some .badGeometry
      else if Config.ticketCap ≤ s.tickets.queue.length then some .full
      else none := by
  rw [ticketCheck_of_fresh h, hv]
  rfl

theorem ticketCheck_of_family (h : ¬(k.id = 0 ∨ k.id ∈ heldIds s)) (hv : s.profiles[k.profile].valid = true)
    (hf : s.profiles[k.profile].fields.family = s.glue.family) :
    ticketCheck k s = if !k.geometryOk then some .badGeometry
      else if 64 ≤ s.tickets.queue.length then some .full
      else none := by
  rw [ticketCheck_of_valid h hv, if_neg (not_not.mpr hf)]
  rfl

theorem takeTicket_parsed {p : List Byte} {r : RawTicket} (hs : s.line.state ≠ .starting) (hp : parseTicket p = some r)
    (hr : TicketInRange r) : takeTicket p s = match ticketCheck r.toTicket s with
      | some e => refuse e s
      | none => (ticketArrival (appendTicket r.toTicket s), .ok,
          leBytes 1 (appendTicket r.toTicket s).tickets.queue.length) := by
  simp only [takeTicket, if_neg (not_starting hs), hp, hr.rangeOk, Bool.not_true, Bool.false_eq_true, if_false] <;> rfl

end

/-- A ticket arrival that neither wakes the line nor makes a standing carousel decide changes nothing. -/
theorem ticketArrival_eq {s : State} (hl : s.line.state ≠ .standby) (hu : Undecided s) : ticketArrival s = s := by
  have hre : redecide true s = s := by
    unfold redecide
    rw [if_neg]
    simp only [Bool.and_eq_true, beq_iff_eq, not_and_or, Bool.not_eq_true]
    exact hu
  rw [ticketArrival, hre, wakeTest, if_neg]
  simp [hl]

theorem ticketArrival_kept {s t : State} (h : LineKept s t) : LineKept s (ticketArrival t) :=
  wakeTest_kept (redecide_kept true h)

/-- Settles O6: the checks stand in the order of R4, and the arrival acts on the queue with the ticket at its tail. -/
theorem ticketJoinsTailOrIsRefused : Obligations.TicketJoinsTailOrIsRefused := by
  unfold Obligations.TicketJoinsTailOrIsRefused
  refine ⟨?joins, ?refused⟩
  case joins =>
    intro g r s h hs hr hid hnew hvalid hfam htrims hlen u
    have hfresh : ¬(r.toTicket.id = 0 ∨ r.toTicket.id ∈ heldIds (begun s)) :=
      not_or.mpr ⟨fun h0 => hid ((toTicket_id_eq_zero hr.id).mp h0), hnew⟩
    have hcheck : ticketCheck r.toTicket (begun s) = none := by
      rw [ticketCheck_of_family hfresh hvalid hfam, geometryOk_iff.mpr htrims]
      exact if_neg (Nat.not_le.mpr hlen)
    have ha : requestAct (.ticket g (encodeTicket r)) (begun s)
        = (ticketArrival (begun u), .ok, leBytes 1 (s.tickets.queue.length + 1)) := by
      refine (takeTicket_parsed (s := begun s) hs (parseTicket_encodeTicket hr) hr).trans ?_
      rw [hcheck]
      simp only [appendTicket, List.length_append, List.length_cons, List.length_nil]
      rfl
    refine ⟨_, exec_of_taken rfl h ha, respond_kept _ _ _ _ (ticketArrival_kept (begun_kept u)),
      respond_answered _ _ _ _ _, fun hl hu => ?_⟩
    rw [ticketArrival_eq (s := begun u) hl hu]
  case refused =>
    intro g p s h hs refused
    refine ⟨fun hp => exec_of_refused rfl h ?_, fun r hp => ?_⟩
    · show takeTicket p (begun s) = _
      simp only [takeTicket, if_neg (not_starting (s := begun s) hs), hp]
    have hrefused : ∀ code, TicketInRange r → ticketCheck r.toTicket (begun s) = some code → refused code := by
      intro code hr hc
      refine exec_of_refused rfl h ((takeTicket_parsed (s := begun s) hs hp hr).trans ?_)
      rw [hc]
    refine ⟨fun hr => exec_of_refused rfl h ?range, fun hr hdup => ?duplicate, ?fresh⟩
    case range =>
      have hfalse : r.rangeOk = false := Bool.eq_false_iff.mpr fun hok => hr (ticketInRange_of_parse hp hok)
      show takeTicket p (begun s) = _
      simp only [takeTicket, if_neg (not_starting (s := begun s) hs), hp, hfalse, Bool.not_false, if_true]
    case duplicate => exact hrefused _ hr (ticketCheck_duplicate (hdup.imp_left (toTicket_id_eq_zero hr.id).mpr))
    case fresh =>
      intro hr hid hnew e
      have hfresh : ¬(r.toTicket.id = 0 ∨ r.toTicket.id ∈ heldIds (begun s)) :=
        not_or.mpr ⟨fun h0 => hid ((toTicket_id_eq_zero hr.id).mp h0), hnew⟩
      refine ⟨fun hv => hrefused _ hr ?_, fun hv hf => hrefused _ hr ?_,
        fun hv hf => ⟨fun ht => hrefused _ hr ?_, fun ht hl => hrefused _ hr ?_⟩⟩
      · exact (ticketCheck_of_fresh hfresh).trans (if_pos (congrArg (!·) hv))
      · exact (ticketCheck_of_valid hfresh hv).trans (if_pos hf)
      · exact (ticketCheck_of_family hfresh hv hf).trans (if_pos (by rwa [Bool.not_eq_true', ← Bool.not_eq_true, geometryOk_iff]))
      · rw [ticketCheck_of_family hfresh hv hf, geometryOk_iff.mpr ht]
        exact if_pos hl

/-! ## WITHDRAW (R13) -/

theorem requestId_leBytes (id : TicketId) : BitVec.ofNat 32 (natAt (leBytes 4 id.toNat) 0 4) = id := by
  have hlen : (leBytes 4 id.toNat).take 4 = leBytes 4 id.toNat := List.take_of_length_le (by simp)
  rw [natAt, List.drop_zero, hlen, leNat_leBytes_of_lt 4 _ id.isLt]
  simp

/-- With ids that are unique, the one ticket of an id leaves the queue. -/
theorem eraseP_eq_filter {id : TicketId} {l : List Ticket} (h : (l.map (·.id)).Nodup) :
    l.eraseP (·.id == id) = l.filter fun t => t.id != id := by
  induction l with
  | nil => rfl
  | cons t l ih =>
    obtain ⟨hnew, hrest⟩ := List.nodup_cons.mp h
    by_cases ht : t.id = id
    · have hall : l.filter (fun t => t.id != id) = l := List.filter_eq_self.mpr fun u hu => by
        simp only [bne_iff_ne]
        exact fun e => hnew (List.mem_map.mpr ⟨u, hu, e.trans ht.symm⟩)
      simp [ht, hall]
    · simp [ht, ih hrest]

/-- A report that is raised stays in its latch until its frame begins. -/
theorem txPump_lowReported {n : Nat} {s : State} (h : LowReported n s) : LowReported n (txPump s) := by
  rcases h with h | h
  · unfold txPump
    split
    · rename_i f x _ hnext
      unfold nextFrame nextReport at hnext
      split at hnext
      · cases hnext; exact .inl h
      · split at hnext
        · cases hnext; exact .inl h
        · split at hnext
          · cases hnext; exact .inl h
          · split at hnext
            · cases hnext; exact .inl h
            · rw [h] at hnext
              cases hnext
              exact .inr rfl
      · split at hnext
        · cases hnext; exact .inl h
        · split at hnext
          · cases hnext; exact .inl h
          · split at hnext
            · cases hnext; exact .inl h
            · split at hnext
              · cases hnext; exact .inl h
              · rw [h] at hnext
                cases hnext
                exact .inr rfl
    · exact .inl h
  · rw [txPump_busy _ _ h]
    exact .inr h

theorem raiseTicketsLow_reported (n : Nat) (s : State) : LowReported n (raiseTicketsLow n s) :=
  txPump_lowReported (.inl rfl)

theorem respond_lowReported {n : Nat} {s : State} (k g : Byte) (r : Result) (d : List Byte) (h : LowReported n s) :
    LowReported n (respond k g r d s) := txPump_lowReported h

theorem afterRemoval_lowReported {s : State} {before : Nat} (hb : s.settings.leadThreshold < before)
    (hn : s.tickets.queue.length ≤ s.settings.leadThreshold) :
    LowReported s.tickets.queue.length (afterRemoval before s) := by
  rw [afterRemoval, if_pos ⟨hb, hn⟩]
  exact raiseTicketsLow_reported _ _

theorem afterRemoval_eq {s : State} {before : Nat}
    (h : ¬(s.settings.leadThreshold < before ∧ s.tickets.queue.length ≤ s.settings.leadThreshold)) :
    afterRemoval before s = s := if_neg h

theorem takeWithdraw_eq {id : TicketId} {s : State} (hs : s.line.state ≠ .starting) :
    takeWithdraw (leBytes 4 id.toNat) s =
      if id ∈ queueIds s then
        if reservedHead id s then refuse .locked s
        else accept (afterRemoval s.tickets.queue.length
          { s with tickets := { s.tickets with queue := s.tickets.queue.eraseP (·.id == id) } })
      else if id ∈ heldIds s then refuse .wrongState s
      else refuse .notFound s := by
  simp only [takeWithdraw, if_neg (not_starting hs), leBytes_length, ne_eq, not_true_eq_false, if_false,
    requestId_leBytes]

theorem mem_heldIds_of_queue {id : TicketId} {s : State} (h : id ∈ queueIds s) : id ∈ heldIds s := by
  simp [heldIds, h]

theorem queueIds_nodup {s : State} (h : IdsUnique s) : (queueIds s).Nodup := by
  have := h.1
  simp only [heldIds, List.append_assoc] at this
  exact (List.nodup_append.mp this).1

/-- Settles O7: with unique ids one ticket leaves the queue, and the queue falls to the lead threshold exactly when it
is one below the count before. -/
theorem withdrawRemovesOrRefuses : Obligations.WithdrawRemovesOrRefuses := by
  unfold Obligations.WithdrawRemovesOrRefuses
  refine ⟨?removes, ?refuses⟩
  case removes =>
    intro g id s h hs hids hq hres n u
    have herase := eraseP_eq_filter (id := id) (queueIds_nodup hids)
    obtain ⟨t, ht, htid⟩ := List.mem_map.mp hq
    have hlen : u.tickets.queue.length = n := by
      show (s.tickets.queue.filter _).length = _
      rw [← herase]
      exact List.length_eraseP_of_mem ht (by simp [htid])
    have hpos : 0 < s.tickets.queue.length := List.length_pos_of_mem ht
    have ha : requestAct (.withdraw g (leBytes 4 id.toNat)) (begun s)
        = accept (afterRemoval s.tickets.queue.length (begun u)) := by
      refine (takeWithdraw_eq (s := begun s) hs).trans ?_
      rw [if_pos (show id ∈ queueIds (begun s) from hq),
        if_neg (by rw [show reservedHead id (begun s) = false from hres]; decide)]
      simp only [begun, clearRx, clearOut, herase]
      rfl
    obtain ⟨x, hx⟩ := afterRemoval_host s.tickets.queue.length (begun u)
    obtain ⟨y, hy⟩ := respond_host 0x02 g .ok [] (afterRemoval s.tickets.queue.length (begun u))
    have ht : respond 0x02 g .ok [] (afterRemoval s.tickets.queue.length (begun u)) = { begun u with host := y } := by
      rw [hy, hx]
    refine ⟨_, exec_of_taken rfl h ha, ⟨y, ht⟩, by rw [ht]; exact hlen, respond_answered _ _ _ _ _, fun hlead => ?_,
      fun hlead => ?_⟩
    · have := afterRemoval_lowReported (s := begun u) (before := s.tickets.queue.length)
        (show s.settings.leadThreshold < _ by omega) (show u.tickets.queue.length ≤ s.settings.leadThreshold by omega)
      rw [show (begun u).tickets.queue.length = n from hlen] at this
      exact respond_lowReported _ _ _ _ this
    · rw [afterRemoval_eq]
      rintro ⟨h₁, h₂⟩
      have h₁ : s.settings.leadThreshold < s.tickets.queue.length := h₁
      have h₂ : u.tickets.queue.length ≤ s.settings.leadThreshold := h₂
      omega
  case refuses =>
    intro g id s h hs hids refused
    have hrefused : ∀ code, takeWithdraw (leBytes 4 id.toNat) (begun s) = refuse code (begun s) → refused code :=
      fun code ha => exec_of_refused rfl h ha
    refine ⟨fun hres hhead => hrefused _ ?_, fun hheld hq => hrefused _ ?_, fun hnone => hrefused _ ?_⟩
    · obtain ⟨t, ht, htid⟩ := Option.map_eq_some_iff.mp hhead
      obtain ⟨l, hl⟩ := List.head?_eq_some_iff.mp ht
      have hmem : id ∈ queueIds (begun s) := by
        show id ∈ s.tickets.queue.map _
        rw [hl, ← htid]
        simp
      have hlocked : reservedHead id (begun s) = true := by
        simp [reservedHead, begun, clearRx, clearOut, hres, hl, htid]
      rw [takeWithdraw_eq (s := begun s) hs, if_pos hmem, if_pos hlocked]
    · rw [takeWithdraw_eq (s := begun s) hs, if_neg (show id ∉ queueIds (begun s) from hq),
        if_pos (show id ∈ heldIds (begun s) from hheld)]
    · have hheld : id ∉ heldIds (begun s) := by
        rcases hnone with rfl | h
        · exact hids.2
        · exact h
      rw [takeWithdraw_eq (s := begun s) hs, if_neg fun hq => hheld (mem_heldIds_of_queue hq), if_neg hheld]

end Sys2Proof.Machine

/-! PROOFS. The byte layouts of the payloads: reading a field of a layout, profile entries and settings written and read
back, and the profile requests. -/

namespace Sys2Proof.Machine

/-! ## Fields of a layout -/

section
variable {k n i w : Nat} {l rest : List Byte}

/-- A field behind another is read from the rest. -/
theorem natAt_append_of_le (h : l.length ≤ i) : natAt (l ++ rest) i w = natAt rest (i - l.length) w := by
  rw [natAt, natAt, List.drop_append, List.drop_eq_nil_of_le h, List.nil_append]

theorem byteAt_append_of_le (h : l.length ≤ i) : byteAt (l ++ rest) i = byteAt rest (i - l.length) := by
  rw [byteAt, byteAt, List.getD_append_right _ _ _ _ h]

theorem natAt_field_of_le (h : k ≤ i) : natAt (leBytes k n ++ rest) i w = natAt rest (i - k) w := by
  simpa using natAt_append_of_le (l := leBytes k n) (by simpa using h)

theorem byteAt_field_of_le (h : k ≤ i) : byteAt (leBytes k n ++ rest) i = byteAt rest (i - k) := by
  simpa using byteAt_append_of_le (l := leBytes k n) (by simpa using h)

theorem natAt_field : natAt (leBytes k n ++ rest) 0 k = n % 256 ^ k := by
  rw [natAt, List.drop_zero, List.take_left' (leBytes_length k n), leNat_leBytes]

theorem natAt_last_field : natAt (leBytes k n) 0 k = n % 256 ^ k := by
  simpa using natAt_field (k := k) (n := n) (rest := [])

theorem byteAt_field : byteAt (leBytes 1 n ++ rest) 0 = n % 256 := by simp [byteAt, leBytes]

theorem byteAt_last_field : byteAt (leBytes 1 n) 0 = n % 256 := by simp [byteAt, leBytes]

/-- A number written in the bytes it was read from. -/
theorem leBytes_leNat (l : List Byte) : leBytes l.length (leNat l) = l := by
  induction l with
  | nil => rfl
  | cons b l ih =>
    have hb := b.isLt
    have hdiv : (b.toNat + 256 * leNat l) / 256 = leNat l := by omega
    have hbyte : BitVec.ofNat 8 (b.toNat + 256 * leNat l) = b := by
      apply BitVec.eq_of_toNat_eq
      rw [BitVec.toNat_ofNat]
      omega
    simp only [List.length_cons, leNat, leBytes, hbyte, hdiv, ih]

theorem leBytes_two (a b : Byte) : leBytes 2 (leNat [a, b]) = [a, b] := leBytes_leNat [a, b]

theorem leBytes_four (a b c d : Byte) : leBytes 4 (leNat [a, b, c, d]) = [a, b, c, d] := leBytes_leNat [a, b, c, d]

theorem leBytes_toNat (b : Byte) : leBytes 1 b.toNat = [b] := by simp [leBytes]

end

/-! ## Signed fields -/

theorem toSigned_ofSigned {bits : Nat} {x : Int} (hb : 0 < bits) (hlo : -(2 ^ (bits - 1) : Nat) ≤ x)
    (hhi : x < (2 ^ (bits - 1) : Nat)) : toSigned bits (ofSigned bits x) = x := by
  have hpow : 2 ^ bits = 2 * 2 ^ (bits - 1) := by
    rw [← Nat.pow_succ']
    congr 1
    omega
  unfold toSigned ofSigned
  generalize 2 ^ (bits - 1) = m at hlo hhi hpow
  rw [hpow]
  have hmod : x % (2 * m : Nat) = if 0 ≤ x then x else x + (2 * m : Nat) := by
    split
    · exact Int.emod_eq_of_lt ‹_› (by omega)
    · rw [← Int.add_emod_right]
      exact Int.emod_eq_of_lt (by omega) (by omega)
  rw [hmod]
  split
  · rw [Nat.mod_eq_of_lt (by omega), if_pos (by omega)]
    omega
  · rw [Nat.mod_eq_of_lt (by omega), if_neg (by omega)]
    omega

theorem ofSigned_toSigned {bits n : Nat} (h : n < 2 ^ bits) : ofSigned bits (toSigned bits n) = n := by
  unfold toSigned ofSigned
  rw [Nat.mod_eq_of_lt h]
  generalize 2 ^ bits = m at h
  split
  · rw [Int.emod_eq_of_lt (by omega) (by omega)]
    omega
  · rw [← Int.add_emod_right, Int.emod_eq_of_lt (by omega) (by omega)]
    omega

theorem ofSigned_lt (bits : Nat) (x : Int) : ofSigned bits x < 2 ^ bits := by
  have hpos : 0 < 2 ^ bits := Nat.two_pow_pos bits
  unfold ofSigned
  generalize 2 ^ bits = m at hpos
  have := Int.emod_lt_of_pos x (show (0 : Int) < m by omega)
  have := Int.emod_nonneg x (show (m : Int) ≠ 0 by omega)
  omega

/-! ## Profile entries (2.2) -/

theorem Family.code_lt (f : Family) : f.code ≤ 1 := by cases f <;> decide

theorem GlueMode.code_lt (m : GlueMode) : m.code ≤ 2 := by cases m <;> decide

theorem Family.ofCode (f : Family) : (if f.code = 0 then Family.hotmelt else .pur) = f := by cases f <;> rfl

theorem GlueMode.ofCode (m : GlueMode) :
    (if m.code = 0 then GlueMode.fixed else if m.code = 1 then .twoClass else .computed) = m := by cases m <;> rfl

/-- The fields of an entry's bytes, field for field. -/
theorem encodeProfile_fields {n : Fin 16} {p : Profile} (h : p.InRange) (rest : List Byte) :
    let d := encodeProfile n p ++ rest
    byteAt d 0 = n.val ∧ byteAt d 1 = p.valid.toNat ∧ byteAt d 2 = p.fields.family.code
      ∧ byteAt d 3 = p.fields.mode.code ∧ byteAt d 4 = p.fields.fixedStep ∧ byteAt d 5 = p.fields.thinStep
      ∧ byteAt d 6 = p.fields.thickStep ∧ byteAt d 7 = p.fields.baseStep ∧ natAt d 8 4 = p.fields.threshold
      ∧ toSigned 8 (byteAt d 12) = p.fields.offset ∧ byteAt d 13 = p.fields.sideStep
      ∧ byteAt d 14 = p.fields.openTime ∧ natAt d 15 2 = p.fields.coolDwell := by
  obtain ⟨h1, h2, h3, h4, ⟨-, h5, -⟩, ⟨h6, h6'⟩, h7, ⟨-, h8⟩, -, h9⟩ := h
  have hf := p.fields.family.code_lt
  have hm := p.fields.mode.code_lt
  have ho : ofSigned 8 p.fields.offset % 256 = ofSigned 8 p.fields.offset := Nat.mod_eq_of_lt (ofSigned_lt 8 _)
  have hs : toSigned 8 (ofSigned 8 p.fields.offset) = p.fields.offset :=
    toSigned_ofSigned (by decide) (by norm_num; omega) (by norm_num; omega)
  have hn := n.isLt
  have hv : (if p.valid = true then 1 else 0) = p.valid.toNat := by cases p.valid <;> rfl
  have hv' := p.valid.toNat_le
  intro d
  simp only [d, encodeProfile, List.append_assoc, byteAt_field, natAt_field, byteAt_field_of_le, natAt_field_of_le,
    Nat.reduceLeDiff, Nat.reduceSub, ho, hs, hv]
  norm_num
  omega

theorem encodeProfile_length (n : Fin 16) (p : Profile) : (encodeProfile n p).length = 17 := by
  simp [encodeProfile]

/-- An entry in range is read back from its bytes. -/
theorem parseProfile_encodeProfile {n : Fin 16} {p : Profile} (h : p.InRange) (rest : List Byte) :
    parseProfile (encodeProfile n p ++ rest) = some (n, p) := by
  obtain ⟨e0, e1, e2, e3, e4, e5, e6, e7, e8, e12, e13, e14, e15⟩ := encodeProfile_fields (n := n) h rest
  have hf := p.fields.family.code_lt
  have hm := p.fields.mode.code_lt
  have hn := n.isLt
  have hv := p.valid.toNat_le
  obtain ⟨h1, h2, h3, h4, ⟨h5, h5', h5''⟩, ⟨h6, h6'⟩, h7, ⟨h8, h8'⟩, h9, h9'⟩ := h
  unfold parseProfile
  simp only [e0, e1, e2, e3, e4, e5, e6, e7, e8, e12, e13, e14, e15, Family.ofCode, GlueMode.ofCode]
  rw [if_pos (by omega)]
  have hfin : Fin.ofNat 16 n.val = n := Fin.ext (Nat.mod_eq_of_lt n.isLt)
  have hvalid : (p.valid.toNat == 1) = p.valid := by cases p.valid <;> rfl
  rw [hfin, hvalid]

/-- A list of 17 bytes, byte by byte. -/
theorem bytes17 {p : List Byte} (h : p.length = 17) : ∃ b0 b1 b2 b3 b4 b5 b6 b7 b8 b9 b10 b11 b12 b13 b14 b15 b16,
    p = [b0, b1, b2, b3, b4, b5, b6, b7, b8, b9, b10, b11, b12, b13, b14, b15, b16] := by
  match p, h with
  | [b0, b1, b2, b3, b4, b5, b6, b7, b8, b9, b10, b11, b12, b13, b14, b15, b16], _ =>
    exact ⟨b0, b1, b2, b3, b4, b5, b6, b7, b8, b9, b10, b11, b12, b13, b14, b15, b16, rfl⟩

/-- Bytes that pass the check of R21 are the layout of the entry they give. -/
theorem parseProfile_eq_some {d : List Byte} (hlen : d.length = 17) {n : Fin 16} {p : Profile}
    (h : parseProfile d = some (n, p)) : p.InRange ∧ d = encodeProfile n p := by
  obtain ⟨b0, b1, b2, b3, b4, b5, b6, b7, b8, b9, b10, b11, b12, b13, b14, b15, b16, rfl⟩ := bytes17 hlen
  unfold parseProfile at h
  simp only [byteAt, natAt, List.getD_cons_zero, List.getD_cons_succ, List.drop_succ_cons, List.drop_zero,
    List.take_succ_cons, List.take_zero] at h
  split at h
  case isFalse => cases h
  rename_i hr
  cases h
  refine ⟨?_, ?_⟩
  · constructor <;> simp only [Dimension] <;> omega
  · have hone : ∀ b : Byte, b.toNat ≤ 1 → (if (b.toNat == 1) = true then 1 else 0) = b.toNat := by decide
    have hfam : ∀ b : Byte, b.toNat ≤ 1 → (if b.toNat = 0 then Family.hotmelt else .pur).code = b.toNat := by decide
    have hmode : ∀ b : Byte, b.toNat ≤ 2 →
        (if b.toNat = 0 then GlueMode.fixed else if b.toNat = 1 then .twoClass else .computed).code = b.toNat := by
      decide
    have hfin : (Fin.ofNat 16 b0.toNat).val = b0.toNat := Nat.mod_eq_of_lt (by omega)
    simp only [encodeProfile, hfin, hone b1 (by omega), hfam b2 (by omega), hmode b3 (by omega), leBytes_toNat,
      ofSigned_toSigned b12.isLt, leBytes_two, leBytes_four]
    rfl

/-! ## Profile requests -/

section
variable {s : State}

theorem takeProfilePut_eq {p : List Byte} (hs : s.line.state ≠ .starting) (hlen : p.length = 17) :
    takeProfilePut p s = match parseProfile p with
      | none => refuse .badRange s
      | some (n, p) => if profileLocked n p s then refuse .locked s
        else accept { s with profiles := s.profiles.set n.val p } := by
  simp only [takeProfilePut, if_neg (not_starting hs), hlen, ne_eq, not_true_eq_false, if_false] <;> rfl

theorem profileLocked_iff {n : Fin 16} {p : Profile} : profileLocked n p s = true ↔
    (∃ t ∈ s.tickets.queue, t.profile = n) ∧ (p.fields.family ≠ s.profiles[n].fields.family ∨ p.valid = false) := by
  simp [profileLocked, profileNamed]

end

/-- Settles O8: an entry is in range exactly when its bytes pass the check, and then R22 decides. -/
theorem profilePutChecksAndReplaces : Obligations.ProfilePutChecksAndReplaces := by
  unfold Obligations.ProfilePutChecksAndReplaces
  refine ⟨?inRange, ?outOfRange⟩
  case inRange =>
    intro g n p s h hs hp locked
    have hparse := parseProfile_encodeProfile (n := n) hp []
    rw [List.append_nil] at hparse
    have htake : takeProfilePut (encodeProfile n p) (begun s) = if profileLocked n p (begun s)
        then refuse .locked (begun s) else accept { begun s with profiles := s.profiles.set n.val p } := by
      rw [takeProfilePut_eq (s := begun s) hs (encodeProfile_length n p), hparse]
      rfl
    refine ⟨fun hfree => exec_of_taken rfl h (htake.trans (if_neg fun hl => hfree ?_)),
      fun hl => exec_of_refused rfl h (htake.trans (if_pos ?_))⟩
    · exact profileLocked_iff.mp hl
    · exact profileLocked_iff.mpr hl
  case outOfRange =>
    intro g payload s h hs hlen
    have htake := takeProfilePut_eq (s := begun s) hs hlen
    cases hparse : parseProfile payload with
    | none =>
      rw [hparse] at htake
      exact .inr (exec_of_refused rfl h htake)
    | some e => exact .inl ⟨e.1, e.2, parseProfile_eq_some hlen hparse⟩

/-! ## Reading a profile and a clamp (R24, R42) -/

theorem takeProfileGet_eq {s : State} (hs : s.line.state ≠ .starting) (b : Byte) : takeProfileGet [b] s =
    if h : b.toNat < 16 then (s, .ok, encodeProfile ⟨b.toNat, h⟩ s.profiles[b.toNat]) else refuse .badRange s := by
  rw [takeProfileGet, if_neg (not_starting hs), if_neg (by simp)]
  rfl

theorem takeClampGet_eq {s : State} (hs : s.line.state ≠ .starting) (b : Byte) : takeClampGet [b] s =
    if h : b.toNat < 20 then (s, .ok, clampBytes s ⟨b.toNat, h⟩) else refuse .badRange s := by
  rw [takeClampGet, if_neg (not_starting hs), if_neg (by simp)]
  rfl

theorem positionOf_known {s : State} {c φ : Fin 20} (hk : s.car.phaseKnown = true) (hφ : s.car.phase = some φ) :
    positionOf s c = some (c + φ) := by simp [positionOf, hk, hφ]

theorem positionOf_unknown {s : State} {c : Fin 20} (hk : s.car.phaseKnown = false) : positionOf s c = none := by
  simp [positionOf, hk]

theorem UseMark.code_lt (m : UseMark) : m.code ≤ 2 := by cases m <;> decide

/-- The fields of a clamp's ten bytes. -/
theorem clampBytes_fields {s : State} {c : Fin 20} (hlo : -500 ≤ (clampRec s c).zero) (hhi : (clampRec s c).zero ≤ 500) :
    let d := clampBytes s c
    byteAt d 0 = c.val ∧ byteAt d 1 = (clampRec s c).mark.code ∧ toSigned 16 (natAt d 2 2) = (clampRec s c).zero
      ∧ byteAt d 4 = ((positionOf s c).elim 255 Fin.val) ∧ byteAt d 5 = (bookIn s c).isSome.toNat
      ∧ natAt d 6 4 = ((bookIn s c).elim 0 fun b => b.ticket.id.toNat) := by
  have hc := c.isLt
  have hm := (clampRec s c).mark.code_lt
  have ho : ofSigned 16 (clampRec s c).zero % 65536 = ofSigned 16 (clampRec s c).zero :=
    Nat.mod_eq_of_lt (ofSigned_lt 16 _)
  have hs : toSigned 16 (ofSigned 16 (clampRec s c).zero) = (clampRec s c).zero :=
    toSigned_ofSigned (by decide) (by norm_num; omega) (by norm_num; omega)
  intro d
  simp only [d, clampBytes, List.append_assoc, byteAt_field, natAt_field, byteAt_field_of_le, natAt_field_of_le,
    natAt_last_field, Nat.reduceLeDiff, Nat.reduceSub, Nat.reducePow, ho, hs]
  refine ⟨by omega, by omega, trivial, ?_, ?_, ?_⟩
  · cases hp : positionOf s c with
    | none => rfl
    | some p => exact Nat.mod_eq_of_lt (p.isLt.trans (by decide))
  · rw [bookIn_eq]
    cases (clampRec s c).book <;> rfl
  · rw [bookIn_eq]
    cases (clampRec s c).book with
    | none => rfl
    | some b => exact Nat.mod_eq_of_lt b.ticket.id.isLt

/-- Settles O9: each reply is the layout of the record, read field by field. -/
theorem profileAndClampGetShowTables : Obligations.ProfileAndClampGetShowTables := by
  unfold Obligations.ProfileAndClampGetShowTables
  refine ⟨fun g p s h => ⟨fun hs => ?_, fun hs => ⟨fun hlen => ?_, ?profile⟩⟩,
    fun g p s h => ⟨fun hs => ?_, fun hs => ⟨fun hlen => ?_, ?clamp⟩⟩⟩
  · exact exec_of_refused rfl h (requestAct_starting (c := .profileGet g p) rfl (by decide) hs)
  · exact exec_of_refused rfl h (requestAct_badFormat (c := .profileGet g p) rfl rfl hlen hs)
  case profile =>
    rintro b rfl
    have htake := takeProfileGet_eq (s := begun s) hs b
    refine ⟨fun hb => exec_of_refused rfl h (htake.trans (dif_neg hb.not_gt)), fun n hn => ?_⟩
    have hb : b.toNat < 16 := hn ▸ n.isLt
    obtain rfl : n = ⟨b.toNat, hb⟩ := Fin.ext hn.symm
    refine ⟨_, exec_of_taken rfl h (htake.trans (dif_pos hb)), encodeProfile_length _ _, ?_, ?_, fun hr => ?_⟩
    · simp only [encodeProfile, List.append_assoc, byteAt_field]
      omega
    · have hv : (if s.profiles[b.toNat].valid = true then 1 else 0) = s.profiles[b.toNat].valid.toNat := by
        cases s.profiles[b.toNat].valid <;> rfl
      have hlt := s.profiles[b.toNat].valid.toNat_le
      simp only [encodeProfile, List.append_assoc, byteAt_field_of_le, byteAt_field, Nat.reduceLeDiff, Nat.reduceSub]
      show (if s.profiles[b.toNat].valid = true then 1 else 0) % 256 = _
      rw [hv]
      exact Nat.mod_eq_of_lt (by omega)
    · have hfields := encodeProfile_fields (n := ⟨b.toNat, hb⟩) hr []
      rw [List.append_nil] at hfields
      obtain ⟨-, -, hfam, hmode, hrest⟩ := hfields
      exact ⟨hfam, hmode, hrest⟩
  · exact exec_of_refused rfl h (requestAct_starting (c := .clampGet g p) rfl (by decide) hs)
  · exact exec_of_refused rfl h (requestAct_badFormat (c := .clampGet g p) rfl rfl hlen hs)
  case clamp =>
    rintro b rfl
    have htake := takeClampGet_eq (s := begun s) hs b
    refine ⟨fun hb => exec_of_refused rfl h (htake.trans (dif_neg hb.not_gt)), fun c hc hlo hhi => ?_⟩
    have hb : b.toNat < 20 := hc ▸ c.isLt
    obtain rfl : c = ⟨b.toNat, hb⟩ := Fin.ext hc.symm
    obtain ⟨h0, h1, h2, h4, h5, h6⟩ := clampBytes_fields (s := begun s) hlo hhi
    refine ⟨_, exec_of_taken rfl h (htake.trans (dif_pos hb)), by simp [clampBytes], h0, h1, h2, ?_, ?_, ?_, ?_⟩
    · intro φ hk hφ
      rw [h4, positionOf_known (s := begun s) hk hφ]
      rfl
    · intro hk
      rw [h4, positionOf_unknown (s := begun s) hk]
      rfl
    · intro hnone
      rw [h5, h6, show bookIn (begun s) _ = none from hnone]
      exact ⟨rfl, rfl⟩
    · intro x hx
      rw [h5, h6, show bookIn (begun s) _ = some x from hx]
      exact ⟨rfl, rfl⟩

end Sys2Proof.Machine

/-! PROOFS. CLAMP_PUT, the settings requests and GLUE_CHANGE. -/

namespace Sys2Proof.Machine

/-! ## CLAMP_PUT (R40, R41) -/

/-- The payload of a CLAMP_PUT (R40). -/
def clampPutBytes (c : Fin 20) (selector : Nat) (out : Bool) (z : Int) : List Byte :=
  leBytes 1 c.val ++ leBytes 1 selector ++ leBytes 1 out.toNat ++ leBytes 2 (ofSigned 16 z)

theorem parseClampPut_bytes {c : Fin 20} {selector : Nat} {out : Bool} {z : Int} (h₁ : 1 ≤ selector)
    (h₃ : selector ≤ 3) (hlo : -500 ≤ z) (hhi : z ≤ 500) :
    parseClampPut (clampPutBytes c selector out z) = some (c, selector, if out then .outOfUse else .inUse, z) := by
  have hc := c.isLt
  have hout := out.toNat_le
  have ho : ofSigned 16 z % 65536 = ofSigned 16 z := Nat.mod_eq_of_lt (ofSigned_lt 16 _)
  have hs : toSigned 16 (ofSigned 16 z) = z := toSigned_ofSigned (by decide) (by norm_num; omega) (by norm_num; omega)
  have hfin : Fin.ofNat 20 c.val = c := Fin.ext (Nat.mod_eq_of_lt hc)
  have hmark : (if out.toNat = 0 then UseMark.inUse else .outOfUse) = if out then .outOfUse else .inUse := by
    cases out <;> rfl
  simp only [parseClampPut, clampPutBytes, List.append_assoc, byteAt_field, byteAt_field_of_le, natAt_field_of_le,
    natAt_last_field, Nat.reduceLeDiff, Nat.reduceSub, Nat.reducePow, ho, hs,
    Nat.mod_eq_of_lt (show c.val < 256 by omega), Nat.mod_eq_of_lt (show selector < 256 by omega),
    Nat.mod_eq_of_lt (show out.toNat < 256 by omega), hfin, hmark]
  exact if_pos (by omega)

theorem toInt_append (a b : Byte) : (a ++ b).toInt = toSigned 16 (b.toNat + 256 * a.toNat) := by
  have ha := a.isLt
  have hb := b.isLt
  have hnat : (a ++ b).toNat = b.toNat + 256 * a.toNat := by
    rw [BitVec.toNat_append, ← Nat.shiftLeft_add_eq_or_of_lt hb, Nat.shiftLeft_eq]
    omega
  rw [BitVec.toInt_eq_toNat_cond, hnat, toSigned, Nat.mod_eq_of_lt (by omega)]
  simp only [Nat.reduceAdd, Nat.reduceSub, Nat.reducePow]
  split <;> split <;> omega

section
variable {s : State}

theorem takeClampPut_eq {p : List Byte} (hs : s.line.state ≠ .starting) (hlen : p.length = 5) :
    takeClampPut p s = match parseClampPut p with
      | none => refuse .badRange s
      | some (c, selector, mark, zero) =>
        if clampProtected s c && putClamp selector mark zero (clampRec s c) != clampRec s c then refuse .locked s
        else accept (redecide false (setClamp c (putClamp selector mark zero (clampRec s c)) s)) := by
  simp only [takeClampPut, if_neg (not_starting hs), hlen, ne_eq, not_true_eq_false, if_false] <;> rfl

theorem clampProtected_iff {c : Fin 20} : clampProtected s c = true ↔ (bookIn s c).isSome = true
    ∨ ∃ j ∈ s.car.jobs, j.item.station = .load ∧ j.item.clamp = c ∧ j.ended = false := by
  simp [clampProtected, loadedAt, p0JobFor, and_assoc]

/-- The record with the fields that the selector names replaced, as the statement writes it. -/
theorem putClamp_eq (selector : Nat) (out : Bool) (z : Int) (k : Clamp) :
    putClamp selector (if out then .outOfUse else .inUse) z k =
      { k with mark := if selector = 2 then k.mark else if out then .outOfUse else .inUse
               zero := if selector = 1 then k.zero else z } := rfl

theorem clamp_ne_iff {k : Clamp} {m : UseMark} {z : Int} :
    ({ k with mark := m, zero := z } != k) = true ↔ m ≠ k.mark ∨ z ≠ k.zero := by
  cases k
  simp only [bne_iff_ne, ne_eq, Clamp.mk.injEq, and_true]
  tauto

/-- With nothing to decide a request leaves a standing carousel alone. -/
theorem redecide_of_undecided (test : Bool) (h : Undecided s) : redecide test s = s := by
  unfold redecide
  rw [if_neg]
  simp only [Bool.and_eq_true, beq_iff_eq, not_and_or, Bool.not_eq_true]
  exact h

end

/-- Settles O10: the four fields are checked together, then the guard of R41, and the fields named are replaced. -/
theorem clampPutChecksAndReplaces : Obligations.ClampPutChecksAndReplaces := by
  unfold Obligations.ClampPutChecksAndReplaces
  refine ⟨?inRange, ?outOfRange⟩
  case inRange =>
    intro g c selector out z s h hs h₁ h₃ hlo hhi payload mark zero guarded changes
    have htake : requestAct (.clampPut g payload) (begun s) =
        if clampProtected s c && { clampRec s c with mark := mark, zero := zero } != clampRec s c
        then refuse .locked (begun s)
        else accept (redecide false (begun (setClamp c { clampRec s c with mark := mark, zero := zero } s))) := by
      refine (takeClampPut_eq (s := begun s) hs (p := payload) (by simp [payload])).trans ?_
      rw [show parseClampPut payload = _ from parseClampPut_bytes h₁ h₃ hlo hhi]
      rfl
    have hcond : (clampProtected s c && { clampRec s c with mark := mark, zero := zero } != clampRec s c) = true
        ↔ guarded ∧ changes := by
      rw [Bool.and_eq_true, clampProtected_iff, clamp_ne_iff]
    refine ⟨fun hl => exec_of_refused rfl h (htake.trans (if_pos (hcond.mpr hl))), fun hfree => ?_⟩
    intro u
    refine ⟨_, exec_of_taken rfl h (htake.trans (if_neg fun hl => hfree (hcond.mp hl))),
      respond_kept _ _ _ _ (redecide_kept _ (begun_kept u)), respond_answered _ _ _ _ _, fun hu => ?_⟩
    have hu' : Undecided (begun u) := hu
    exact congrArg _ (redecide_of_undecided false hu')
  case outOfRange =>
    intro g b₀ b₁ b₂ b₃ b₄ s h hs hout
    refine exec_of_refused rfl h ((takeClampPut_eq (s := begun s) hs rfl).trans ?_)
    have hnone : parseClampPut [b₀, b₁, b₂, b₃, b₄] = none := by
      rw [toInt_append] at hout
      refine if_neg fun hr => ?_
      obtain ⟨hr0, hr1, hr1', hr2, hlo, hhi⟩ := hr
      have hr0 : b₀.toNat ≤ 19 := hr0
      have hr1 : 1 ≤ b₁.toNat := hr1
      have hr1' : b₁.toNat ≤ 3 := hr1'
      have hr2 : b₂.toNat ≤ 1 := hr2
      have hlo : -500 ≤ toSigned 16 (b₃.toNat + 256 * b₄.toNat) := hlo
      have hhi : toSigned 16 (b₃.toNat + 256 * b₄.toNat) ≤ 500 := hhi
      omega
    rw [hnone]

/-! ## The settings (R79, R180) -/

theorem encodeSettings_length (c : Settings) : (encodeSettings c).length = 10 := by simp [encodeSettings]

theorem encodeSettings_fields {c : Settings} (h : c.InRange) (rest : List Byte) :
    let d := encodeSettings c ++ rest
    byteAt d 0 = c.workTemp ∧ byteAt d 1 = c.standbyDrop ∧ natAt d 2 2 = c.standbyDelay ∧ natAt d 4 2 = c.parkDelay
      ∧ natAt d 6 2 = c.loadWait ∧ byteAt d 8 = c.leadThreshold ∧ byteAt d 9 = c.zeroLearning.toNat := by
  obtain ⟨⟨-, h1⟩, ⟨-, h2⟩, ⟨-, h3⟩, ⟨-, h4⟩, ⟨-, h5⟩, h6⟩ := h
  have hz : (if c.zeroLearning = true then 1 else 0) = c.zeroLearning.toNat := by cases c.zeroLearning <;> rfl
  have hz' := c.zeroLearning.toNat_le
  intro d
  simp only [d, encodeSettings, List.append_assoc, byteAt_field, byteAt_field_of_le, natAt_field, natAt_field_of_le,
    Nat.reduceLeDiff, Nat.reduceSub, Nat.reducePow, hz]
  omega

theorem parseSettings_encodeSettings {c : Settings} (h : c.InRange) (rest : List Byte) :
    parseSettings (encodeSettings c ++ rest) = some c := by
  obtain ⟨e0, e1, e2, e4, e6, e8, e9⟩ := encodeSettings_fields h rest
  have hz' := c.zeroLearning.toNat_le
  obtain ⟨⟨h1, h1'⟩, ⟨h2, h2'⟩, ⟨h3, h3'⟩, ⟨h4, h4'⟩, ⟨h5, h5'⟩, h6⟩ := h
  unfold parseSettings
  simp only [e0, e1, e2, e4, e6, e8, e9]
  rw [if_pos (by omega)]
  have hzero : (c.zeroLearning.toNat == 1) = c.zeroLearning := by cases c.zeroLearning <;> rfl
  rw [hzero]

theorem bytes10 {p : List Byte} (h : p.length = 10) : ∃ b0 b1 b2 b3 b4 b5 b6 b7 b8 b9,
    p = [b0, b1, b2, b3, b4, b5, b6, b7, b8, b9] := by
  match p, h with
  | [b0, b1, b2, b3, b4, b5, b6, b7, b8, b9], _ => exact ⟨b0, b1, b2, b3, b4, b5, b6, b7, b8, b9, rfl⟩

/-- Bytes that pass the check of R180 are the layout of the settings they give. -/
theorem parseSettings_eq_some {d : List Byte} (hlen : d.length = 10) {c : Settings} (h : parseSettings d = some c) :
    c.InRange ∧ d = encodeSettings c := by
  obtain ⟨b0, b1, b2, b3, b4, b5, b6, b7, b8, b9, rfl⟩ := bytes10 hlen
  unfold parseSettings at h
  simp only [byteAt, natAt, List.getD_cons_zero, List.getD_cons_succ, List.drop_succ_cons, List.drop_zero,
    List.take_succ_cons, List.take_zero] at h
  split at h
  case isFalse => cases h
  rename_i hr
  cases h
  refine ⟨?_, ?_⟩
  · constructor <;> simp only <;> omega
  · have hone : ∀ b : Byte, b.toNat ≤ 1 → (if (b.toNat == 1) = true then 1 else 0) = b.toNat := by decide
    simp only [encodeSettings, hone b9 (by omega), leBytes_toNat, leBytes_two]
    rfl

section
variable {s : State} {c : Settings}

theorem takeSettingsPut_eq {p : List Byte} (hs : s.line.state ≠ .starting) (hlen : p.length = 10) :
    takeSettingsPut p s = match parseSettings p with
      | none => refuse .badRange s
      | some c => accept (replaceSettings c s) := by
  simp only [takeSettingsPut, if_neg (not_starting hs), hlen, ne_eq, not_true_eq_false, if_false] <;> rfl

theorem replaceSettings_sameTemp (h : c.workTemp = s.settings.workTemp) :
    replaceSettings c s = { s with settings := c, glue := { s.glue with target := retarget c s.glue.target } } := by
  simp only [replaceSettings, h, bne_self_eq_false, Bool.false_eq_true, if_false]

/-- The pot as a new working temperature leaves it before the band is tested (R79). -/
def newTempPot (c : Settings) (g : GlueUnit) : GlueUnit :=
  { g with target := retarget c g.target, cond := .notAtTemp, window := none }

theorem replaceSettings_newTemp (h : c.workTemp ≠ s.settings.workTemp) :
    replaceSettings c s = testBand { s with settings := c, glue := newTempPot c s.glue } := by
  have hb : (c.workTemp != s.settings.workTemp) = true := bne_iff_ne.mpr h
  simp only [replaceSettings, hb, if_true]
  rfl

/-- A hold at the line's own target leaves the pot alone. -/
theorem lineHold_glue (k : HoldCause) (h : s.glue.target = .working s.settings.workTemp) :
    (lineHold k s).glue = s.glue := by
  have hheld : ∀ l : Line, (enterHeld { s with line := l }).glue = s.glue := by
    intro l
    obtain ⟨x, hx⟩ := raiseState_host .held { s with
      line := { l with
        returnState := if (l.state == .draining || l.halt) = true then ReturnState.draining else .running
        standbyTimer := none, state := .held, halt := false, park := false
        lamps := lampsOf .held l.estopLatch, flashBase := s.clock }
      glue := glueFollow .held s.settings s.glue }
    refine (congrArg State.glue hx).trans ?_
    simp only [glueFollow, potTargetOf, PotTarget.isWorking, h, Bool.not_true, Bool.false_eq_true, if_false, if_true]
    rw [← h]
  unfold lineHold
  split
  · split
    · exact hheld _
    · rfl
  · split
    · exact hheld _
    · rfl
  · rfl
  · rfl

theorem lineOutOfBand_glue (h : s.glue.target = .working s.settings.workTemp) : (lineOutOfBand s).glue = s.glue := by
  unfold lineOutOfBand
  simp only
  split
  · obtain ⟨x, hx⟩ := raiseNotice_host .glueTemp 3 (lineHold .glueTemp s)
    rw [hx]
    exact lineHold_glue _ h
  · rfl

theorem lineOutOfBand_kept {t : State} (h : LineKept s t) : LineKept s (lineOutOfBand t) :=
  .ite (fun _ => raiseNotice_kept _ _ (lineHold_kept _ h)) fun _ => h

/-- Outside the states that take GLUE_TEMP the report has no effect (R110). -/
theorem lineOutOfBand_line (h₁ : s.line.state ≠ .running) (h₂ : s.line.state ≠ .draining) (h₃ : s.line.state ≠ .held) :
    (lineOutOfBand s).line = s.line := by
  unfold lineOutOfBand
  rw [if_neg]
  simp [h₁, h₂, h₃]

/-- The band's test sets the out-of-band condition of the pot and nothing else of it (R78). -/
theorem testBand_glue (h : ∀ w, s.glue.target = .working w → w = s.settings.workTemp) : (testBand s).glue =
    { s.glue with outOfBand := if s.glue.target.isWorking
        then outOfBandOf s.glue.reading s.settings.workTemp else s.glue.outOfBand } := by
  unfold testBand
  split
  · rename_i hw
    have htarget : s.glue.target = .working s.settings.workTemp := by
      cases ht : s.glue.target with
      | working w => rw [h w ht]
      | off => rw [ht] at hw; cases hw
      | standby w => rw [ht] at hw; cases hw
    simp only
    split
    · exact lineOutOfBand_glue htarget
    · rfl
  · rfl

theorem testBand_kept {t : State} (h : LineKept s t) : LineKept s (testBand t) := by
  have k : ∀ b, LineKept s { t with glue := { t.glue with outOfBand := b } } := fun b =>
    h.next ⟨rfl, rfl, rfl, rfl, rfl, rfl, rfl, rfl⟩ ⟨rfl, rfl, rfl, rfl, rfl, rfl⟩ rfl rfl
  exact .ite (fun _ => .ite (fun _ => lineOutOfBand_kept (k _)) fun _ => k _) fun _ => h

theorem testBand_line (h₁ : s.line.state ≠ .running) (h₂ : s.line.state ≠ .draining) (h₃ : s.line.state ≠ .held) :
    (testBand s).line = s.line := by
  unfold testBand
  split
  · simp only
    split
    · exact lineOutOfBand_line h₁ h₂ h₃
    · rfl
  · rfl

theorem retarget_working {w : Nat} {x : PotTarget} (h : retarget c x = .working w) : w = c.workTemp := by
  cases x <;> cases h
  rfl

end

/-- Settles O11: the settings and the target move together; the band is tested only when the working temperature
changes, and a hold in a moving line sets the target it already has. -/
theorem settingsAndFamilyRequests : Obligations.SettingsAndFamilyRequests := by
  unfold Obligations.SettingsAndFamilyRequests
  refine ⟨⟨?put, ?range, ?get⟩, ?change⟩
  case put =>
    intro g c s h hs hc target
    have hparse := parseSettings_encodeSettings hc []
    rw [List.append_nil] at hparse
    have htarget : retarget c s.glue.target = target := rfl
    have htake : requestAct (.settingsPut g (encodeSettings c)) (begun s) = accept (replaceSettings c (begun s)) := by
      refine (takeSettingsPut_eq (s := begun s) hs (encodeSettings_length c)).trans ?_
      rw [hparse]
    refine ⟨fun hsame => ?_, fun hnew => ?_⟩
    · rw [replaceSettings_sameTemp (s := begun s) hsame] at htake
      exact exec_of_taken rfl h htake
    · rw [replaceSettings_newTemp (s := begun s) hnew] at htake
      have hpot := testBand_glue (s := { begun s with settings := c, glue := newTempPot c (begun s).glue })
        fun w hw => retarget_working hw
      generalize hu : testBand { begun s with settings := c, glue := newTempPot c (begun s).glue } = u at htake hpot
      obtain ⟨x, hx⟩ := respond_host 0x13 g .ok [] u
      have hglue : (respond 0x13 g .ok [] u).glue = u.glue := by rw [hx]
      have hkept : LineKept { s with settings := c } u := by
        rw [← hu]
        exact testBand_kept ⟨⟨rfl, rfl, rfl, rfl, rfl, rfl, rfl, rfl⟩, ⟨rfl, rfl, rfl, rfl, rfl, rfl⟩, .ofEq rfl, rfl⟩
      refine ⟨_, exec_of_taken rfl h htake, respond_answered _ _ _ _ _, respond_kept _ _ _ _ hkept, ?_⟩
      rw [hglue, hpot]
      refine ⟨htarget, rfl, rfl, rfl, fun hw => if_pos hw, fun h₁ h₂ h₃ => ?_⟩
      rw [hx]
      show u.line = s.line
      rw [← hu]
      exact testBand_line h₁ h₂ h₃
  case range =>
    intro g p s h hs hlen
    have htake := takeSettingsPut_eq (s := begun s) hs hlen
    cases hparse : parseSettings p with
    | none =>
      rw [hparse] at htake
      exact .inr (exec_of_refused rfl h htake)
    | some c => exact .inl ⟨c, parseSettings_eq_some hlen hparse⟩
  case get =>
    intro g s h hs hc c
    have htake : requestAct (.settingsGet g []) (begun s)
        = (begun s, .ok, encodeSettings c ++ leBytes 1 s.glue.family.code) :=
      (if_neg (not_starting (s := begun s) hs)).trans (if_neg (by simp))
    obtain ⟨e0, e1, e2, e4, e6, e8, e9⟩ := encodeSettings_fields hc (leBytes 1 s.glue.family.code)
    refine ⟨_, exec_of_taken rfl h htake, by simp [encodeSettings_length], e0, e1, e2, e4, e6, e8, e9, ?_⟩
    have hfam := s.glue.family.code_lt
    rw [byteAt_append_of_le (by simp [encodeSettings_length]), encodeSettings_length, Nat.sub_self, byteAt_last_field,
      Nat.mod_eq_of_lt (by omega)]
    rfl
  case change =>
    intro g b s h hs
    have htake : requestAct (.glueChange g [b]) (begun s) =
        if 1 < b.toNat then refuse .badRange (begun s)
        else if s.line.state ≠ .parked ∨ s.tickets.queue ≠ [] then refuse .wrongState (begun s)
        else accept { begun s with glue := { s.glue with family := if b.toNat = 0 then .hotmelt else .pur } } :=
      (if_neg (not_starting (s := begun s) hs)).trans (if_neg (by simp))
    refine ⟨fun hb => exec_of_refused rfl h (htake.trans (if_pos hb)), fun hb => ⟨fun hbusy => ?_, fun hl hq => ?_⟩⟩
    · exact exec_of_refused rfl h (htake.trans ((if_neg hb.not_gt).trans (if_pos hbusy)))
    · have hzero : b.toNat = 0 ↔ b = 0 := by
        rw [← BitVec.toNat_inj]
        rfl
      rw [if_neg hb.not_gt, if_neg (by simp [hl, hq]), if_congr hzero rfl rfl] at htake
      exact exec_of_taken rfl h htake

end Sys2Proof.Machine

/-! PROOFS. Reading the part: the node table, the contact records, STATUS, TRACE and the done record. -/

namespace Sys2Proof.Machine

/-! ## Tables of records of one length -/

section
variable {α : Type} {f : α → List Byte} {k : Nat}

theorem drop_flatMap_of_length (hk : ∀ a, (f a).length = k) (l : List α) (i : Nat) :
    (l.flatMap f).drop (k * i) = (l.drop i).flatMap f := by
  induction i generalizing l with
  | zero => simp
  | succ i ih =>
    cases l with
    | nil => simp
    | cons a l =>
      rw [List.flatMap_cons, Nat.mul_succ, Nat.add_comm, List.drop_append, List.drop_eq_nil_of_le (by rw [hk]; omega), hk,
        Nat.add_sub_cancel_left, List.nil_append, ih]
      rfl

/-- Byte `j` of record `i`. -/
theorem byteAt_flatMap (hk : ∀ a, (f a).length = k) {l : List α} {i j : Nat} (hi : i < l.length) (hj : j < k) :
    byteAt (l.flatMap f) (k * i + j) = byteAt (f l[i]) j := by
  have hdrop : byteAt (l.flatMap f) (k * i + j) = byteAt ((l.flatMap f).drop (k * i)) j := by
    simp [byteAt, List.getD_eq_getElem?_getD, List.getElem?_drop]
  rw [hdrop, drop_flatMap_of_length hk, List.drop_eq_getElem_cons hi, List.flatMap_cons, byteAt, byteAt,
    List.getD_append _ _ _ _ (by rw [hk]; exact hj)]

theorem flatMap_length (hk : ∀ a, (f a).length = k) (l : List α) : (l.flatMap f).length = k * l.length := by
  induction l with
  | nil => simp
  | cons a l ih => rw [List.flatMap_cons, List.length_append, hk, ih, List.length_cons]; ring

end

/-! ## NODES and CONTACTS (R164, R170) -/

theorem allNodes_get : ∀ i : Fin 9, nodeIdx allNodes[i] = i ∧ nodeAddr allNodes[i] = i.val + 1 := by decide

theorem NodeState.code_lt (m : NodeState) : m.code ≤ 2 := by cases m <;> decide

theorem nodeBytes_length (s : State) (n : NodeId) : (nodeBytes s n).length = 4 := by simp [nodeBytes]

/-- Settles O12: a table's reply is its records' bytes one after another. -/
theorem nodesAndContactsShowTables : Obligations.NodesAndContactsShowTables := by
  unfold Obligations.NodesAndContactsShowTables
  refine ⟨fun g p s h => ⟨fun hs => ?_, fun hs => ⟨fun hlen => ?_, ?nodes⟩⟩,
    fun g p s h => ⟨fun hs => ?_, fun hs => ⟨fun hlen => ?_, ?contacts⟩⟩⟩
  · exact exec_of_refused rfl h (requestAct_starting (c := .nodes g p) rfl (by decide) hs)
  · exact exec_of_refused rfl h (requestAct_badFormat (c := .nodes g p) rfl rfl (mt List.length_eq_zero_iff.mp hlen) hs)
  case nodes =>
    rintro rfl hbounds
    have htake : requestAct (.nodes g []) (begun s) = (begun s, .ok, allNodes.flatMap (nodeBytes (begun s))) :=
      (if_neg (not_starting (s := begun s) hs)).trans (if_neg (by simp))
    refine ⟨_, exec_of_taken rfl h htake, flatMap_length (nodeBytes_length _) _, fun i => ?_⟩
    have hbyte : ∀ j, j < 4 → byteAt (allNodes.flatMap (nodeBytes (begun s))) (4 * i.val + j)
        = byteAt (nodeBytes (begun s) allNodes[i]) j := fun j hj => byteAt_flatMap (nodeBytes_length _) i.isLt hj
    obtain ⟨hidx, haddr⟩ := allNodes_get i
    have hrec : nodeRec (begun s) allNodes[i] = s.bus.nodes[i] := congrArg (s.bus.nodes[·]) hidx
    obtain ⟨hm, hr⟩ := hbounds i
    have hstate := s.bus.nodes[i].state.code_lt
    have hi := i.isLt
    refine ⟨(hbyte 0 (by decide)).trans ?_, (hbyte 1 (by decide)).trans ?_, (hbyte 2 (by decide)).trans ?_,
      (hbyte 3 (by decide)).trans ?_⟩
    all_goals simp only [nodeBytes, hrec, haddr, List.append_assoc, byteAt_field_of_le, byteAt_field, byteAt_last_field,
      Nat.reduceLeDiff, Nat.reduceSub]
    · omega
    · exact Nat.mod_eq_of_lt (by omega)
    · omega
    · omega
  · exact exec_of_refused rfl h (requestAct_starting (c := .contacts g p) rfl (by decide) hs)
  · exact exec_of_refused rfl h (requestAct_badFormat (c := .contacts g p) rfl rfl (mt List.length_eq_zero_iff.mp hlen) hs)
  case contacts =>
    rintro rfl hbounds
    have htake : requestAct (.contacts g []) (begun s) = (begun s, .ok, s.scan.contacts.toList.map contactByte) :=
      (if_neg (not_starting (s := begun s) hs)).trans (if_neg (by simp))
    refine ⟨_, exec_of_taken rfl h htake, by simp, fun i => ?_⟩
    intro k
    have hcount : k.count ≤ 2 := hbounds i
    have hbyte : byteAt (s.scan.contacts.toList.map contactByte) i.val = (contactByte k).toNat := by
      simp [byteAt, List.getD_eq_getElem?_getD, k]
    rw [hbyte, contactByte, BitVec.toNat_ofNat]
    exact Nat.mod_eq_of_lt (by split_ifs <;> omega)

/-! ## STATUS (R178) -/

theorem loadedClamps_le (s : State) : loadedClamps s ≤ 20 :=
  List.countP_le_length.trans_eq (Vector.length_toList (xs := s.car.clamps))

theorem clampAt_known {s : State} {p φ : Fin 20} (hk : s.car.phaseKnown = true) (hφ : s.car.phase = some φ) :
    clampAt s p = some (p - φ) := by simp [clampAt, hk, hφ]

theorem clampAt_unknown {s : State} {p : Fin 20} (hk : s.car.phaseKnown = false) : clampAt s p = none := by
  simp [clampAt, hk]

/-- Byte 6 of STATUS: the phase, 255 while it is unknown (R178). -/
def phaseByte (s : State) : Nat :=
  match clampAt s 0, s.car.phase with
  | some _, some φ => φ.val
  | _, _ => 255

theorem phaseByte_le (s : State) : phaseByte s ≤ 255 := by
  unfold phaseByte
  split
  · omega
  · exact le_rfl

theorem heldBook_length (s : State) : (heldBook s).toList.length = if heldBook s = none then 0 else 1 := by
  cases heldBook s <;> rfl

theorem LineState.code_lt (l : LineState) : l.code ≤ 7 := by cases l <;> decide

theorem strapCode_lt (l : StrapLevel) : strapCode l ≤ 3 := by cases l <;> decide

/-- The position's number as the reply shows it, 255 while the phase is unknown (R179). -/
def positionByte (s : State) (c : Fin 20) : Nat :=
  match positionOf s c with
  | some p => p.val
  | none => 255

/-- Settles O13: the 24 bytes are read field by field, each within its width. -/
theorem statusShowsPart : Obligations.StatusShowsPart := by
  unfold Obligations.StatusShowsPart
  intro g p s h
  refine ⟨fun hp => exec_of_refused rfl h (if_pos hp), ?_⟩
  rintro rfl htemp htarget hqueue hcover hcool hdone hdiv
  have htake : requestAct (.status g []) (begun s) = (begun s, .ok, statusBytes s) := rfl
  have hline := s.line.state.code_lt
  have hreading : s.glue.reading.getD 0xFFFF < 65536 := by
    cases hr : s.glue.reading with
    | none => decide
    | some t => exact lt_of_le_of_lt (htemp t hr) (by decide)
  have htarget' : s.glue.target.temp ≤ 200 := by
    cases ht : s.glue.target with
    | off => exact Nat.zero_le _
    | working w => exact htarget w (.inl ht)
    | standby w => exact htarget w (.inr ht)
  have hclamps := loadedClamps_le s
  have hheld := heldBook_length s
  have hheld' : (if heldBook s = none then 0 else 1) ≤ 1 := by split <;> decide
  have hloaded := s.dlv.loaded.isLt
  have hcollected := s.dlv.collected.isLt
  have hA := strapCode_lt s.pins.strapA
  have hB := strapCode_lt s.pins.strapB
  have hbytes : ∀ φ : Nat, phaseByte s = φ → byteAt (statusBytes s) 6 = φ := by
    rintro φ rfl
    simp only [statusBytes, List.append_assoc, byteAt_field_of_le, byteAt_field, Nat.reduceLeDiff, Nat.reduceSub]
    exact Nat.mod_eq_of_lt (Nat.lt_succ_of_le (phaseByte_le s))
  refine ⟨_, exec_of_taken rfl h htake, by simp [statusBytes], ?_, ?_, ?_, ?_, fun φ hk hφ => hbytes _ ?_,
    fun hk => hbytes _ ?_, ?_⟩
  case refine_5 => simp [phaseByte, clampAt_known hk hφ, hφ]
  case refine_6 => simp [phaseByte, clampAt_unknown hk]
  all_goals simp only [statusBytes, List.append_assoc, byteAt_field_of_le, byteAt_field, natAt_field_of_le, natAt_field,
    byteAt_last_field, Nat.reduceLeDiff, Nat.reduceSub, Nat.reducePow]
  · exact Nat.mod_eq_of_lt (by omega)
  · cases s.line.cause with
    | none => rfl
    | some c => cases c <;> rfl
  · rw [Nat.mod_eq_of_lt hreading]
    cases s.glue.reading <;> rfl
  · rw [Nat.mod_eq_of_lt (by omega)]
    cases s.glue.target <;> rfl
  · rw [hheld]
    refine ⟨by omega, by omega, by omega, by omega, by omega, by omega, by omega, by omega, by omega,
      Nat.mod_eq_of_lt (by omega), Nat.mod_eq_of_lt (by omega)⟩

/-! ## TRACE (R179) -/

section
variable {id : TicketId} {l : List TicketId}

theorem placeOf_eq_none (h : id ∉ l) : placeOf id l = none := by
  rw [placeOf, List.idxOf?_eq_none_iff.mpr h]
  rfl

theorem placeOf_eq_some (hl : l.Nodup) {n : Nat} (h : l[n]? = some id) : placeOf id l = some (n + 1) := by
  obtain ⟨hn, hid⟩ := List.getElem?_eq_some_iff.mp h
  rw [placeOf, List.idxOf?_eq_some_iff.mpr ⟨hn, hid, fun j hj e => ?_⟩]
  · rfl
  · have := (hl.getElem_inj_iff (hi := hj.trans hn) (hj := hn)).mp (e.trans hid.symm)
    omega

end

section
variable {s : State} {id : TicketId}

theorem mem_clampIds {c : Fin 20} {b : Book} (hb : bookIn s c = some b) : b.ticket.id ∈ clampIds s := by
  rw [(clampIds_perm c s).mem_iff, hb]
  exact List.mem_append_left _ (List.mem_singleton_self _)

/-- With unique ids no two clamps hold the same id. -/
theorem clamp_eq_of_id (h : (clampIds s).Nodup) {c d : Fin 20} {b x : Book} (hb : bookIn s c = some b)
    (hx : bookIn s d = some x) (hid : x.ticket.id = b.ticket.id) : d = c := by
  by_contra hne
  have hmem := mem_clampIds (s := setBook c none s) (c := d) (b := x) (by rw [bookIn_setBook, if_neg hne, hx])
  have hnodup := (clampIds_emptied hb).nodup_iff.mp h
  exact (List.nodup_cons.mp hnodup).1 (hid ▸ hmem)

/-- The clamp's book has the id. -/
def holdsId (id : TicketId) (s : State) (c : Fin 20) : Bool :=
  match bookIn s c with
  | some b => b.ticket.id == id
  | none => false

theorem clampOf_def : clampOf id s = (List.finRange 20).find? (holdsId id s) := rfl

theorem holdsId_iff {c : Fin 20} : holdsId id s c = true ↔ ∃ b, bookIn s c = some b ∧ b.ticket.id = id := by
  unfold holdsId
  cases bookIn s c with
  | none => simp
  | some b => simp

theorem clampOf_eq_none (h : id ∉ clampIds s) : clampOf id s = none := by
  rw [clampOf_def, List.find?_eq_none]
  intro c _ hc
  obtain ⟨b, hb, rfl⟩ := holdsId_iff.mp hc
  exact h (mem_clampIds hb)

theorem clampOf_eq_some (hn : (clampIds s).Nodup) {c : Fin 20} {b : Book} (hb : bookIn s c = some b)
    (hid : b.ticket.id = id) : clampOf id s = some c := by
  rw [clampOf_def]
  cases hfind : (List.finRange 20).find? (holdsId id s) with
  | none => exact absurd (holdsId_iff.mpr ⟨b, hb, hid⟩) (List.find?_eq_none.mp hfind c (List.mem_finRange c))
  | some d =>
    obtain ⟨x, hx, hxid⟩ := holdsId_iff.mp (List.find?_some hfind)
    rw [clamp_eq_of_id hn hb hx (hxid.trans hid.symm)]

theorem traceBytes_queue {n : Nat} (h : placeOf id (queueIds s) = some n) :
    traceBytes id s = some (traceRow (if reservedHead id s then 1 else 0) n 255 255) := by
  simp only [traceBytes, h]

theorem traceBytes_clamp (h : id ∉ queueIds s) {c : Fin 20} (hc : clampOf id s = some c) :
    traceBytes id s = some (traceRow 2 (positionByte s c) c.val 255) := by
  simp only [traceBytes, placeOf_eq_none h, hc]
  rfl

theorem traceBytes_later (h₁ : id ∉ queueIds s) (h₂ : id ∉ clampIds s) : traceBytes id s =
    match placeOf id (s.dlv.cooling.map (·.ticket.id)) with
    | some n => some (traceRow 3 n 255 255)
    | none => if id ∈ trimIds s then some (traceRow 4 255 255 s.trim.state.code)
      else (placeOf id (s.dlv.done.map (·.ticket.id))).map fun n => traceRow 5 n 255 255 := by
  simp only [traceBytes, placeOf_eq_none h₁, clampOf_eq_none h₂] <;> rfl

theorem takeTrace_eq (hs : s.line.state ≠ .starting) : takeTrace (leBytes 4 id.toNat) s =
    if id = 0 then refuse .notFound s
    else match traceBytes id s with
      | some data => (s, .ok, data)
      | none => refuse .notFound s := by
  simp only [takeTrace, if_neg (not_starting hs), leBytes_length, ne_eq, not_true_eq_false, if_false,
    requestId_leBytes] <;> rfl

end

theorem traceRow_eq (a b c d : Nat) :
    traceRow a b c d = [BitVec.ofNat 8 a, BitVec.ofNat 8 b, BitVec.ofNat 8 c, BitVec.ofNat 8 d] := rfl

/-- A reserved head is the first of the queue, and with unique ids the only one of its id. -/
theorem reservedHead_iff {s : State} {id : TicketId} {n : Nat} (hq : (queueIds s).Nodup)
    (hget : (queueIds s)[n]? = some id) : reservedHead id s = true ↔ s.tickets.reserved = true ∧ n = 0 := by
  unfold reservedHead queueIds at *
  cases hl : s.tickets.queue with
  | nil => simp [hl] at hget
  | cons t l =>
    rw [hl, List.map_cons] at hget hq
    cases n with
    | zero =>
      have ht : t.id = id := by simpa using hget
      simp [ht]
    | succ n =>
      have hmem : id ∈ l.map (·.id) := List.mem_of_getElem? (by simpa using hget)
      have ht : t.id ≠ id := fun e => (List.nodup_cons.mp hq).1 (e ▸ hmem)
      simp [ht]

/-- Settles O14: the ids are unique, so the holders before the one that has the id do not have it. -/
theorem traceFindsHolder : Obligations.TraceFindsHolder := by
  unfold Obligations.TraceFindsHolder
  intro g id s h hs hids answers row
  have hfound : ∀ {d}, traceBytes id s = some d → id ∈ heldIds s → answers d := by
    intro d hd hheld
    refine exec_of_taken (c := .trace g (leBytes 4 id.toNat)) rfl h ((takeTrace_eq (s := begun s) hs).trans ?_)
    have h0 : id ≠ 0 := by
      rintro rfl
      exact hids.2 hheld
    rw [if_neg h0, show traceBytes id (begun s) = _ from hd]
  have hnodup := hids.1
  have hheld : ∀ i, i ∈ heldIds s ↔ i ∈ queueIds s ∨ i ∈ clampIds s ∨ i ∈ s.dlv.cooling.map (·.ticket.id)
      ∨ i ∈ trimIds s ∨ i ∈ s.dlv.done.map (·.ticket.id) := by
    intro i
    simp only [heldIds, List.mem_append, or_assoc]
  simp only [heldIds, List.append_assoc] at hnodup
  obtain ⟨hq, hrest, hqueue⟩ := List.nodup_append.mp hnodup
  obtain ⟨hc, hrest₂, hclamp⟩ := List.nodup_append.mp hrest
  obtain ⟨hcool, hrest₃, hcooling⟩ := List.nodup_append.mp hrest₂
  obtain ⟨-, hdone, htrim⟩ := List.nodup_append.mp hrest₃
  simp only [List.mem_append] at hqueue hclamp hcooling
  refine ⟨fun hnone => ?none, fun n t ht hid => ?queue, fun c b hb hid => ?clamp, fun n b hb hid => ?cooling,
    fun b hb hid => ?trim, fun n b hb hid => ?done⟩
  case none =>
    refine exec_of_refused (c := .trace g (leBytes 4 id.toNat)) rfl h ((takeTrace_eq (s := begun s) hs).trans ?_)
    by_cases h0 : id = 0
    · rw [if_pos h0]
    · have hout := hnone.resolve_left h0
      simp only [hheld, not_or] at hout
      obtain ⟨h₁, h₂, h₃, h₄, h₅⟩ := hout
      have htrace : traceBytes id (begun s) = none := by
        rw [show traceBytes id (begun s) = traceBytes id s from rfl, traceBytes_later h₁ h₂, placeOf_eq_none h₃, if_neg h₄,
          placeOf_eq_none h₅]
        rfl
      rw [if_neg h0, htrace]
  case queue =>
    have hget : (queueIds s)[n]? = some id := by simp [queueIds, ht, hid]
    have hmem : id ∈ queueIds s := List.mem_of_getElem? hget
    have := hfound (traceBytes_queue (placeOf_eq_some hq hget)) ((hheld id).mpr (.inl hmem))
    rw [traceRow_eq] at this
    by_cases hr : s.tickets.reserved = true ∧ n = 0
    · rw [if_pos hr]
      rwa [if_pos ((reservedHead_iff hq hget).mpr hr), hr.2] at this
    · rw [if_neg hr]
      rwa [if_neg (mt (reservedHead_iff hq hget).mp hr)] at this
  case clamp =>
    have hmem : id ∈ clampIds s := hid ▸ mem_clampIds hb
    have hnq : id ∉ queueIds s := fun hin => hqueue id hin id (.inl hmem) rfl
    have := hfound (traceBytes_clamp hnq (clampOf_eq_some hc hb hid)) ((hheld id).mpr (.inr (.inl hmem)))
    rw [traceRow_eq, positionByte] at this
    refine ⟨fun hk => ?_, fun φ hk hφ => ?_⟩
    · rwa [positionOf_unknown hk] at this
    · rwa [positionOf_known hk hφ] at this
  case cooling =>
    have hget : (s.dlv.cooling.map (·.ticket.id))[n]? = some id := by simp [hb, hid]
    have hmem : id ∈ s.dlv.cooling.map (·.ticket.id) := List.mem_of_getElem? hget
    refine hfound ?_ ((hheld id).mpr (.inr (.inr (.inl hmem))))
    rw [traceBytes_later (fun hin => hqueue id hin id (.inr (.inl hmem)) rfl)
      (fun hin => hclamp id hin id (.inl hmem) rfl), placeOf_eq_some hcool hget]
    rfl
  case trim =>
    have hmem : id ∈ trimIds s := by simp [trimIds, hb, hid]
    refine hfound ?_ ((hheld id).mpr (.inr (.inr (.inr (.inl hmem)))))
    rw [traceBytes_later (fun hin => hqueue id hin id (.inr (.inr (.inl hmem))) rfl)
      (fun hin => hclamp id hin id (.inr (.inl hmem)) rfl),
      placeOf_eq_none (fun hin => hcooling id hin id (.inl hmem) rfl), if_pos hmem]
    rfl
  case done =>
    have hget : (s.dlv.done.map (·.ticket.id))[n]? = some id := by simp [hb, hid]
    have hmem : id ∈ s.dlv.done.map (·.ticket.id) := List.mem_of_getElem? hget
    refine hfound ?_ ((hheld id).mpr (.inr (.inr (.inr (.inr hmem)))))
    rw [traceBytes_later (fun hin => hqueue id hin id (.inr (.inr (.inr hmem))) rfl)
      (fun hin => hclamp id hin id (.inr (.inr hmem)) rfl),
      placeOf_eq_none (fun hin => hcooling id hin id (.inr hmem) rfl), if_neg (fun hin => htrim id hin id hmem rfl),
      placeOf_eq_some hdone hget]
    rfl

/-! ## The done record (7.4) -/

theorem scoreBytes_length (b : Book) : (scoreBytes b).length = 10 := by
  unfold scoreBytes
  split <;> simp

theorem encodeDone_length (b : Book) : (encodeDone b).length = 59 := by
  unfold encodeDone
  simp only [List.length_append, leBytes_length]
  rw [scoreBytes_length]

/-- The fields behind the score bytes are read from the rest. -/
theorem natAt_scoreBytes_of_le {b : Book} {rest : List Byte} {i w : Nat} (h : 10 ≤ i) :
    natAt (scoreBytes b ++ rest) i w = natAt rest (i - 10) w := by
  rw [natAt_append_of_le (by rw [scoreBytes_length]; exact h), scoreBytes_length]

theorem byteAt_scoreBytes_of_le {b : Book} {rest : List Byte} {i : Nat} (h : 10 ≤ i) :
    byteAt (scoreBytes b ++ rest) i = byteAt rest (i - 10) := by
  rw [byteAt_append_of_le (by rw [scoreBytes_length]; exact h), scoreBytes_length]

theorem testBit_zero_bool (a : Bool) (n : Nat) : (a.toNat + 2 * n).testBit 0 = a := by
  cases a <;> simp [Nat.testBit_zero]

theorem testBit_succ_bool (a : Bool) (n i : Nat) : (a.toNat + 2 * n).testBit (i + 1) = n.testBit i := by
  have ha := a.toNat_le
  rw [Nat.testBit_succ]
  congr 1
  omega

/-- Byte 0 as its bits, the lowest first. -/
theorem presenceByte_eq (b : Book) : presenceByte b = b.setpoints.isSome.toNat
    + 2 * ((b.setpoints.bind (·.outer)).isSome.toNat + 2 * (b.glueTime.isSome.toNat + 2 * (b.coverTime.isSome.toNat
    + 2 * (b.coolEntry.isSome.toNat + 2 * (b.revibrate.isSome.toNat + 2 * (b.settleTime.isSome.toNat + 2 * 0)))))) := by
  have hbit : ∀ (a : Bool) (k : Nat), (if a = true then k else 0) = k * a.toNat := by
    intro a k
    cases a <;> simp
  simp only [presenceByte, hbit]
  omega

/-- The presence marks are the bits of byte 0. -/
theorem presenceByte_testBit (b : Book) : presenceByte b < 256
    ∧ (presenceByte b).testBit 0 = b.setpoints.isSome
    ∧ (presenceByte b).testBit 1 = (b.setpoints.bind (·.outer)).isSome
    ∧ (presenceByte b).testBit 2 = b.glueTime.isSome ∧ (presenceByte b).testBit 3 = b.coverTime.isSome
    ∧ (presenceByte b).testBit 4 = b.coolEntry.isSome ∧ (presenceByte b).testBit 5 = b.revibrate.isSome
    ∧ (presenceByte b).testBit 6 = b.settleTime.isSome ∧ (presenceByte b).testBit 7 = false := by
  have hle := Bool.toNat_le
  have h₁ := hle b.setpoints.isSome
  have h₂ := hle (b.setpoints.bind (·.outer)).isSome
  have h₃ := hle b.glueTime.isSome
  have h₄ := hle b.coverTime.isSome
  have h₅ := hle b.coolEntry.isSome
  have h₆ := hle b.revibrate.isSome
  have h₇ := hle b.settleTime.isSome
  rw [presenceByte_eq]
  simp only [testBit_succ_bool, testBit_zero_bool, Nat.zero_testBit, and_true]
  omega

theorem optTime_eq (t : Option Time) : optTime t = t.elim 0 BitVec.toNat := by cases t <;> rfl

theorem optTime_lt (t : Option Time) : optTime t < 2 ^ 32 := by
  cases t with
  | none => decide
  | some x => exact x.isLt

theorem resultByte_lt (b : Book) : resultByte b ≤ 8 := by
  unfold resultByte
  cases b.reason with
  | none => exact (ite_le_sup _ _ _).trans (by decide)
  | some r => cases r <;> simp

/-- Each field of a done record, as written. -/
theorem encodeDone_fields (b : Book) :
    let d := encodeDone b
    let f := b.snapshot
    byteAt d 0 = presenceByte b ∧ natAt d 1 4 = b.ticket.id.toNat ∧ byteAt d 5 = b.clamp.val
      ∧ natAt d 6 2 = b.jawGap.toNat ∧ natAt d 8 3 = ofSigned 24 b.measured
      ∧ byteAt d 11 = f.family.code * 3 + f.mode.code ∧ byteAt d 12 = (f.fixedStep + 16 * f.thinStep) % 256
      ∧ byteAt d 13 = (f.thickStep + 16 * f.baseStep) % 256 ∧ natAt d 14 2 = f.threshold % 65536
      ∧ byteAt d 16 = ((f.offset + 7).toNat + 16 * f.sideStep) % 256 ∧ byteAt d 17 = f.openTime % 256
      ∧ natAt d 18 2 = f.coolDwell % 65536 ∧ byteAt d 20 = stepByte b % 256
      ∧ (∀ i w, i + w ≤ 10 → natAt d (21 + i) w = natAt (scoreBytes b) i w)
      ∧ natAt d 31 4 = b.loadTime.toNat ∧ natAt d 35 4 = optTime b.glueTime ∧ natAt d 39 4 = optTime b.coverTime
      ∧ natAt d 43 4 = optTime b.releaseTime ∧ natAt d 47 4 = optTime b.coolEntry
      ∧ natAt d 51 2 = b.settleTime.getD 0 % 65536 ∧ byteAt d 53 = min 255 (b.revibrate.getD 0)
      ∧ byteAt d 54 = resultByte b ∧ natAt d 55 4 = optTime b.outTime := by
  have hfam := b.snapshot.family.code_lt
  have hmode := b.snapshot.mode.code_lt
  have hpres := (presenceByte_testBit b).1
  have hclamp := b.clamp.isLt
  have hresult := resultByte_lt b
  have hmeasured := ofSigned_lt 24 b.measured
  have hscore : ∀ (rest : List Byte) i w, i + w ≤ 10 → natAt (scoreBytes b ++ rest) i w = natAt (scoreBytes b) i w := by
    intro rest i w hw
    have hlen := scoreBytes_length b
    rw [natAt, natAt, List.drop_append_of_le_length (by omega), List.take_append_of_le_length (by simp; omega)]
  intro d f
  unfold d encodeDone
  simp only [List.append_assoc, byteAt_field_of_le, byteAt_field, natAt_field_of_le, natAt_field,
    natAt_last_field, byteAt_scoreBytes_of_le, natAt_scoreBytes_of_le, Nat.reduceLeDiff, Nat.reduceSub, Nat.reducePow]
  refine ⟨Nat.mod_eq_of_lt hpres, Nat.mod_eq_of_lt b.ticket.id.isLt, Nat.mod_eq_of_lt (by omega),
    Nat.mod_eq_of_lt b.jawGap.isLt, Nat.mod_eq_of_lt hmeasured, Nat.mod_eq_of_lt (by omega), rfl, rfl, rfl,
    rfl, rfl, rfl, trivial, fun i w hw => ?_, Nat.mod_eq_of_lt b.loadTime.isLt, Nat.mod_eq_of_lt (optTime_lt _),
    Nat.mod_eq_of_lt (optTime_lt _), Nat.mod_eq_of_lt (optTime_lt _), Nat.mod_eq_of_lt (optTime_lt _), trivial,
    Nat.mod_eq_of_lt (by omega), Nat.mod_eq_of_lt (by omega), Nat.mod_eq_of_lt (optTime_lt _)⟩
  rw [natAt_field_of_le (by omega), natAt_field_of_le (by omega), natAt_field_of_le (by omega),
    natAt_field_of_le (by omega), natAt_field_of_le (by omega), natAt_field_of_le (by omega),
    natAt_field_of_le (by omega), natAt_field_of_le (by omega), natAt_field_of_le (by omega),
    natAt_field_of_le (by omega), natAt_field_of_le (by omega), natAt_field_of_le (by omega),
    natAt_field_of_le (by omega), ← hscore _ i w hw]
  congr 1
  omega

theorem scoreBytes_none {b : Book} (h : b.setpoints = none) : scoreBytes b = leBytes 10 0 := by
  simp only [scoreBytes, h]

/-- The score bytes hold the spine width and the four scores, one absent as 0. -/
theorem scoreBytes_some {b : Book} {sp : Setpoints} (h : b.setpoints = some sp) : scoreBytes b =
    leBytes 2 sp.spineWidth.toNat ++ (leBytes 2 ((sp.outer.elim 0 (·.1)) / 10).toNat ++ (leBytes 2 (sp.s2 / 10).toNat
      ++ (leBytes 2 (sp.s3 / 10).toNat ++ leBytes 2 ((sp.outer.elim 0 (·.2)) / 10).toNat))) := by
  simp only [scoreBytes, h, List.append_assoc]
  cases sp.outer <;> rfl

/-- Settles O16: the layout is read field by field, each value within its width. -/
theorem doneRecordLayout : Obligations.DoneRecordLayout := by
  unfold Obligations.DoneRecordLayout
  intro b hlo hhi hp hsettle hsp d f
  obtain ⟨h1, h2, h3, h4, ⟨-, h5, -⟩, ⟨h6, h6'⟩, h7, ⟨-, h8⟩, -, h9⟩ := hp
  simp only at h1 h2 h3 h4 h5 h6 h6' h7 h8 h9
  obtain ⟨-, b0, b1, b2, b3, b4, b5, b6, b7⟩ := presenceByte_testBit b
  obtain ⟨e0, e1, e5, e6, e8, e11, e12, e13, e14, e16, e17, e18, e20, escore, e31, e35, e39, e43, e47, e51, e53, e54, e55⟩ :=
    encodeDone_fields b
  have hm : toSigned 24 (ofSigned 24 b.measured) = b.measured :=
    toSigned_ofSigned (by decide) (by norm_num; omega) (by norm_num; omega)
  have hsettle' : b.settleTime.getD 0 ≤ 65535 := by
    cases ht : b.settleTime with
    | none => exact Nat.zero_le _
    | some t => exact hsettle t ht
  rw [← e0] at b0 b1 b2 b3 b4 b5 b6 b7
  unfold d f
  refine ⟨encodeDone_length b, b0, b1, b2, b3, b4, b5, b6, b7, e1, e5, e6, e8.symm ▸ hm, e11, by omega, by omega,
    by omega, ?_, by omega, by omega, fun hnone => ?_, fun sp hsome => ?_, e31, optTime_eq _ ▸ e35, optTime_eq _ ▸ e39,
    optTime_eq _ ▸ e43, optTime_eq _ ▸ e47, by omega, e53, fun hr => ?_, fun r hr => ?_, optTime_eq _ ▸ e55⟩
  · omega
  · refine ⟨?_, ?_⟩
    · rw [e20, stepByte, hnone]
      rfl
    · rw [escore 0 10 (by decide), scoreBytes_none hnone, natAt_last_field]
      rfl
  · obtain ⟨hg, hw, hw', ht2, ht2', ht3, ht3', houter⟩ := hsp sp hsome
    have hscore := scoreBytes_some hsome
    have s21 := escore 0 2 (by decide)
    have s23 := escore 2 2 (by decide)
    have s25 := escore 4 2 (by decide)
    have s27 := escore 6 2 (by decide)
    have s29 := escore 8 2 (by decide)
    simp only [hscore, natAt_field, natAt_field_of_le, natAt_last_field, Nat.reduceLeDiff, Nat.reduceSub, Nat.reduceAdd,
      Nat.reducePow] at s21 s23 s25 s27 s29
    refine ⟨?_, by omega, by omega, by omega, fun hnone => ?_, fun s1 s4 ho => ?_⟩
    · rw [e20, stepByte, hsome]
      exact Nat.mod_eq_of_lt (by simp only; split_ifs <;> omega)
    · rw [hnone] at s23 s29
      exact ⟨s23, s29⟩
    · obtain ⟨h1, h1', h4, h4'⟩ := houter s1 s4 ho
      rw [ho] at s23 s29
      simp only [Option.elim_some] at s23 s29
      omega
  · rw [e54, resultByte, hr]
  · rw [e54, resultByte, hr]
    cases r <;> rfl

end Sys2Proof.Machine

/-! PROOFS. The host link: the overlap rule, the transmit line, the saving of the settings, and the resets. -/

namespace Sys2Proof.Machine

/-! ## The overlap rule (R175, R176) -/

/-- The commands that tell of a request's frame with a kind and a tag, but for a RESET. -/
inductive TellsRequest : Instr → Byte → Byte → Prop
  | own {c : Instr} {k g : Byte} (h : requestOf c = some (k, g)) : TellsRequest c k g
  | store (g : Byte) (p : List Byte) : TellsRequest (.store g p) 0x15 g
  | unknown (k g : Byte) (p : List Byte) (h : isRequestKind k = false) : TellsRequest (.unknownKind k g p) k g
  | overlapped (k g : Byte) (p : List Byte) (h : k ≠ 0x16) : TellsRequest (.overlappedRequest k g p) k g

theorem exec_unknownKind {k : Byte} (g : Byte) (p : List Byte) (h : isRequestKind k = false) (s : State) :
    exec (.unknownKind k g p) s = .next (arrives ⟨k, g, p⟩ (hostRequest k g takeUnknown) s) := by
  show Host.Outcome.next (if isRequestKind k = true then _ else _) = _
  rw [h, if_neg Bool.false_ne_true]

/-- Whatever its kind, a request that is overlapped is owed a BUSY or discarded. -/
theorem exec_overlapped {c : Instr} {k g : Byte} (h : TellsRequest c k g) {s : State} (hs : Hears s)
    (ho : overlapped s = true) : exec c s = .next (oweBusy k g (begun s)) := by
  cases h with
  | own h => rw [exec_request h, arrives_overlapped _ _ _ _ _ hs ho]
  | store g p =>
    show Host.Outcome.next (arrives ⟨kindStore, g, p⟩ (storeRequest g p) s) = _
    rw [arrives_heard _ _ _ hs, storeRequest, if_pos (show overlapped (clearOut s) = true from ho)]
    rfl
  | unknown k g p h => rw [exec_unknownKind g p h, arrives_overlapped _ _ _ _ _ hs ho]
  | overlapped k g p h =>
    show Host.Outcome.next (if overlapped s = true then _ else _) = _
    rw [if_pos ho, arrives_heard _ _ _ hs, overlappedRequest, if_neg (show k ≠ kindReset from h)]
    rfl

/-- With nothing to send the line stays as it is. -/
theorem txPump_none {s : State} (hn : nextFrame s.host = none) : txPump s = s := by
  unfold txPump
  split
  · next h => exact absurd (h.symm.trans hn) nofun
  · rfl

/-- A reply that comes to be owed behind a frame on the line, or behind a running save, waits there. -/
theorem owe_of_waits (k g : Byte) (r : Result) {s : State} (h : OwedWaits s.host) :
    owe k g r s = { s with host := { s.host with owed := s.host.owed ++ [⟨k, g, r⟩] } } := by
  obtain h | ⟨⟨k', g', hr⟩, hn, hl, hd, ht⟩ := h
  · obtain ⟨f, hf⟩ := Option.ne_none_iff_exists'.1 h
    exact txPump_busy _ f hf
  · have hnext : ∀ l, nextFrame { s.host with owed := l } = none := by
      intro l
      simp only [nextFrame, hr, nextReport, hn, hl, hd, ht]
    exact txPump_none (hnext _)

theorem oweBusy_of_room (k g : Byte) {s : State} (h : OwedWaits s.host) (hroom : busyOwed s.host < 8) :
    oweBusy k g s = { s with host := { s.host with owed := s.host.owed ++ [⟨k, g, .busy⟩] } } :=
  (if_pos hroom).trans (owe_of_waits k g .busy h)

theorem oweBusy_of_full (k g : Byte) {s : State} (h : 8 ≤ busyOwed s.host) : oweBusy k g s = s :=
  if_neg (not_lt.2 h)

/-- With the line free and nothing before it, the owed reply goes out at once. -/
theorem owe_of_free (k g : Byte) (r : Result) {s : State} (hr : s.host.request = none) (ho : s.host.owed = [])
    (ht : s.host.tx = none) :
    owe k g r s = { s with host := { s.host with tx := some ⟨replyKind k, g, leBytes 1 r.code⟩ } } := by
  simp [owe, txPump, nextFrame, hr, ho, ht]

theorem oweBusy_of_free (k g : Byte) {s : State} (hr : s.host.request = none) (ho : s.host.owed = [])
    (ht : s.host.tx = none) :
    oweBusy k g s = { s with host := { s.host with tx := some ⟨k ||| 0x80, g, [1]⟩ } } :=
  (if_pos (by rw [busyOwed, ho]; decide)).trans (owe_of_free k g .busy hr ho ht)

theorem isRequestKind_false {k : Byte} (h : k.toNat = 0 ∨ 0x16 < k.toNat) : isRequestKind k = false :=
  decide_eq_false (by omega)

/-- Settles O17: every request's command owes a BUSY under the overlap rule, and the BUSY waits or goes out. -/
theorem overlappedAndUnknownKinds : Obligations.OverlappedAndUnknownKinds := by
  unfold Obligations.OverlappedAndUnknownKinds
  refine ⟨?waits, ?free, ?unknown⟩
  case waits =>
    intro s hs ho hw owing busy
    have hbusy : ∀ {c k g}, TellsRequest c k g → busy c k g := by
      intro c k g h
      refine ⟨fun hroom => ?_, fun hfull => ?_⟩
      · rw [exec_overlapped h hs ho, oweBusy_of_room k g (s := begun s) hw hroom]
        rfl
      · rw [exec_overlapped h hs ho, oweBusy_of_full k g (s := begun s) hfull]
    exact ⟨fun c k g h => hbusy (.own h), fun g p => hbusy (.store g p), fun k g p h => hbusy (.unknown k g p h),
      fun k g p h => hbusy (.overlapped k g p h)⟩
  case free =>
    intro s hs hreset hr ho ht busy
    have hover : overlapped s = true := by simp [overlapped, hreset]
    have hbusy : ∀ {c k g}, TellsRequest c k g → busy c k g := by
      intro c k g h
      show exec c s = _
      rw [exec_overlapped h hs hover, oweBusy_of_free k g (s := begun s) hr ho ht]
    exact ⟨fun c k g h => hbusy (.own h), fun g p => hbusy (.store g p), fun k g p h => hbusy (.unknown k g p h),
      fun k g p h => hbusy (.overlapped k g p h)⟩
  case unknown =>
    intro k g p s hs hk
    rw [exec_unknownKind g p (isRequestKind_false hk), arrives_taken _ _ _ _ _ hs]
    rfl

/-! ## The transmit line (R182) -/

theorem exec_transmitFrameEnd {s : State} {f : HostFrame} (h : s.pins.inReset = false) (hf : s.host.tx = some f) :
    exec .transmitFrameEnd s = .next (txPump { clearOut s with host := { s.host with tx := none } }) := by
  show Host.Outcome.next (live frameEnd s) = _
  rw [live_next _ s h]
  simp only [frameEnd, clearOut, hf]

/-- A free line takes the next frame. -/
theorem txPump_next {s : State} {f : HostFrame} {h : HostLink} (ht : s.host.tx = none)
    (hn : nextFrame s.host = some (f, h)) : txPump s = { s with host := { h with tx := some f } } := by
  simp only [txPump, ht, hn]

/-- With no reply to send, the next frame is a report. -/
theorem nextFrame_report {h : HostLink}
    (hr : (h.request = none ∧ h.owed = []) ∨ ∃ k g, h.request = some ⟨k, g, none⟩) : nextFrame h = nextReport h := by
  obtain ⟨hr, ho⟩ | ⟨k, g, hr⟩ := hr
  · simp only [nextFrame, hr, ho]
  · simp only [nextFrame, hr]

/-- Settles O18: the freed line takes the frame that `nextFrame` chooses. -/
theorem transmitOrder : Obligations.TransmitOrder := by
  unfold Obligations.TransmitOrder
  intro s f hs hf h sends
  have hsends : ∀ x y, nextFrame h = some (x, y) → sends { y with tx := some x } := by
    intro x y hn
    show exec _ s = _
    rw [exec_transmitFrameEnd hs hf, txPump_next rfl hn]
  refine ⟨fun k g d hr => hsends _ { h with request := none } ?_, fun hr k g r l ho => hsends _ { h with owed := l } ?_,
    fun hr => ⟨fun n x hn => hsends _ { h with notice := none } ?_,
      fun hn l hl => hsends _ { h with stateRep := none } ?_,
      fun hn hl n hd => hsends _ { h with doneReady := none } ?_,
      fun hn hl hd n ht => hsends _ { h with ticketsLow := none } ?_, fun hn hl hd ht => ?_⟩⟩
  · simp only [nextFrame, hr, replyKind]
  · simp only [nextFrame, hr, ho, replyKind]
  · rw [nextFrame_report hr]
    simp only [nextReport, hn, reportFrame]
  · rw [nextFrame_report hr]
    simp only [nextReport, hn, hl, reportFrame]
  · rw [nextFrame_report hr]
    simp only [nextReport, hn, hl, hd, reportFrame]
  · rw [nextFrame_report hr]
    simp only [nextReport, hn, hl, hd, ht, reportFrame]
  · show exec _ s = _
    have hnone : nextFrame h = none := by
      rw [nextFrame_report hr]
      simp only [nextReport, hn, hl, hd, ht]
    rw [exec_transmitFrameEnd hs hf, txPump_none hnone]

/-! ## The store (R184) -/

theorem exec_saveEnd {s : State} {image : List Byte} (h : s.pins.inReset = false) (hs : s.store.saving = some image) :
    exec .saveEnd s = .next (txPump { clearOut s with store := ⟨image, false, none⟩, host := storeReply s.host }) := by
  show Host.Outcome.next (live saveEnded s) = _
  rw [live_next _ s h]
  simp only [saveEnded, clearOut, hs]

/-- Settles O20: the copy is kept beside the pending request, whose reply the save's end makes ready. -/
theorem storeSavesCopy : Obligations.StoreSavesCopy := by
  refine ⟨fun g s h hs => ?_, fun g image s h hs hr => ?_⟩
  · rw [exec_store g [] h, storeTaken, if_neg (not_starting (s := begun s) hs), if_neg (not_not_intro rfl)]
    rfl
  · have hready : { clearOut s with store := ⟨image, false, none⟩, host := storeReply s.host }
        = { clearOut s with store := ⟨image, false, none⟩
                            host := { s.host with request := some ⟨0x15, g, some (replyBytes .ok [])⟩ } } := by
      simp only [storeReply, hr, replyBytes, List.append_nil]
    obtain ⟨x, hx⟩ := txPump_host { clearOut s with
      store := ⟨image, false, none⟩
      host := { s.host with request := some ⟨0x15, g, some (replyBytes .ok [])⟩ } }
    have ha := respond_answered 0x15 g .ok [] { clearOut s with store := ⟨image, false, none⟩ }
    have hrespond : respond 0x15 g .ok [] { clearOut s with store := ⟨image, false, none⟩ }
        = { clearOut s with store := ⟨image, false, none⟩, host := x } := hx
    rw [hrespond] at ha
    refine ⟨x, ?_, ha⟩
    rw [exec_saveEnd h hs, hready]
    exact congrArg _ hx

end Sys2Proof.Machine

/-! PROOFS. The resets (R171 to R173, R185, R186). -/

namespace Sys2Proof.Machine

/-- Settles O23: each value is the one the definition gives. -/
theorem afterResetValues : Obligations.AfterResetValues := by
  intro a b x l s axis
  have hbook : ∀ c, bookIn s c = none := fun c => by
    simp [bookIn, s, State.afterReset, Carousel.afterReset, Clamp.empty]
  have hover : ∀ i : Fin 8, Carousel.afterReset.overruns[i] = 0 := by decide
  have hnodes : ∀ n, nodeRec s n = { NodeRec.afterReset with seq := (nodeRec s n).seq } := by
    intro n; cases n <;> rfl
  have hscan : ∀ i : Fin 64, s.scan.contacts[i] = ⟨none, false, 0, false⟩ := fun i => by
    simp [s, State.afterReset, Scanner.afterReset]
  refine ⟨rfl, rfl, hbook, rfl, rfl, rfl, rfl, rfl, rfl, rfl, hover, rfl, rfl, rfl, rfl, rfl, rfl, rfl, rfl, rfl, rfl,
    rfl, rfl, rfl, rfl, rfl, rfl, rfl, rfl, rfl, fun n => ?_, hscan, rfl, rfl, rfl, rfl, rfl, rfl, rfl, rfl, rfl⟩
  rw [hnodes n]
  exact ⟨rfl, rfl, rfl, rfl⟩

/-! ## RESET and the reset's begin (R185) -/

theorem exec_reset (g : Byte) (p : List Byte) {s : State} (h : Hears s) :
    exec (.reset g p) s = .next (resetRequest g p (clearOut s)) :=
  congrArg Host.Outcome.next (arrives_heard ⟨kindReset, g, p⟩ (resetRequest g p) s h)

/-- The reset begins once its reply has been sent whole, no reply is owed and no save runs. -/
def ResetReady (s : State) : Prop :=
  s.host.resetTaken = true ∧ s.host.request = none ∧ s.host.owed = []
    ∧ (∀ f, s.host.tx = some f → f.kind.toNat < 128) ∧ s.store.saving = none

theorem resetBegin_ready (low : Bool) {s : State} (h : ResetReady s) :
    resetBegin low s = afterReset s.pins.strapA s.pins.strapB low s.store s := by
  obtain ⟨ht, hr, ho, hx, hs⟩ := h
  unfold resetBegin
  cases htx : s.host.tx with
  | none => simp [ht, hr, ho, hs]
  | some f => simp [ht, hr, ho, hs, HostFrame.isReply, hx f htx]

theorem resetBegin_waits (low : Bool) {s : State} (h : ¬ResetReady s) : resetBegin low s = s := by
  refine if_neg fun hc => h ?_
  simp only [Bool.and_eq_true, Option.isNone_iff_eq_none, List.isEmpty_iff] at hc
  obtain ⟨⟨⟨⟨ht, hr⟩, ho⟩, hx⟩, hs⟩ := hc
  refine ⟨ht, hr, ho, fun f hf => ?_, hs⟩
  simpa [hf, HostFrame.isReply] using hx

/-- Settles O24: a RESET marks the reset taken, and the reset waits for what is to be sent and saved. -/
theorem resetRequestAndBegin : Obligations.ResetRequestAndBegin := by
  unfold Obligations.ResetRequestAndBegin
  refine ⟨fun g p s h => ?taken, fun g p s h ho hw => ?owed, ?begins⟩
  case taken =>
    have hover : overlapped s = false := h.2
    have hnot : s.host.resetTaken = false := by
      simp only [overlapped, Bool.or_eq_false_iff] at hover
      exact hover.2
    rw [exec_reset g p h.1, resetRequest, if_neg (by rw [show overlapped (clearOut s) = false from hover]; decide)]
    cases p with
    | nil =>
      rw [if_pos rfl, if_pos rfl, List.isEmpty_nil, Bool.or_true]
      rfl
    | cons b p =>
      rw [if_neg (List.cons_ne_nil b p), if_neg (List.cons_ne_nil b p), List.isEmpty_cons, Bool.or_false]
      rfl
  case owed =>
    rw [exec_reset g p h, resetRequest, if_pos (show overlapped (clearOut s) = true from ho)]
    exact congrArg _ (owe_of_waits _ g _ hw)
  case begins =>
    intro low s hs ready
    have hexec : exec (.resetBegin low) s = .next (resetBegin low (clearOut s)) :=
      congrArg _ (live_next (resetBegin low) s hs)
    refine ⟨fun h => ?_, fun h => ?_⟩
    · rw [hexec, resetBegin_waits low (s := clearOut s) h]
    · rw [hexec, resetBegin_ready low (s := clearOut s) h]
      rfl

/-! ## The reset line (R172, R173) -/

/-- In reset no command but the line's rise and a power-on acts. -/
theorem exec_inReset {c : Instr} {s : State} (h : s.pins.inReset = true) (hp : ∀ a b l, c ≠ .powerOnReset a b l)
    (hl : ∀ a b l, c ≠ .resetLineHigh a b l) : exec c s = .next s := by
  have hlive : ∀ f, Host.Outcome.next (live f s) = (.next s : Host.Outcome State Fault Refusal) :=
    fun f => congrArg _ (live_reset f s h)
  cases c
  case powerOnReset a b l => exact absurd rfl (hp a b l)
  case resetLineHigh a b l => exact absurd rfl (hl a b l)
  case resetLineLow => exact congrArg _ (if_pos h)
  case unknownKind k g p =>
    show Host.Outcome.next (ite _ _ _) = _
    split
    · exact hlive _
    · exact hlive _
  case overlappedRequest k g p =>
    show Host.Outcome.next (ite _ _ _) = _
    split
    · exact hlive _
    · exact hlive _
  all_goals exact hlive _

/-- Settles O25: the resets' commands, and what an e-stop input low at the end of a reset does. -/
theorem resetLineAndEstopAtReset : Obligations.ResetLineAndEstopAtReset := by
  unfold Obligations.ResetLineAndEstopAtReset
  refine ⟨?line, ?estop⟩
  case line =>
    intro a b low s x
    refine ⟨⟨rfl, fun h => ?_⟩, fun h => ⟨congrArg _ (if_pos h), fun c => exec_inReset h⟩, fun h =>
      congrArg _ (if_neg (by rw [h]; decide))⟩
    have hheld : ¬s.pins.inReset = true := by rw [h]; decide
    exact ⟨_, congrArg Host.Outcome.next (if_neg hheld), rfl, rfl, rfl, rfl, rfl, rfl, rfl, rfl, rfl, rfl⟩
  case estop =>
    exact fun a b x s => ⟨rfl, _, rfl, rfl, rfl, rfl, rfl, rfl, rfl, rfl, rfl, rfl, rfl, rfl⟩

end Sys2Proof.Machine

/-! PROOFS. The stored image and its load (R183, R186). -/

namespace Sys2Proof.Machine

/-! ## The CRC fills four bytes -/

theorem crc32Bit_lt {c : Nat} (h : c < 2 ^ 32) : crc32Bit c < 2 ^ 32 := by
  unfold crc32Bit
  split
  · exact Nat.xor_lt_two_pow (by omega) (by decide)
  · omega

theorem crc32Bits_lt (n : Nat) {c : Nat} (h : c < 2 ^ 32) : crc32Bit^[n] c < 2 ^ 32 := by
  induction n generalizing c with
  | zero => exact h
  | succ n ih => exact ih (crc32Bit_lt h)

theorem crc32_fold_lt (bs : List Byte) {c : Nat} (h : c < 2 ^ 32) :
    bs.foldl (fun c b => crc32Bit^[8] (c ^^^ b.toNat)) c < 2 ^ 32 := by
  induction bs generalizing c with
  | nil => exact h
  | cons b bs ih => exact ih (crc32Bits_lt 8 (Nat.xor_lt_two_pow h (b.isLt.trans (by decide))))

theorem crc32_lt (bs : List Byte) : crc32 bs < 2 ^ 32 :=
  Nat.xor_lt_two_pow (crc32_fold_lt bs (by decide)) (by decide)

/-! ## Reading behind a begun place -/

theorem natAt_add (d : List Byte) (i j w : Nat) : natAt d (i + j) w = natAt (d.drop i) j w := by
  simp [natAt, List.drop_drop]

theorem byteAt_add (d : List Byte) (i j : Nat) : byteAt d (i + j) = byteAt (d.drop i) j := by
  simp [byteAt, List.getD_eq_getElem?_getD]

/-- Behind the records before it stands record `i`, and then the rest. -/
theorem drop_records {α : Type} {f : α → List Byte} {k : Nat} (hk : ∀ a, (f a).length = k) {l : List α} {i : Nat}
    (hi : i < l.length) (rest : List Byte) :
    (l.flatMap f ++ rest).drop (k * i) = f l[i] ++ ((l.drop (i + 1)).flatMap f ++ rest) := by
  have hle : k * i ≤ (l.flatMap f).length := by
    rw [flatMap_length hk]
    exact Nat.mul_le_mul_left k hi.le
  rw [List.drop_append_of_le_length hle, drop_flatMap_of_length hk, List.drop_eq_getElem_cons hi, List.flatMap_cons,
    List.append_assoc]

/-! ## The image -/

/-- The three bytes of a clamp in an image (R183). -/
def clampEntry (k : Clamp) : List Byte := leBytes 1 k.mark.code ++ leBytes 2 (ofSigned 16 k.zero)

theorem clampEntry_length (k : Clamp) : (clampEntry k).length = 3 := by simp [clampEntry]

theorem clampEntry_fields {k : Clamp} (h : -500 ≤ k.zero ∧ k.zero ≤ 500) (rest : List Byte) :
    byteAt (clampEntry k ++ rest) 0 = k.mark.code
      ∧ toSigned 16 (natAt (clampEntry k ++ rest) 1 2) = k.zero := by
  have hm := k.mark.code_lt
  have ho : ofSigned 16 k.zero % 65536 = ofSigned 16 k.zero := Nat.mod_eq_of_lt (ofSigned_lt 16 _)
  simp only [clampEntry, List.append_assoc, byteAt_field, natAt_field, natAt_field_of_le, Nat.reduceLeDiff,
    Nat.reduceSub, Nat.reducePow, ho]
  exact ⟨by omega, toSigned_ofSigned (by decide) (by norm_num; omega) (by norm_num; omega)⟩

/-- What makes an image good: its length, its check value, and every field in its range. -/
theorem imageGood_iff (img : List Byte) : imageGood img = true ↔ img.length = 347
    ∧ natAt img 343 4 = crc32 (img.take 343) ∧ (∀ n < 16, (imageProfile img n).isSome = true)
    ∧ (∀ n < 20, (imageClamp img n).isSome = true) ∧ (imageSettings img).isSome = true ∧ imageFamily img ≤ 1 := by
  have hbody : imageBodyLength = 343 := rfl
  simp only [imageGood, hbody, Bool.and_eq_true, List.all_eq_true, List.mem_range, decide_eq_true_eq, and_assoc]

section
variable (profiles : Vector Profile 16) (clamps : Vector Clamp 20) (c : Settings) (f : Family)

/-- The profile entries of an image. -/
def imageEntries : List Byte := (List.finRange 16).flatMap fun n => encodeProfile n profiles[n]

theorem imageEntries_length : (imageEntries profiles).length = 272 :=
  flatMap_length (fun n => encodeProfile_length n _) _

theorem clampEntries_length : (clamps.toList.flatMap clampEntry).length = 60 := by
  rw [flatMap_length clampEntry_length, Vector.length_toList]

/-- The image is its parts one after another, and the check value. -/
theorem encodeImage_eq : encodeImage profiles clamps c f =
    imageEntries profiles ++ (clamps.toList.flatMap clampEntry ++ (encodeSettings c ++ (leBytes 1 f.code
      ++ leBytes 4 (crc32 (imageBody profiles clamps c f))))) := by
  show imageEntries profiles ++ clamps.toList.flatMap clampEntry ++ encodeSettings c ++ leBytes 1 f.code ++ _ = _
  simp only [List.append_assoc]

theorem imageBody_length : (imageBody profiles clamps c f).length = 343 := by
  show (imageEntries profiles ++ clamps.toList.flatMap clampEntry ++ encodeSettings c ++ leBytes 1 f.code).length = _
  simp only [List.length_append, imageEntries_length, clampEntries_length, encodeSettings_length, leBytes_length]

theorem encodeImage_length : (encodeImage profiles clamps c f).length = 347 := by
  simp [encodeImage, imageBody_length]

theorem imageProfile_encodeImage (h : ∀ i : Fin 16, profiles[i].InRange) (i : Fin 16) :
    imageProfile (encodeImage profiles clamps c f) i.val = some profiles[i] := by
  have hi : i.val < (List.finRange 16).length := by rw [List.length_finRange]; exact i.isLt
  have hget : (List.finRange 16)[i.val]'hi = i := by simp
  rw [imageProfile, encodeImage_eq, imageEntries,
    drop_records (fun n => encodeProfile_length n profiles[n]) hi, hget, parseProfile_encodeProfile (h i)]
  rfl

/-- Behind the entries of the profiles. -/
theorem drop_imageEntries : (encodeImage profiles clamps c f).drop 272 =
    clamps.toList.flatMap clampEntry ++ (encodeSettings c ++ (leBytes 1 f.code
      ++ leBytes 4 (crc32 (imageBody profiles clamps c f)))) := by
  rw [encodeImage_eq, ← imageEntries_length profiles, List.drop_left]

/-- Behind the entries of the clamps. -/
theorem drop_clampEntries : (encodeImage profiles clamps c f).drop 332 =
    encodeSettings c ++ (leBytes 1 f.code ++ leBytes 4 (crc32 (imageBody profiles clamps c f))) := by
  rw [show 332 = 272 + 60 from rfl, ← List.drop_drop, drop_imageEntries, ← clampEntries_length clamps, List.drop_left]

theorem imageClamp_encodeImage (h : ∀ i : Fin 20, -500 ≤ clamps[i].zero ∧ clamps[i].zero ≤ 500) (i : Fin 20) :
    imageClamp (encodeImage profiles clamps c f) i.val = some (clamps[i].mark, clamps[i].zero) := by
  have hi : i.val < clamps.toList.length := by rw [Vector.length_toList]; exact i.isLt
  have hget : clamps.toList[i.val]'hi = clamps[i] := Vector.getElem_toList hi
  have hdrop : ∃ rest, (encodeImage profiles clamps c f).drop (16 * 17 + 3 * i.val) = clampEntry clamps[i] ++ rest := by
    rw [← List.drop_drop, drop_imageEntries, drop_records clampEntry_length hi, hget]
    exact ⟨_, rfl⟩
  obtain ⟨rest, hdrop⟩ := hdrop
  obtain ⟨hmark, hzero⟩ := clampEntry_fields (h i) rest
  have e0 : byteAt (encodeImage profiles clamps c f) (16 * 17 + 3 * i.val) = clamps[i].mark.code := by
    rw [← Nat.add_zero (16 * 17 + 3 * i.val), byteAt_add, hdrop, hmark]
  have e1 : toSigned 16 (natAt (encodeImage profiles clamps c f) (16 * 17 + 3 * i.val + 1) 2) = clamps[i].zero := by
    rw [natAt_add, hdrop, hzero]
  unfold imageClamp
  simp only [e0, e1]
  rw [if_pos ⟨clamps[i].mark.code_lt, h i⟩]
  cases clamps[i].mark <;> rfl

theorem imageSettings_encodeImage (h : c.InRange) : imageSettings (encodeImage profiles clamps c f) = some c := by
  rw [imageSettings, drop_clampEntries, parseSettings_encodeSettings h]

theorem imageFamily_encodeImage : imageFamily (encodeImage profiles clamps c f) = f.code := by
  have hf := f.code_lt
  rw [imageFamily, show 16 * 17 + 20 * 3 + 10 = 332 + 10 from rfl, byteAt_add, drop_clampEntries,
    byteAt_append_of_le (encodeSettings_length c).le, encodeSettings_length, byteAt_field]
  omega

theorem imageGood_encodeImage (hp : ∀ i : Fin 16, profiles[i].InRange)
    (hk : ∀ i : Fin 20, -500 ≤ clamps[i].zero ∧ clamps[i].zero ≤ 500) (hc : c.InRange) :
    imageGood (encodeImage profiles clamps c f) = true := by
  have hlen := encodeImage_length profiles clamps c f
  have hbody : (encodeImage profiles clamps c f).take 343 = imageBody profiles clamps c f := by
    rw [← imageBody_length profiles clamps c f]
    exact List.take_left
  have hcheck : natAt (encodeImage profiles clamps c f) 343 4 = crc32 (imageBody profiles clamps c f) := by
    have hle := imageBody_length profiles clamps c f
    rw [encodeImage, natAt_append_of_le hle.le, hle, natAt_last_field]
    exact Nat.mod_eq_of_lt (crc32_lt _)
  refine (imageGood_iff _).2 ⟨hlen, by rw [hcheck, hbody], fun n hn => ?_, fun n hn => ?_, ?_, ?_⟩
  · rw [imageProfile_encodeImage profiles clamps c f hp ⟨n, hn⟩]
    rfl
  · rw [imageClamp_encodeImage profiles clamps c f hk ⟨n, hn⟩]
    rfl
  · rw [imageSettings_encodeImage profiles clamps c f hc]
    rfl
  · rw [imageFamily_encodeImage]
    exact f.code_lt

end

/-- Settles O21: each part of the image is read back from its own bytes, and the check value fits its four. -/
theorem imageRoundTrip : Obligations.ImageRoundTrip := by
  intro profiles clamps c f hp hk hc image
  refine ⟨imageGood_encodeImage _ _ _ _ hp hk hc, encodeImage_length _ _ _ _, imageProfile_encodeImage _ _ _ _ hp,
    imageClamp_encodeImage _ _ _ _ hk, imageSettings_encodeImage _ _ _ _ hc, ?_⟩
  rw [imageFamily_encodeImage]
  cases f <;> decide

end Sys2Proof.Machine

/-! PROOFS. Reports stay raised until they are sent, and the load of the stored image (R181 to R183, R186). -/

namespace Sys2Proof.Machine

/-! ## Reports (R181, R182) -/

/-- The next frame is a reply, and the latches stay as they are, or it is the next report. -/
theorem nextFrame_some {h h' : HostLink} {f : HostFrame} (e : nextFrame h = some (f, h')) :
    (h'.notice = h.notice ∧ h'.doneReady = h.doneReady) ∨ nextReport h = some (f, h') := by
  unfold nextFrame at e
  split at e
  · cases e; exact .inl ⟨rfl, rfl⟩
  · exact .inr e
  · split at e
    · cases e; exact .inl ⟨rfl, rfl⟩
    · exact .inr e

/-- A notice that is raised stays in its latch until its frame begins. -/
theorem txPump_noticed {n : Notice} {x : BitVec 32} {s : State} (h : Noticed n x s) : Noticed n x (txPump s) := by
  unfold txPump
  split
  · next f y htx hnext =>
    have hn : s.host.notice = some (n, x) := h.resolve_right (by rw [htx]; exact nofun)
    rcases nextFrame_some hnext with ⟨hk, -⟩ | hr
    · exact .inl (hk.trans hn)
    · simp only [nextReport, hn, Option.some.injEq, Prod.mk.injEq] at hr
      obtain ⟨rfl, rfl⟩ := hr
      exact .inr rfl
  · exact h

theorem raiseState_noticed {n : Notice} {x : BitVec 32} {s : State} (l : LineState) (h : Noticed n x s) :
    Noticed n x (raiseState l s) := txPump_noticed h

theorem enterState_noticed {n : Notice} {x : BitVec 32} {s : State} (l : LineState) (h : Noticed n x s) :
    Noticed n x (enterState l s) := raiseState_noticed l h

/-! ## The load in STARTING (R183, R186) -/

theorem enterParked_host (s : State) : ∃ x, enterParked s = { s with
    line := { s.line with
      state := .parked, halt := false, park := false, lamps := lampsOf .parked s.line.estopLatch
      flashBase := s.clock, holds := .empty, drainRelease := false
      warmTimer := none, standbyTimer := none, parkTimer := none }
    glue := glueFollow .parked s.settings s.glue
    host := x } := raiseState_host .parked _

/-- The start-up check enters PARKED when the probes are done too, and otherwise does nothing. -/
theorem startUpCheck_eq {s : State} (hs : s.line.state = .starting) (hl : s.line.loadDone = true) :
    startUpCheck s = if s.line.probesDone then
      { enterParked s with bus := { (enterParked s).bus with
          pollOn := true, pollBase := (enterParked s).clock, lastPoll := (enterParked s).clock
          probeBase := (enterParked s).clock } }
      else s := by
  simp only [startUpCheck, hs, hl, beq_self_eq_true, Bool.true_and]

/-- What the start-up check keeps. -/
structure StartUpKept (s t : State) : Prop where
  line     : t.line.loadDone = s.line.loadDone
  state    : t.line.state = if s.line.probesDone then .parked else .starting
  car      : t.car = s.car
  dlv      : t.dlv = s.dlv
  trim     : t.trim = s.trim
  tickets  : t.tickets = s.tickets
  profiles : t.profiles = s.profiles
  settings : t.settings = s.settings
  store    : t.store = s.store
  family   : t.glue.family = s.glue.family
  noticed  : ∀ n x, Noticed n x s → Noticed n x t

theorem startUpCheck_kept {s : State} (hs : s.line.state = .starting) (hl : s.line.loadDone = true) :
    StartUpKept s (startUpCheck s) := by
  rw [startUpCheck_eq hs hl]
  by_cases hp : s.line.probesDone = true
  · rw [if_pos hp]
    have hn : ∀ n x, Noticed n x s → Noticed n x (enterParked s) := fun n x h => enterState_noticed .parked h
    obtain ⟨x, hx⟩ := enterParked_host s
    rw [hx] at hn ⊢
    exact ⟨rfl, (if_pos hp).symm, rfl, rfl, rfl, rfl, rfl, rfl, rfl, rfl, hn⟩
  · rw [if_neg hp]
    exact ⟨rfl, by rw [if_neg hp, hs], rfl, rfl, rfl, rfl, rfl, rfl, rfl, rfl, fun _ _ h => h⟩

/-- The tables as the load leaves them: those of a good image, else the defaults. -/
def tablesLoaded (s : State) : State :=
  if imageGood s.store.image && !s.store.broken then loadImage s.store.image s else loadDefaults s

theorem loadDefaults_host (s : State) : ∃ x, loadDefaults s = { s with
    profiles := defaultProfiles
    car := { s.car with clamps := Vector.ofFn fun i => { s.car.clamps[i] with mark := .inUse, zero := 0 } }
    settings := .default
    glue := { s.glue with family := .hotmelt }
    host := x } := raiseNotice_host .storeDefaults 0 _

/-- The load replaces the tables alone. -/
theorem tablesLoaded_keeps (s : State) : (tablesLoaded s).line = s.line ∧ (tablesLoaded s).store = s.store
    ∧ (∀ i, bookIn (tablesLoaded s) i = bookIn s i) ∧ (tablesLoaded s).dlv = s.dlv ∧ (tablesLoaded s).trim = s.trim
    ∧ (tablesLoaded s).tickets = s.tickets := by
  unfold tablesLoaded
  split
  · unfold loadImage
    refine ⟨rfl, rfl, fun i => ?_, rfl, rfl, rfl⟩
    simp only [bookIn, imageClamps, Fin.getElem_fin, Vector.getElem_ofFn]
    split
    · rfl
    · rfl
  · obtain ⟨x, hx⟩ := loadDefaults_host s
    rw [hx]
    refine ⟨rfl, rfl, fun i => ?_, rfl, rfl, rfl⟩
    simp [bookIn]

/-- The command loads the tables and then makes the start-up check. -/
theorem exec_storeLoadDone {s : State} (h : s.pins.inReset = false) (hs : s.line.state = .starting)
    (hl : s.line.loadDone = false) : exec .storeLoadDone s = .next (startUpCheck
      { tablesLoaded (clearOut s) with line := { (tablesLoaded (clearOut s)).line with loadDone := true } }) := by
  show Host.Outcome.next (live storeLoaded s) = _
  rw [live_next _ s h, storeLoaded, if_pos (by simp [hs, hl])]
  rfl

/-- A good image is taken whole. -/
theorem loadImage_tables {s : State} (h : imageGood s.store.image = true) :
    let t := loadImage s.store.image s
    (∀ i : Fin 16, some t.profiles[i] = imageProfile s.store.image i.val)
      ∧ (∀ i : Fin 20, some ((clampRec t i).mark, (clampRec t i).zero) = imageClamp s.store.image i.val)
      ∧ some t.settings = imageSettings s.store.image
      ∧ (t.glue.family = .hotmelt ↔ imageFamily s.store.image = 0) := by
  obtain ⟨-, -, hp, hk, hc, -⟩ := (imageGood_iff _).1 h
  refine ⟨fun i => ?_, fun i => ?_, ?_, ?_⟩
  · obtain ⟨p, hpi⟩ := Option.isSome_iff_exists.1 (hp i.val i.isLt)
    simp [loadImage, hpi]
  · obtain ⟨⟨m, z⟩, hki⟩ := Option.isSome_iff_exists.1 (hk i.val i.isLt)
    simp [loadImage, imageClamps, clampRec, hki]
  · obtain ⟨c, hci⟩ := Option.isSome_iff_exists.1 hc
    simp [loadImage, hci]
  · show (if imageFamily s.store.image = 0 then Family.hotmelt else .pur) = .hotmelt ↔ _
    split
    · next h0 => exact iff_of_true rfl h0
    · next h0 => exact iff_of_false nofun h0

theorem defaultProfiles_valid : defaultProfiles[(0 : Fin 16)].valid = true
    ∧ ∀ i : Fin 16, 0 < i.val → defaultProfiles[i].valid = false := by decide

theorem defaultProfiles_fields : ∀ i : Fin 16, defaultProfiles[i].fields = Snapshot.default := by decide

theorem loadDefaults_tables (s : State) : (loadDefaults s).profiles = defaultProfiles
    ∧ (∀ i, (clampRec (loadDefaults s) i).mark = .inUse ∧ (clampRec (loadDefaults s) i).zero = 0)
    ∧ (loadDefaults s).settings = .default ∧ (loadDefaults s).glue.family = .hotmelt := by
  obtain ⟨x, hx⟩ := loadDefaults_host s
  rw [hx]
  exact ⟨rfl, fun i => by simp [clampRec], rfl, rfl⟩

/-- Settles O22: the load replaces the tables, and the start-up check that follows keeps them. -/
theorem storeLoadTakesImageOrDefaults : Obligations.StoreLoadTakesImageOrDefaults := by
  intro s h hs hl
  rw [exec_storeLoadDone h hs hl]
  obtain ⟨uline, ustore, ubooks, udlv, utrim, utickets⟩ := tablesLoaded_keeps (clearOut s)
  obtain ⟨u, hu⟩ : ∃ u, u = tablesLoaded (clearOut s) := ⟨_, rfl⟩
  rw [← hu] at uline ustore ubooks udlv utrim utickets ⊢
  have k := startUpCheck_kept (s := { u with line := { u.line with loadDone := true } })
    ((congrArg Line.state uline).trans hs) rfl
  obtain ⟨t, ht⟩ : ∃ t, t = startUpCheck { u with line := { u.line with loadDone := true } } := ⟨_, rfl⟩
  rw [← ht] at k ⊢
  have hstate : t.line.state = if s.line.probesDone then .parked else .starting := by
    rw [k.state]
    show (if u.line.probesDone then LineState.parked else .starting) = _
    rw [uline]
    rfl
  have hclamp : ∀ i, clampRec t i = clampRec u i := fun i => congrArg (fun c : Carousel => c.clamps[i]) k.car
  have hbook : ∀ i, bookIn t i = bookIn u i := fun i => congrArg Clamp.book (hclamp i)
  have hprofiles : t.profiles = u.profiles := k.profiles
  have hsettings : t.settings = u.settings := k.settings
  have hfamily : t.glue.family = u.glue.family := k.family
  refine ⟨t, rfl, k.line, k.store.trans ustore, hstate, fun i => (hbook i).trans (ubooks i), k.dlv.trans udlv,
    k.trim.trans utrim, k.tickets.trans utickets, ?good, ?bad⟩
  case good =>
    intro hg hb
    have hload : u = loadImage s.store.image (clearOut s) :=
      hu.trans (if_pos (show (imageGood s.store.image && !s.store.broken) = true by simp [hg, hb]))
    simp only [hprofiles, hsettings, hfamily, hclamp, hload]
    exact loadImage_tables (s := clearOut s) hg
  case bad =>
    intro hg
    have hload : u = loadDefaults (clearOut s) := by
      refine hu.trans (if_neg (show ¬(imageGood s.store.image && !s.store.broken) = true from ?_))
      rcases hg with hg | hg <;> simp [hg]
    have hnotice : Noticed .storeDefaults 0 t := k.noticed _ _ (by
      rw [hload]
      exact noticed_raiseNotice _ _ _)
    obtain ⟨dprofiles, dclamps, dsettings, dfamily⟩ := loadDefaults_tables (clearOut s)
    simp only [hprofiles, hsettings, hfamily, hclamp, hload, dprofiles, dsettings, dfamily]
    exact ⟨defaultProfiles_valid, defaultProfiles_fields, dclamps, rfl, trivial, hnotice⟩

end Sys2Proof.Machine

/-! PROOFS. The assembler of received bytes (R174, R175). -/

namespace Sys2Proof.Machine

/-! ## The check value fits two bytes -/

theorem crc16Bit_lt {c : Nat} (h : c < 65536) : crc16Bit c < 65536 := by
  unfold crc16Bit
  split
  · exact Nat.mod_lt _ (by decide)
  · next hb =>
    have hlow : c < 2 ^ 15 := by
      by_contra hc
      exact hb (by rw [Nat.testBit_eq_decide_div_mod_eq, decide_eq_true_eq]; omega)
    omega

theorem crc16Bits_lt (n : Nat) {c : Nat} (h : c < 65536) : crc16Bit^[n] c < 65536 := by
  induction n generalizing c with
  | zero => exact h
  | succ n ih => exact ih (crc16Bit_lt h)

theorem crc16_fold_lt (bs : List Byte) {c : Nat} (h : c < 65536) :
    bs.foldl (fun c b => crc16Bit^[8] (c ^^^ (b.toNat * 256))) c < 65536 := by
  induction bs generalizing c with
  | nil => exact h
  | cons b bs ih =>
    have hb := b.isLt
    exact ih (crc16Bits_lt 8 (Nat.xor_lt_two_pow (n := 16) h (by omega)))

theorem crc16_lt (bs : List Byte) : crc16 bs < 65536 := crc16_fold_lt bs (by decide)

/-! ## What bytes complete and leave begun (log 16) -/

/-- Bytes without a start byte complete nothing and leave nothing begun. -/
theorem assemble_noStart {n : Nat} {bs : List Byte} (h : (0xA5 : Byte) ∉ bs) (hn : bs.length ≤ n) :
    assemble n bs = ([], []) := by
  induction n generalizing bs with
  | zero => rw [List.length_eq_zero_iff.1 (Nat.le_zero.1 hn)]; rfl
  | succ n ih =>
    cases bs with
    | nil => rfl
    | cons b rest =>
      rw [List.mem_cons, not_or] at h
      rw [List.length_cons, Nat.succ_le_succ_iff] at hn
      show (if b ≠ 0xA5 then assemble n rest else _) = _
      rw [if_pos (Ne.symm h.1), ih h.2 hn]

theorem assemble_of_start (n : Nat) (rest : List Byte) : assemble (n + 1) (0xA5 :: rest) =
    if rest.length < 2 then ([], 0xA5 :: rest)
    else if 480 < leNat (rest.take 2) then assemble n (rest.drop 2)
    else if rest.length < leNat (rest.take 2) + 6 then ([], 0xA5 :: rest)
    else
      ((frameOf (0xA5 :: rest.take (leNat (rest.take 2) + 6))).toList
        ++ (assemble n (rest.drop (leNat (rest.take 2) + 6))).1, (assemble n (rest.drop (leNat (rest.take 2) + 6))).2) := by
  show (if (0xA5 : Byte) ≠ 0xA5 then assemble n rest else _) = _
  rw [if_neg (not_not_intro rfl)]
  rfl

section
variable {n : Nat} {lo hi : Byte} {rest : List Byte}

theorem leNat_pair (lo hi : Byte) : leNat [lo, hi] = lo.toNat + 256 * hi.toNat := by simp [leNat]

theorem assemble_of_length : assemble (n + 1) (0xA5 :: lo :: hi :: rest) =
    if 480 < lo.toNat + 256 * hi.toNat then assemble n rest
    else if rest.length < lo.toNat + 256 * hi.toNat + 4 then ([], 0xA5 :: lo :: hi :: rest)
    else
      ((frameOf (0xA5 :: lo :: hi :: rest.take (lo.toNat + 256 * hi.toNat + 4))).toList
        ++ (assemble n (rest.drop (lo.toNat + 256 * hi.toNat + 4))).1,
        (assemble n (rest.drop (lo.toNat + 256 * hi.toNat + 4))).2) := by
  have hlen : leNat ((lo :: hi :: rest).take 2) = lo.toNat + 256 * hi.toNat := leNat_pair lo hi
  rw [assemble_of_start, hlen, if_neg (by simp only [List.length_cons]; omega)]
  simp only [List.length_cons, Nat.add_lt_add_iff_right, List.drop_succ_cons, List.take_succ_cons, List.drop_zero]

/-- A start byte with a length that is too long is discarded. -/
theorem assemble_tooLong (h : 480 < lo.toNat + 256 * hi.toNat) :
    assemble (n + 1) (0xA5 :: lo :: hi :: rest) = assemble n rest := by
  rw [assemble_of_length, if_pos h]

/-- A frame that is not whole stays begun. -/
theorem assemble_begun (h : lo.toNat + 256 * hi.toNat ≤ 480) (hr : rest.length < lo.toNat + 256 * hi.toNat + 4) :
    assemble (n + 1) (0xA5 :: lo :: hi :: rest) = ([], 0xA5 :: lo :: hi :: rest) := by
  rw [assemble_of_length, if_neg (not_lt.2 h), if_pos hr]

/-- A whole frame is taken or discarded, as `frameOf` says. -/
theorem assemble_whole (h : lo.toNat + 256 * hi.toNat ≤ 480) (hr : rest.length = lo.toNat + 256 * hi.toNat + 4) :
    assemble (n + 1) (0xA5 :: lo :: hi :: rest) = ((frameOf (0xA5 :: lo :: hi :: rest)).toList, []) := by
  have hlater : assemble n [] = ([], []) := assemble_noStart List.not_mem_nil (Nat.zero_le n)
  rw [assemble_of_length, if_neg (not_lt.2 h), if_neg hr.not_lt, ← hr, List.drop_length, List.take_length, hlater,
    List.append_nil]

end

/-! ## Whole frames (R174) -/

/-- A whole frame is good when its check matches. -/
theorem frameGood_iff {lo hi : Byte} {rest : List Byte} (h : lo.toNat + 256 * hi.toNat ≤ 480)
    (hr : rest.length = lo.toNat + 256 * hi.toNat + 4) : frameGood (0xA5 :: lo :: hi :: rest) = true ↔
      leNat (rest.drop (lo.toNat + 256 * hi.toNat + 2))
        = crc16 (lo :: hi :: rest.take (lo.toNat + 256 * hi.toNat + 2)) := by
  simp only [frameGood, leNat_pair, hr, beq_self_eq_true, Bool.true_and, Bool.and_true, Bool.and_eq_true,
    decide_eq_true_eq, beq_iff_eq]
  exact and_iff_right h

theorem frameOf_bad {lo hi : Byte} {rest : List Byte} (h : lo.toNat + 256 * hi.toNat ≤ 480)
    (hr : rest.length = lo.toNat + 256 * hi.toNat + 4)
    (hbad : leNat (rest.drop (lo.toNat + 256 * hi.toNat + 2))
      ≠ crc16 (lo :: hi :: rest.take (lo.toNat + 256 * hi.toNat + 2))) :
    frameOf (0xA5 :: lo :: hi :: rest) = none := by
  have hgood := mt (frameGood_iff h hr).1 hbad
  obtain _ | ⟨kind, _ | ⟨tag, rest⟩⟩ := rest
  · rfl
  · rfl
  · exact if_neg hgood

/-- The bytes of a frame are its length, its kind, tag and payload, and a check that matches. -/
theorem frameBytes_eq (f : HostFrame) : ∃ check : List Byte, check = leBytes 2 (crc16 (leBytes 2 f.payload.length
      ++ [f.kind, f.tag] ++ f.payload))
    ∧ f.bytes = 0xA5 :: BitVec.ofNat 8 f.payload.length :: BitVec.ofNat 8 (f.payload.length / 256) :: f.kind :: f.tag
      :: (f.payload ++ check) :=
  ⟨_, rfl, rfl⟩

/-- The bytes of a frame complete it and leave nothing begun. -/
theorem assemble_frame {n : Nat} {f : HostFrame} (h : f.payload.length ≤ 480) :
    assemble (n + 1) f.bytes = ([f], []) := by
  obtain ⟨check, hc, hb⟩ := frameBytes_eq f
  have hlen : (BitVec.ofNat 8 f.payload.length).toNat + 256 * (BitVec.ofNat 8 (f.payload.length / 256)).toNat
      = f.payload.length := by
    simp only [BitVec.toNat_ofNat]
    omega
  have hcheck : check.length = 2 := by rw [hc, leBytes_length]
  have hrest : (f.kind :: f.tag :: (f.payload ++ check)).length = f.payload.length + 4 := by
    simp only [List.length_cons, List.length_append, hcheck]
  have hgood : frameGood f.bytes = true := by
    rw [hb, frameGood_iff (by rw [hlen]; exact h) (by rw [hlen]; exact hrest), hlen]
    have hdrop : (f.kind :: f.tag :: (f.payload ++ check)).drop (f.payload.length + 2) = check := List.drop_left
    have htake : (f.kind :: f.tag :: (f.payload ++ check)).take (f.payload.length + 2) = f.kind :: f.tag :: f.payload :=
      congrArg (f.kind :: f.tag :: ·) List.take_left
    rw [hdrop, htake, hc, leNat_leBytes_of_lt _ _ (crc16_lt _)]
    rfl
  have hframe : frameOf f.bytes = some f := by
    rw [hb] at hgood ⊢
    refine (if_pos hgood).trans ?_
    rw [leNat_pair, hlen, List.take_left]
  rw [hb, assemble_whole (by rw [hlen]; exact h) (by rw [hlen]; exact hrest), ← hb, hframe]
  rfl

/-! ## A frame taken as a request (R175, R177) -/

theorem ite_clearRx {p : Prop} [Decidable p] {a b : State → State} (ha : ∀ s, a (clearRx s) = a s)
    (hb : ∀ s, b (clearRx s) = b s) : ∀ s, (if p then a else b) (clearRx s) = (if p then a else b) s := by
  split
  · exact ha
  · exact hb

/-- A request's owner takes it in the state in which no frame is begun. -/
theorem requestTaken_clearRx (f : HostFrame) : ∀ s, requestTaken f (clearRx s) = requestTaken f s := by
  unfold requestTaken
  iterate 22 refine ite_clearRx (fun _ => rfl) ?_
  exact fun _ => rfl

theorem requestTaken_unknown {k g : Byte} (p : List Byte) (h : isRequestKind k = false) :
    requestTaken ⟨k, g, p⟩ = hostRequest k g takeUnknown := by
  have hne : ∀ x, isRequestKind x = true → k ≠ x := fun x hx he => by
    rw [he, hx] at h
    cases h
  simp only [requestTaken, hne kindTicket rfl, hne kindWithdraw rfl, hne kindProfilePut rfl, hne kindProfileGet rfl,
    hne kindClampPut rfl, hne kindClampGet rfl, hne kindGlueChange rfl, hne kindStart rfl, hne kindHalt rfl,
    hne kindHold rfl, hne kindResume rfl, hne kindPark rfl, hne kindClear rfl, hne kindCollect rfl,
    hne kindNodes rfl, hne kindContacts rfl, hne kindStatus rfl, hne kindTrace rfl, hne kindSettingsPut rfl,
    hne kindSettingsGet rfl, hne kindStore rfl, hne kindReset rfl, if_false]

/-- A request command is the arrival of its frame. -/
theorem exec_requestFrame {c : Instr} {f : HostFrame} (hc : requestFrame c = some f) (s : State) :
    exec c s = .next (arrives f (requestTaken f) s) := by
  cases c
  case unknownKind k g p =>
    have hc : (if isRequestKind k then none else some ⟨k, g, p⟩) = some f := hc
    split at hc
    · cases hc
    · next hk =>
      cases hc
      rw [Bool.not_eq_true] at hk
      rw [exec_unknownKind g p hk, requestTaken_unknown p hk]
  all_goals cases hc
  all_goals rfl

/-! ## Bytes that arrive (R175) -/

theorem exec_badFrameDiscard (bytes : List Byte) {s : State} (h : s.pins.inReset = false) :
    exec (.badFrameDiscard bytes) s = .next (receive bytes (clearOut s)) :=
  congrArg Host.Outcome.next (live_next (receive bytes) s h)

/-- The bytes of a begun frame that a byte arriving now continues (R175). -/
def bytesBegun (s : State) : List Byte := if 10 < (s.clock - s.host.rxTime).toNat then [] else s.host.rx

theorem receive_eq (bytes : List Byte) (s : State) : receive bytes s =
    let a := assemble (bytesBegun s ++ bytes).length (bytesBegun s ++ bytes)
    let t := a.1.foldl (fun s f => requestTaken f s) s
    { t with host := { t.host with rx := a.2, rxTime := s.clock } } := by
  have hb : (if gapTooLong s then [] else s.host.rx) = bytesBegun s := by
    unfold gapTooLong bytesBegun
    cases hrx : s.host.rx with
    | nil => simp
    | cons b l =>
      simp only [List.isEmpty_cons, Bool.not_false, Bool.true_and, decide_eq_true_eq]
      rfl
  unfold receive
  rw [hb]

theorem receive_of_assembled {bytes r : List Byte} {l : List HostFrame} {s : State}
    (h : assemble (bytesBegun s ++ bytes).length (bytesBegun s ++ bytes) = (l, r)) :
    receive bytes s = { l.foldl (fun s f => requestTaken f s) s with
      host := { (l.foldl (fun s f => requestTaken f s) s).host with rx := r, rxTime := s.clock } } := by
  rw [receive_eq, h]

/-- Bytes that complete no frame change nothing but what is begun. -/
theorem exec_leaves {bytes r : List Byte} {s : State} (h : s.pins.inReset = false)
    (ha : assemble (bytesBegun s ++ bytes).length (bytesBegun s ++ bytes) = ([], r)) :
    exec (.badFrameDiscard bytes) s =
      .next { clearOut s with host := { s.host with rx := r, rxTime := s.clock } } := by
  rw [exec_badFrameDiscard bytes h, receive_of_assembled (s := clearOut s) ha]
  rfl

/-- Bytes that complete a request's frame are that request. -/
theorem exec_completes {bytes : List Byte} {f : HostFrame} {s : State} (h : s.pins.inReset = false)
    (hlen : f.payload.length ≤ 480) (hall : bytesBegun s ++ bytes = f.bytes) {c : Instr}
    (hc : requestFrame c = some f) :
    ∃ t, exec c { s with host := { s.host with rx := [] } } = .next t
      ∧ exec (.badFrameDiscard bytes) s = .next { t with host := { t.host with rx := [], rxTime := s.clock } } := by
  have htake : requestTaken f (clearOut { s with host := { s.host with rx := [] } }) = requestTaken f (clearOut s) :=
    requestTaken_clearRx f (clearOut s)
  have ha : assemble (bytesBegun s ++ bytes).length (bytesBegun s ++ bytes) = ([f], []) := by
    rw [hall]
    exact assemble_frame hlen
  have hears : Hears { s with host := { s.host with rx := [] } } := ⟨h, rfl⟩
  refine ⟨requestTaken f (clearOut s), ?_, ?_⟩
  · rw [exec_requestFrame hc, arrives_heard _ _ _ hears, htake]
  · rw [exec_badFrameDiscard bytes h, receive_of_assembled (s := clearOut s) ha]
    rfl

theorem gapTooLong_iff {s : State} :
    gapTooLong s = true ↔ s.host.rx ≠ [] ∧ 10 < (s.clock - s.host.rxTime).toNat := by
  simp only [gapTooLong, Bool.and_eq_true, Bool.not_eq_true', decide_eq_true_eq, List.isEmpty_eq_false_iff]
  exact Iff.rfl

/-- Settles O19: the assembler's cases, and the gap that discards a begun frame. -/
theorem badFramesDiscarded : Obligations.BadFramesDiscarded := by
  unfold Obligations.BadFramesDiscarded
  refine ⟨?bytes, fun c f s hc hs ho => ?_, fun s hs => ⟨fun hrx ht => ?_, fun hno => ?_⟩⟩
  case bytes =>
    intro bytes s hs before all leaves
    have hleaves : ∀ {r}, assemble all.length all = ([], r) → leaves r := fun ha => exec_leaves hs ha
    refine ⟨fun hno => hleaves (assemble_noStart hno le_rfl), fun hshort => ?_, fun lo hi rest hall => ?_,
      fun c f hc hlen hall => exec_completes hs hlen hall hc⟩
    · rcases hshort with hall | ⟨lo, hall⟩
      · exact hleaves (by rw [hall]; rfl)
      · exact hleaves (by rw [hall]; rfl)
    · intro len
      have hlength : all.length = rest.length + 2 + 1 := by rw [hall]; rfl
      refine ⟨fun hlong hno => hleaves ?_, fun hle hr => hleaves ?_, fun hle hr hbad => hleaves ?_⟩
      · rw [hlength, hall, assemble_tooLong hlong, assemble_noStart hno (by omega)]
      · rw [hlength, hall, assemble_begun hle hr]
      · rw [hlength, hall, assemble_whole hle hr, frameOf_bad hle hr hbad]
        rfl
  · rw [exec_requestFrame hc, arrives_open _ _ _ hs ho, exec_badFrameDiscard _ hs]
  · exact congrArg Host.Outcome.next ((live_next byteGap s hs).trans
      (if_pos (show gapTooLong s = true from gapTooLong_iff.2 ⟨hrx, ht⟩)))
  · refine congrArg Host.Outcome.next ((live_next byteGap s hs).trans (if_neg (show ¬gapTooLong s = true from ?_)))
    rw [gapTooLong_iff]
    rintro ⟨hrx, ht⟩
    rcases hno with hno | hno
    · exact hrx hno
    · omega

end Sys2Proof.Machine

/-! PROOFS. What the line's entries change, and COLLECT (R100, R132, R133). -/

namespace Sys2Proof.Machine

/-! ## The line's entries

Entering line states changes the line, the pot's target with its condition, two counts and the reports. -/

/-- What the entries into line states may change. -/
def LineMoved (s t : State) : Prop := ∃ l x b m n h, t = { s with
  line := l
  glue := { s.glue with target := x, outOfBand := b }
  cover := { s.cover with mismatch := m }
  car := { s.car with diverts := n }
  host := h }

theorem LineMoved.refl (s : State) : LineMoved s s := ⟨_, _, _, _, _, _, rfl⟩

theorem LineMoved.trans {s t u : State} (h : LineMoved s t) (k : LineMoved t u) : LineMoved s u := by
  obtain ⟨_, _, _, _, _, _, rfl⟩ := h
  obtain ⟨_, _, _, _, _, _, rfl⟩ := k
  exact ⟨_, _, _, _, _, _, rfl⟩

section
variable {s t : State}

theorem LineMoved.car (h : LineMoved s t) : ∃ n, t.car = { s.car with diverts := n } := by
  obtain ⟨_, _, _, _, _, _, rfl⟩ := h
  exact ⟨_, rfl⟩

theorem LineMoved.carState (h : LineMoved s t) : t.car.state = s.car.state := by
  obtain ⟨_, _, _, _, _, _, rfl⟩ := h
  rfl

theorem LineMoved.worked (h : LineMoved s t) : t.car.worked = s.car.worked := by
  obtain ⟨_, _, _, _, _, _, rfl⟩ := h
  rfl

theorem LineMoved.clamps (h : LineMoved s t) : t.car.clamps = s.car.clamps := by
  obtain ⟨_, _, _, _, _, _, rfl⟩ := h
  rfl

theorem LineMoved.bus (h : LineMoved s t) : t.bus = s.bus := by
  obtain ⟨_, _, _, _, _, _, rfl⟩ := h
  rfl

theorem LineMoved.dlv (h : LineMoved s t) : t.dlv = s.dlv := by
  obtain ⟨_, _, _, _, _, _, rfl⟩ := h
  rfl

theorem LineMoved.ite {p : Prop} [Decidable p] {u : State} (h : p → LineMoved s t) (k : ¬p → LineMoved s u) :
    LineMoved s (if p then t else u) := by
  split
  · exact h ‹_›
  · exact k ‹_›

theorem LineMoved.line (h : LineMoved s t) (l : Line) : LineMoved s { t with line := l } := by
  obtain ⟨_, _, _, _, _, _, rfl⟩ := h
  exact ⟨_, _, _, _, _, _, rfl⟩

theorem LineMoved.host (h : LineMoved s t) {u : State} (k : ∃ x, u = { t with host := x }) : LineMoved s u := by
  obtain ⟨_, rfl⟩ := k
  obtain ⟨_, _, _, _, _, _, rfl⟩ := h
  exact ⟨_, _, _, _, _, _, rfl⟩

theorem enterState_moved (l : LineState) (h : LineMoved s t) : LineMoved s (enterState l t) := by
  refine h.trans (LineMoved.host ?_ (raiseState_host l _))
  split_ifs
  all_goals exact ⟨_, _, _, _, _, _, rfl⟩

theorem enterHeld_moved (h : LineMoved s t) : LineMoved s (enterHeld t) := enterState_moved _ (h.line _)

theorem enterParked_moved (h : LineMoved s t) : LineMoved s (enterParked t) := enterState_moved _ (h.line _)

theorem startStandby_moved (h : LineMoved s t) : LineMoved s (startStandby t) := h.line _

theorem stopStandby_moved (h : LineMoved s t) : LineMoved s (stopStandby t) := h.line _

theorem entryTests_moved (h : LineMoved s t) : LineMoved s (entryTests t) :=
  .ite (fun _ => LineMoved.host (h.line _) (raiseNotice_host _ _ _)) fun _ => h.line _

theorem enterRunning_moved (h : LineMoved s t) : LineMoved s (enterRunning t) := by
  have k := entryTests_moved (enterState_moved .running (h.line { t.line with
    warmTimer := none, parkTimer := none, drainRelease := false }))
  exact .ite (fun _ => enterHeld_moved k) fun _ => .ite (fun _ => startStandby_moved k) fun _ => k

theorem enterWarming_moved (h : LineMoved s t) : LineMoved s (enterWarming t) := by
  have k := enterState_moved .warming (h.line { t.line with
    parkTimer := none, standbyTimer := none, warmTimer := some t.clock })
  exact .ite (fun _ => enterRunning_moved k) fun _ => k

theorem enterStandby_moved (h : LineMoved s t) : LineMoved s (enterStandby t) := by
  have k := enterState_moved .standby (h.line { t.line with
    standbyTimer := none, parkTimer := some (t.clock, t.settings.parkDelay * 1000) })
  exact .ite (fun _ => enterWarming_moved k) fun _ => k

theorem enterDraining_moved (h : LineMoved s t) : LineMoved s (enterDraining t) := by
  have k := entryTests_moved (enterState_moved .draining (h.line { t.line with
    standbyTimer := none, drainRelease := false }))
  exact .ite (fun _ => enterHeld_moved k) fun _ => .ite (fun _ => enterStandby_moved k) fun _ => k

theorem lineHold_moved (c : HoldCause) (h : LineMoved s t) : LineMoved s (lineHold c t) := by
  have k := h.line { t.line with holds := t.line.holds.add c }
  unfold lineHold
  split
  · exact .ite (fun _ => enterHeld_moved k) fun _ => k
  · exact .ite (fun _ => enterHeld_moved k) fun _ => k
  · exact k
  · exact h

end

end Sys2Proof.Machine

/-! PROOFS. COLLECT and the records that wait for room (R132, R133). -/

namespace Sys2Proof.Machine

/-! ## What a decision of a standing carousel keeps -/

/-- The clamps, the presence of the nodes and the trimmer's exit are as they were. -/
structure DecisionKept (s t : State) : Prop where
  clamps  : t.car.clamps = s.car.clamps
  present : ∀ n, present t n = present s n
  dest    : t.trim.dest = s.trim.dest

theorem DecisionKept.refl (s : State) : DecisionKept s s := ⟨rfl, fun _ => rfl, rfl⟩

theorem DecisionKept.trans {s t u : State} (h : DecisionKept s t) (k : DecisionKept t u) : DecisionKept s u :=
  ⟨k.clamps.trans h.clamps, fun n => (k.present n).trans (h.present n), k.dest.trans h.dest⟩

theorem LineMoved.decisionKept {s t : State} (h : LineMoved s t) : DecisionKept s t := by
  obtain ⟨_, _, _, _, _, _, rfl⟩ := h
  exact ⟨rfl, fun _ => rfl, rfl⟩

theorem BusWork.decisionKept {s t : State} (h : BusWork s t) : DecisionKept s t := by
  obtain ⟨_, _, hc, -⟩ := h.car
  obtain ⟨_, _, _, ht⟩ := h.trim
  exact ⟨by rw [hc], h.present, by rw [ht]⟩

theorem handOver_decisionKept (f : Frame) {s t : State} (h : DecisionKept s t) : DecisionKept s (handOver f t) :=
  h.trans (handOver_busWork f t).decisionKept

theorem DecisionKept.ite {p : Prop} [Decidable p] {s t u : State} (h : p → DecisionKept s t)
    (k : ¬p → DecisionKept s u) : DecisionKept s (if p then t else u) := by
  split
  · exact h ‹_›
  · exact k ‹_›

theorem beginDwell_decisionKept (k : DwellKind) (l : List Job) {s t : State} (h : DecisionKept s t) :
    DecisionKept s (beginDwell k l t) := by
  have hb : DecisionKept t (beginDwell k l t) := by
    unfold beginDwell
    simp only
    split
    · exact ⟨rfl, fun _ => rfl, rfl⟩
    · exact handOver_decisionKept _ ⟨rfl, fun _ => rfl, rfl⟩
  exact h.trans hb

theorem sendIndex_decisionKept {s : State} (h : present s .drive = true) : DecisionKept s (sendIndex s) := by
  have hd : present (stopStandby { s with car := { s.car with state := .indexing, moveTimer := none } }) .drive = true :=
    h
  unfold sendIndex
  rw [if_pos hd]
  exact handOver_decisionKept _ ⟨rfl, fun _ => rfl, rfl⟩

/-- A worked carousel that stands, with DRIVE in touch: telling it makes index decisions alone. -/
structure Decides (s : State) : Prop where
  standing : s.car.state = .standing
  worked   : s.car.worked = true
  drive    : present s .drive = true

theorem LineMoved.decides {s t : State} (h : LineMoved s t) (k : Decides s) : Decides t :=
  ⟨h.carState.trans k.standing, h.worked.trans k.worked, (h.decisionKept.present _).trans k.drive⟩

section
variable {again : State → State} (ha : ∀ u, Decides u → DecisionKept u (again u))

include ha in
theorem carStood_decisionKept (n e : Bool) {s : State} (h : Decides s) :
    DecisionKept s (carStood again n e s) := by
  have hheld : DecisionKept s (enterHeld s) := (enterHeld_moved (.refl s)).decisionKept
  unfold carStood
  split
  · refine .ite (fun _ => hheld) fun _ => ?_
    have k : DecisionKept s (if (n && !anyLoaded s) = true then startStandby s else s) :=
      .ite (fun _ => (startStandby_moved (.refl s)).decisionKept) fun _ => .refl s
    refine .ite (fun _ => ?_) fun _ => k
    split
    · exact beginDwell_decisionKept _ _ k
    · exact k
  · split
    · split
      · exact hheld
      · exact .refl s
    · split
      · exact (enterParked_moved (.refl s)).decisionKept
      · split
        · exact hheld
        · have hm := enterStandby_moved (.refl s)
          exact hm.decisionKept.trans (ha _ (hm.decides h))
  · exact .refl s

include ha in
theorem carDecide_decisionKept (n e : Bool) {s : State} (h : Decides s) :
    DecisionKept s (carDecide again n e s) := by
  have hset : DecisionKept s (setCarState .standing s) := ⟨rfl, fun _ => rfl, rfl⟩
  have hstood : DecisionKept s (carStood again n e (setCarState .standing s)) :=
    hset.trans (carStood_decisionKept ha n e (s := setCarState .standing s) ⟨rfl, h.worked, h.drive⟩)
  unfold carDecide
  simp only
  split
  · exact hstood
  · split
    · exact hstood
    · split
      · split
        · exact beginDwell_decisionKept _ _ (.refl s)
        · exact hstood
      · split
        · exact sendIndex_decisionKept h.drive
        · exact hstood

end

theorem carTold_decisionKept (n : Nat) {s : State} (h : Decides s) : DecisionKept s (carTold n s) := by
  induction n generalizing s with
  | zero => exact .refl s
  | succ n ih =>
    unfold carTold
    simp only [h.standing, h.worked, if_true]
    split
    · exact carDecide_decisionKept (fun _ => ih) _ _ h
    · exact .refl s

theorem redecide_decisionKept (e : Bool) {s : State} (h : present s .drive = true) :
    DecisionKept s (redecide e s) := by
  unfold redecide
  split
  · next hc =>
    rw [Bool.and_eq_true, beq_iff_eq] at hc
    exact carDecide_decisionKept (fun _ => carTold_decisionKept _) _ _ ⟨hc.1, hc.2, h⟩
  · exact .refl s

/-! ## The head decision -/

/-- The head decision moves the gate and hands a push over. -/
theorem headDecision_busWork (s : State) : ∃ g c,
    BusWork { s with dlv := { s.dlv with gate := g, gateConfirm := c } } (headDecision s) := by
  have hnone : ∃ g c, BusWork { s with dlv := { s.dlv with gate := g, gateConfirm := c } } s := ⟨_, _, .refl s⟩
  have hpush : ∀ g k, ∃ g' c, BusWork { s with dlv := { s.dlv with gate := g', gateConfirm := c } } (beginPush g k s) :=
    fun g k => ⟨g, .none, handRequest_busWork _ _ _⟩
  unfold headDecision
  split
  · split
    · exact hnone
    · split
      · exact hpush _ _
      · split
        · exact hpush _ _
        · exact hnone
  · exact hnone

/-! ## Records written from their holders (R132) -/

/-- The records of some holders have been written in their order and have left them. -/
structure Written (ws : List Holder) (s t : State) : Prop where
  done      : t.dlv.done = s.dlv.done ++ ws.filterMap (writtenRecord s)
  collected : t.dlv.collected = s.dlv.collected
  books     : ∀ c, bookIn t c = if .clamp c ∈ ws then none else bookIn s c
  cooling   : t.dlv.cooling = if .cooling ∈ ws then s.dlv.cooling.drop 1 else s.dlv.cooling
  held      : t.trim.held = if .trimmer ∈ ws then .none else s.trim.held
  clock     : t.clock = s.clock
  dest      : t.trim.dest = s.trim.dest
  present   : ∀ n, present t n = present s n

theorem Written.nil (s : State) : Written [] s s := by
  refine ⟨?_, rfl, fun _ => ?_, ?_, ?_, rfl, rfl, fun _ => rfl⟩ <;> simp

/-- What a holder that has not been written waits to write stands. -/
theorem Written.record {ws : List Holder} {s t : State} (k : Written ws s t) {h : Holder} (hn : h ∉ ws) :
    waitingRecord t h = waitingRecord s h ∧ writtenRecord t h = writtenRecord s h := by
  have hw : waitingRecord t h = waitingRecord s h := by
    cases h with
    | clamp c => exact (k.books c).trans (if_neg hn)
    | cooling => simp only [waitingRecord, k.cooling, if_neg hn]
    | trimmer => simp only [waitingRecord, k.held, if_neg hn]
  have hp : producerOutcome t h = producerOutcome s h := by
    cases h with
    | clamp c => rfl
    | cooling => rfl
    | trimmer => simp only [producerOutcome, k.dest]
  refine ⟨hw, ?_⟩
  simp only [writtenRecord, hw, hp, k.clock]

theorem Written.cons {h : Holder} {ws : List Holder} {s t u : State} (a : Written [h] s t) (b : Written ws t u)
    (hn : h ∉ ws) : Written (h :: ws) s u where
  done := by
    have hrec : ws.filterMap (writtenRecord t) = ws.filterMap (writtenRecord s) := by
      refine List.filterMap_congr fun x hx => (a.record ?_).2
      rw [List.mem_singleton]
      rintro rfl
      exact hn hx
    rw [b.done, a.done, hrec, List.append_assoc, ← List.filterMap_append]
    rfl
  collected := b.collected.trans a.collected
  books c := by
    rw [b.books, a.books]
    simp only [List.mem_cons, List.not_mem_nil, or_false]
    by_cases h₁ : Holder.clamp c ∈ ws
    · simp only [h₁, if_true, or_true]
    · simp only [h₁, if_false, or_false]
  cooling := by
    rw [b.cooling, a.cooling]
    simp only [List.mem_cons, List.not_mem_nil, or_false]
    by_cases h₁ : Holder.cooling ∈ ws
    · have h₂ : Holder.cooling ≠ h := fun e => hn (e ▸ h₁)
      simp only [h₁, h₂, if_true, if_false, or_true]
    · simp only [h₁, if_false, or_false]
  held := by
    rw [b.held, a.held]
    simp only [List.mem_cons, List.not_mem_nil, or_false]
    by_cases h₁ : Holder.trimmer ∈ ws
    · simp only [h₁, if_true, or_true]
    · simp only [h₁, if_false, or_false]
  clock := b.clock.trans a.clock
  dest := b.dest.trans a.dest
  present n := (b.present n).trans (a.present n)

theorem writeDone_host (b : Book) (o : BookOutcome) (s : State) : ∃ x, writeDone b o s = { s with
    dlv := { s.dlv with done := s.dlv.done ++ [b.asDone o s.clock] }, host := x } := by
  unfold writeDone
  simp only
  split
  · exact raiseDoneReady_host _ _
  · exact ⟨_, rfl⟩

/-- The room report concerns the jobs and the bus: the clamps and the presence of the nodes stand. -/
theorem roomGiven_decisionKept (s : State) : DecisionKept s (roomGiven s) := by
  unfold roomGiven roomReport
  refine .ite (fun _ => ?_) fun _ => .refl s
  split
  · exact .ite (fun _ => handOver_decisionKept _ ⟨rfl, fun _ => rfl, rfl⟩) fun _ => .refl s
  · exact .refl s

theorem bookIn_of_clamps {s t : State} (h : t.car.clamps = s.car.clamps) (c : Fin 20) : bookIn t c = bookIn s c :=
  congrArg (fun v : Vector Clamp 20 => v[c].book) h

theorem asDone_eq (b : Book) (o : BookOutcome) (now : Time) : b.asDone o now = { b with
    outTime := some now, outcome := some (if b.reason = none then o else .rejected) } := by
  unfold Book.asDone
  cases b.reason <;> rfl

/-- A waiting record is written. -/
theorem writeHolder_written {h : Holder} {s : State} {b : Book} (hw : waitingRecord s h = some b) :
    Written [h] s (writeHolder h s) := by
  have hrec : ∀ x, writtenRecord s h = some x → [h].filterMap (writtenRecord s) = [x] := fun x hx => by
    rw [List.filterMap_cons, hx, List.filterMap_nil]
  cases h with
  | clamp c =>
    have hb : bookIn s c = some b := hw
    obtain ⟨x, hx⟩ := writeDone_host b .rejected (setBook c none s)
    have hrow := hrec (b.asDone .rejected s.clock) (by
      simp only [writtenRecord, hw, Option.map_some, producerOutcome, asDone_eq])
    simp only [writeHolder, hb, hx]
    refine ⟨by rw [hrow]; rfl, rfl, fun c' => ?_, rfl, rfl, rfl, rfl, fun _ => rfl⟩
    refine (bookIn_setBook c none s c').trans ?_
    simp only [List.mem_singleton, Holder.clamp.injEq]
  | cooling =>
    obtain ⟨q, hq⟩ : ∃ q, s.dlv.cooling = b :: q := by
      have hq : s.dlv.cooling.head? = some b := hw
      exact List.head?_eq_some_iff.1 hq
    obtain ⟨y, hy⟩ := removeHead_eq (s := s) (d := s.dlv) rfl
    obtain ⟨x, hx⟩ := writeDone_host b .rejected (removeHead s)
    obtain ⟨-, hclock, _, _, _, htrim⟩ := roomGiven_kept s
    have hk := roomGiven_decisionKept s
    have hrow := hrec (b.asDone .rejected s.clock) (by
      simp only [writtenRecord, hw, Option.map_some, producerOutcome, asDone_eq])
    simp only [writeHolder, hq, hx]
    rw [show removeHead s = _ from hy]
    refine ⟨?_, rfl, fun c => ?_, ?_, ?_, hclock, ?_, hk.present⟩
    · rw [hrow, ← hclock]
    · exact bookIn_of_clamps hk.clamps c
    · simp only [List.mem_singleton, if_true]
    · show (roomGiven s).trim.held = _
      rw [htrim]
      rfl
    · exact hk.dest
  | trimmer =>
    have hheld : s.trim.held = .out b := by
      simp only [waitingRecord] at hw
      split at hw
      · next e => rw [e, Option.some.inj hw]
      · cases hw
    obtain ⟨x, hx⟩ := writeDone_host b (exitOutcome s.trim.dest) { s with trim := { s.trim with held := .none } }
    have hexit : exitOutcome s.trim.dest = producerOutcome s .trimmer := by
      simp only [producerOutcome]
      cases s.trim.dest <;> rfl
    have hrow := hrec (b.asDone (exitOutcome s.trim.dest) s.clock) (by
      rw [hexit]
      simp only [writtenRecord, hw, Option.map_some, asDone_eq])
    simp only [writeHolder, hheld, hx]
    split
    · exact ⟨by rw [hrow]; rfl, rfl, fun _ => rfl, rfl, rfl, rfl, rfl, fun _ => rfl⟩
    · exact ⟨by rw [hrow], rfl, fun _ => rfl, rfl, rfl, rfl, rfl, fun _ => rfl⟩

/-- What a holder reports moves none of the books. -/
theorem reportLeft_written {ws : List Holder} (h : Holder) {s t : State} (k : Written ws s t)
    (hd : present s .drive = true) : Written ws s (reportLeft h t) := by
  cases h with
  | clamp c =>
    have hk := redecide_decisionKept false (s := t) ((k.present _).trans hd)
    obtain ⟨htables, hbooks, -, -⟩ := redecide_kept false (LineKept.refl t)
    exact {
      done := hbooks.done.trans k.done
      collected := hbooks.collected.trans k.collected
      books := fun c => (bookIn_of_clamps hk.clamps c).trans (k.books c)
      cooling := hbooks.cooling.trans k.cooling
      held := hbooks.held.trans k.held
      clock := htables.clock.trans k.clock
      dest := hk.dest.trans k.dest
      present := fun n => (hk.present n).trans (k.present n) }
  | cooling => exact k
  | trimmer => exact k

/-- The waiting list itself does not enter what is written. -/
theorem Written.waiters {ws l : List Holder} {s t : State}
    (k : Written ws { s with dlv := { s.dlv with waiters := l } } t) : Written ws s t :=
  ⟨k.done, k.collected, k.books, k.cooling, k.held, k.clock, k.dest, k.present⟩

theorem writeHolder_waiters (h : Holder) (s : State) : (writeHolder h s).dlv.waiters = s.dlv.waiters := by
  have hdone : ∀ b o u, (writeDone b o u).dlv.waiters = u.dlv.waiters := fun b o u => by
    obtain ⟨x, hx⟩ := writeDone_host b o u
    rw [hx]
  obtain ⟨y, hy⟩ := removeHead_eq (s := s) (d := s.dlv) rfl
  have hhead : (removeHead s).dlv.waiters = s.dlv.waiters := by
    rw [show removeHead s = _ from hy]
  unfold writeHolder
  split
  · split
    · exact hdone _ _ _
    · rfl
  · split
    · exact (hdone _ _ _).trans hhead
    · rfl
  · split
    · simp only
      split
      · exact hdone _ _ _
      · exact hdone _ _ _
    · rfl

theorem reportLeft_waiters (h : Holder) (s : State) : (reportLeft h s).dlv.waiters = s.dlv.waiters := by
  cases h with
  | clamp c => exact (redecide_kept false (LineKept.refl s)).books.waiters
  | cooling => rfl
  | trimmer => rfl

/-- The waiting records are written in their order as far as the room goes, and the others wait on. -/
theorem drainWaiters_written {l : List Holder} {s : State} (hl : l.Nodup) (hw : ∀ h ∈ l, waitingRecord s h ≠ none)
    (hd : present s .drive = true) :
    Written (l.take (32 - s.dlv.done.length)) s (drainWaiters l s)
      ∧ (drainWaiters l s).dlv.waiters = l.drop (32 - s.dlv.done.length) := by
  induction l generalizing s with
  | nil =>
    rw [List.take_nil, List.drop_nil]
    exact ⟨(Written.nil _).waiters (l := []), rfl⟩
  | cons h rest ih =>
    rw [List.nodup_cons] at hl
    unfold drainWaiters
    by_cases hroom : s.dlv.done.length < 32
    · obtain ⟨b, hb⟩ := Option.ne_none_iff_exists'.1 (hw h List.mem_cons_self)
      let v : State := { s with dlv := { s.dlv with waiters := rest } }
      have hwritten : Written [h] s (reportLeft h (writeHolder h v)) :=
        reportLeft_written h (Written.waiters (l := rest) (writeHolder_written (s := v) hb)) hd
      obtain ⟨u, hu⟩ : ∃ u, u = reportLeft h (writeHolder h v) := ⟨_, rfl⟩
      rw [← hu] at hwritten
      have hlen : u.dlv.done.length = s.dlv.done.length + 1 := by
        rw [hwritten.done, List.length_append, List.filterMap_cons]
        simp only [writtenRecord, hb, Option.map_some, List.filterMap_nil, List.length_singleton]
      have hne : ∀ x ∈ rest, x ∉ [h] := fun x hx hxh => hl.1 (List.mem_singleton.1 hxh ▸ hx)
      obtain ⟨hih, hwait⟩ := ih (s := u) hl.2
        (fun x hx => by rw [(hwritten.record (hne x hx)).1]; exact hw x (List.mem_cons_of_mem _ hx))
        ((hwritten.present _).trans hd)
      have hn : 32 - s.dlv.done.length = 32 - u.dlv.done.length + 1 := by omega
      rw [if_pos (show doneRoom s = true from decide_eq_true hroom), hn, List.take_succ_cons, List.drop_succ_cons,
        show reportLeft h (writeHolder h { s with dlv := { s.dlv with waiters := rest } }) = u from hu.symm]
      exact ⟨hwritten.cons hih fun hm => hl.1 (List.mem_of_mem_take hm), hwait⟩
    · have hzero : 32 - s.dlv.done.length = 0 := by omega
      rw [if_neg (show ¬doneRoom s = true from fun e => hroom (of_decide_eq_true e)), hzero, List.take_zero,
        List.drop_zero]
      exact ⟨(Written.nil _).waiters (l := h :: rest), rfl⟩

/-! ## What the done list keeps whatever waits -/

/-- The done list has at most grown at its tail, and the collected count stands. -/
structure DoneGrown (s t : State) : Prop where
  done      : s.dlv.done <+: t.dlv.done
  collected : t.dlv.collected = s.dlv.collected

theorem DoneGrown.refl (s : State) : DoneGrown s s := ⟨List.prefix_rfl, rfl⟩

theorem DoneGrown.trans {s t u : State} (h : DoneGrown s t) (k : DoneGrown t u) : DoneGrown s u :=
  ⟨h.done.trans k.done, k.collected.trans h.collected⟩

theorem LineKept.doneGrown {s t : State} (h : LineKept s t) : DoneGrown s t :=
  ⟨by rw [h.books.done], h.books.collected⟩

theorem writeDone_grown (b : Book) (o : BookOutcome) (s : State) : DoneGrown s (writeDone b o s) := by
  obtain ⟨x, hx⟩ := writeDone_host b o s
  rw [hx]
  exact ⟨List.prefix_append _ _, rfl⟩

theorem writeHolder_grown (h : Holder) (s : State) : DoneGrown s (writeHolder h s) := by
  obtain ⟨y, hy⟩ := removeHead_eq (s := s) (d := s.dlv) rfl
  have hhead : DoneGrown s (removeHead s) := by
    rw [show removeHead s = _ from hy]
    exact ⟨List.prefix_rfl, rfl⟩
  unfold writeHolder
  split
  · split
    · exact DoneGrown.trans (t := setBook _ none s) ⟨List.prefix_rfl, rfl⟩ (writeDone_grown _ _ _)
    · exact .refl s
  · split
    · next b _ _ =>
      have k := hhead.trans (writeDone_grown b .rejected _)
      exact ⟨k.done, k.collected⟩
    · exact .refl s
  · split
    · next b _ =>
      have k := DoneGrown.trans (s := s) (t := { s with trim := { s.trim with held := .none } }) ⟨List.prefix_rfl, rfl⟩
        (writeDone_grown b (exitOutcome s.trim.dest) _)
      simp only
      split
      · exact ⟨k.done, k.collected⟩
      · exact k
    · exact .refl s

theorem reportLeft_grown (h : Holder) (s : State) : DoneGrown s (reportLeft h s) := by
  cases h with
  | clamp c => exact (redecide_kept false (LineKept.refl s)).doneGrown
  | cooling => exact .refl s
  | trimmer => exact .refl s

theorem drainWaiters_grown (l : List Holder) (s : State) : DoneGrown s (drainWaiters l s) := by
  induction l generalizing s with
  | nil => exact ⟨List.prefix_rfl, rfl⟩
  | cons h rest ih =>
    unfold drainWaiters
    split
    · have k := (writeHolder_grown h { s with dlv := { s.dlv with waiters := rest } }).trans
        ((reportLeft_grown h _).trans (ih _))
      exact ⟨k.done, k.collected⟩
    · exact ⟨List.prefix_rfl, rfl⟩

theorem headDecision_kept {s t : State} (h : LineKept s t) : LineKept s (headDecision t) := by
  obtain ⟨g, c, k⟩ := headDecision_busWork t
  have hg : LineKept t { t with dlv := { t.dlv with gate := g, gateConfirm := c } } :=
    (LineKept.refl t).next ⟨rfl, rfl, rfl, rfl, rfl, rfl, rfl, rfl⟩ ⟨rfl, rfl, rfl, rfl, rfl, rfl⟩ rfl rfl
  exact h.trans (hg.trans k.lineKept)

theorem headDecision_decisionKept (s : State) : DecisionKept s (headDecision s) := by
  obtain ⟨g, c, k⟩ := headDecision_busWork s
  exact ⟨k.decisionKept.clamps, k.decisionKept.present, k.decisionKept.dest⟩

theorem headDecision_line (s : State) : (headDecision s).line = s.line := by
  obtain ⟨g, c, k⟩ := headDecision_busWork s
  exact k.line

theorem headDecision_carState (s : State) : (headDecision s).car.state = s.car.state := by
  obtain ⟨g, c, k⟩ := headDecision_busWork s
  obtain ⟨_, _, hc, -⟩ := k.car
  rw [hc]

/-! ## COLLECT -/

/-- The records taken from the done list, and counted (R133). -/
def recordsTaken (k : Nat) (s : State) : State :=
  { s with dlv := { s.dlv with done := s.dlv.done.drop k, collected := s.dlv.collected + BitVec.ofNat 32 k } }

theorem collected_eq (k : Nat) (s : State) :
    collected k s = headDecision (drainWaiters s.dlv.waiters (recordsTaken k s)) := rfl

theorem takeCollect_of_range {b : Byte} {s : State} (hs : s.line.state ≠ .starting) (h₁ : 1 ≤ b.toNat)
    (h₂ : b.toNat ≤ 8) : takeCollect [b] s =
      let k := min b.toNat s.dlv.done.length
      (if k = 0 then s else collected k s, .ok, leBytes 1 k ++ (s.dlv.done.take k).flatMap encodeDone) := by
  have hrange : ¬(byteAt [b] 0 = 0 ∨ 8 < byteAt [b] 0) := by
    show ¬(b.toNat = 0 ∨ 8 < b.toNat)
    omega
  exact (if_neg (not_starting hs)).trans ((if_neg (not_not_intro rfl)).trans (if_neg hrange))

theorem takeCollect_badRange {b : Byte} {s : State} (hs : s.line.state ≠ .starting) (h : b.toNat = 0 ∨ 8 < b.toNat) :
    takeCollect [b] s = refuse .badRange s :=
  (if_neg (not_starting hs)).trans ((if_neg (not_not_intro rfl)).trans
    (if_pos (show byteAt [b] 0 = 0 ∨ 8 < byteAt [b] 0 from h)))

/-- With no record taken nothing changes. -/
theorem recordsTaken_zero (s : State) : recordsTaken 0 s = s := by
  simp [recordsTaken]

/-- The part as COLLECT's owner leaves it. -/
def collectTaken (k : Nat) (s : State) : State := if k = 0 then s else collected k s

theorem collectTaken_grown (k : Nat) (s : State) : DoneGrown (recordsTaken k s) (collectTaken k s) := by
  unfold collectTaken
  split
  · next hk =>
    rw [hk, recordsTaken_zero]
    exact .refl s
  · exact (drainWaiters_grown _ _).trans (headDecision_kept (.refl _)).doneGrown

/-- With no record waiting nothing else moves but the gate. -/
theorem collectTaken_quiet (k : Nat) {s : State} (h : s.dlv.waiters = []) :
    LineKept (recordsTaken k s) (collectTaken k s) ∧ (collectTaken k s).line = s.line
      ∧ (collectTaken k s).car.state = s.car.state := by
  have hdrain : drainWaiters s.dlv.waiters (recordsTaken k s) = recordsTaken k s := by
    rw [h]
    show { recordsTaken k s with dlv := { (recordsTaken k s).dlv with waiters := [] } } = _
    rw [← h]
    rfl
  unfold collectTaken
  split
  · next hk =>
    rw [hk, recordsTaken_zero]
    exact ⟨.refl s, rfl, rfl⟩
  · rw [collected_eq, hdrain]
    exact ⟨headDecision_kept (.refl _), headDecision_line _, headDecision_carState _⟩

/-- The waiting records take the freed places. -/
theorem collectTaken_written {k : Nat} {s : State} (hk : k ≠ 0) (hl : s.dlv.waiters.Nodup)
    (hw : ∀ h ∈ s.dlv.waiters, waitingRecord s h ≠ none) (hd : present s .drive = true) :
    Written (s.dlv.waiters.take (32 - (s.dlv.done.drop k).length)) (recordsTaken k s) (collectTaken k s)
      ∧ (collectTaken k s).dlv.waiters = s.dlv.waiters.drop (32 - (s.dlv.done.drop k).length) := by
  obtain ⟨hwritten, hwait⟩ := drainWaiters_written (s := recordsTaken k s) hl hw hd
  unfold collectTaken
  rw [if_neg hk, collected_eq]
  obtain ⟨v, hv⟩ : ∃ v, v = drainWaiters s.dlv.waiters (recordsTaken k s) := ⟨_, rfl⟩
  rw [← hv] at hwritten hwait ⊢
  obtain ⟨htables, hbooks, -, -⟩ := headDecision_kept (LineKept.refl v)
  have hk' := headDecision_decisionKept v
  exact ⟨{
    done := hbooks.done.trans hwritten.done
    collected := hbooks.collected.trans hwritten.collected
    books := fun c => (bookIn_of_clamps hk'.clamps c).trans (hwritten.books c)
    cooling := hbooks.cooling.trans hwritten.cooling
    held := hbooks.held.trans hwritten.held
    clock := htables.clock.trans hwritten.clock
    dest := hk'.dest.trans hwritten.dest
    present := fun n => (hk'.present n).trans (hwritten.present n) }, hbooks.waiters.trans hwait⟩

theorem take_min_length {α : Type} (l : List α) (n : Nat) : l.take (min l.length n) = l.take n := by
  rw [min_comm, ← List.take_take, List.take_length]

/-- Settles O15: the records are taken, then the freed places are filled and the head decided. -/
theorem collectTakesOldestRecords : Obligations.CollectTakesOldestRecords := by
  unfold Obligations.CollectTakesOldestRecords
  intro g b s h hs
  refine ⟨fun hb => exec_of_refused rfl h (takeCollect_badRange (s := begun s) hs hb), fun h₁ h₂ => ?_⟩
  intro k data u
  have htake : takeCollect [b] (begun s) = (collectTaken k (begun s), .ok, data) :=
    takeCollect_of_range (s := begun s) hs h₁ h₂
  have hexec := exec_of_taken (c := .collect g [b]) rfl h htake
  have hkept : ∀ {v w : State}, LineKept v w → LineKept v (respond 0x0E g .ok data w) := fun a => respond_kept _ _ _ _ a
  refine ⟨fun hnone => ?_, respond 0x0E g .ok data (collectTaken k (begun s)), hexec, respond_answered _ _ _ _ _, ?_⟩
  · have hk : k = 0 := by simp [k, hnone]
    have hdata : data = [0] := by simp [data, hk, leBytes]
    rw [hexec, hdata, hk]
    rfl
  · obtain ⟨x, hx⟩ := respond_host 0x0E g .ok data (collectTaken k (begun s))
    obtain ⟨hdone, hcount⟩ := collectTaken_grown k (begun s)
    refine ⟨?_, ?_, fun hw => ?_, fun hne hnodup hrec hd => ?_⟩
    · rw [hx]
      exact hcount
    · rw [hx]
      exact hdone
    · obtain ⟨hl, hline, hcar⟩ := collectTaken_quiet k (s := begun s) hw
      have hbegun : LineKept u (recordsTaken k (begun s)) :=
        ⟨⟨rfl, rfl, rfl, rfl, rfl, rfl, rfl, rfl⟩, ⟨rfl, rfl, rfl, rfl, rfl, rfl⟩, .ofEq rfl, rfl⟩
      refine ⟨hkept (hbegun.trans hl), ?_, ?_⟩
      · rw [hx]
        exact hline
      · rw [hx]
        exact hcar
    · intro n writes
      have hk : k ≠ 0 := by
        have hpos := List.length_pos_iff.2 hne
        simp only [k]
        omega
      obtain ⟨hwritten, hwait⟩ := collectTaken_written (s := begun s) hk hnodup hrec hd
      have hwrites : writes = s.dlv.waiters.take (32 - (s.dlv.done.drop k).length) := take_min_length _ _
      have hdrop : s.dlv.waiters.drop (32 - (s.dlv.done.drop k).length) = s.dlv.waiters.drop n := by
        rcases Nat.le_total s.dlv.waiters.length (32 - (s.dlv.done.drop k).length) with hle | hle
        · rw [show n = s.dlv.waiters.length from min_eq_left hle, List.drop_length, List.drop_eq_nil_of_le hle]
        · rw [show n = 32 - (s.dlv.done.drop k).length from min_eq_right hle]
      rw [hx, hwrites]
      exact ⟨hwait.trans hdrop, hwritten.done, hwritten.books, hwritten.cooling, hwritten.held⟩

end Sys2Proof.Machine

/-! PROOFS. The line's entries state by state, requests that stay asked for, and a line that goes on (chapters 6 and
9). -/

namespace Sys2Proof.Machine

/-! ## The entry into a state -/

section
variable (l : LineState) (s : State)

@[simp] theorem enterState_line : (enterState l s).line = { s.line with
    state := l, halt := false, park := false, lamps := lampsOf l s.line.estopLatch, flashBase := s.clock } := by
  rw [enterState, raiseState_line]

@[simp] theorem enterState_clock : (enterState l s).clock = s.clock := by
  obtain ⟨x, hx⟩ := raiseState_host l _
  rw [enterState, hx]

@[simp] theorem enterState_scan : (enterState l s).scan = s.scan := by
  obtain ⟨x, hx⟩ := raiseState_host l _
  rw [enterState, hx]

@[simp] theorem enterState_settings : (enterState l s).settings = s.settings := by
  obtain ⟨x, hx⟩ := raiseState_host l _
  rw [enterState, hx]

@[simp] theorem enterState_glue : (enterState l s).glue = glueFollow l s.settings s.glue := by
  obtain ⟨x, hx⟩ := raiseState_host l _
  rw [enterState, hx]

@[simp] theorem enterState_tickets : (enterState l s).tickets = s.tickets := by
  obtain ⟨x, hx⟩ := raiseState_host l _
  rw [enterState, hx]

@[simp] theorem enterState_mismatch : (enterState l s).cover.mismatch =
    if l == .running || l == .draining then 0 else s.cover.mismatch := by
  obtain ⟨x, hx⟩ := raiseState_host l _
  rw [enterState, hx]
  exact apply_ite (·.mismatch) ((l == .running || l == .draining) = true) { s.cover with mismatch := 0 } s.cover

@[simp] theorem enterState_car : (enterState l s).car =
    if l == .running then { s.car with diverts := 0 } else s.car := by
  obtain ⟨x, hx⟩ := raiseState_host l _
  rw [enterState, hx]

@[simp] theorem entryTests_line : (entryTests s).line = { s.line with holds := entryHolds s } := by
  unfold entryTests
  simp only
  split
  · rw [raiseNotice_line]
  · rfl

end

section
variable {s : State}

theorem anyGuardOpen_of_scan {t : State} (h : t.scan = s.scan) : anyGuardOpen t = anyGuardOpen s := by
  unfold anyGuardOpen guardOpen
  rw [h]

theorem coverEmptyClosed_of_scan {t : State} (h : t.scan = s.scan) : coverEmptyClosed t = coverEmptyClosed s := by
  unfold coverEmptyClosed contactClosed
  rw [h]

theorem anyLoaded_of_clamps {t : State} (h : t.car.clamps = s.car.clamps) : anyLoaded t = anyLoaded s := by
  unfold anyLoaded
  rw [h]

theorem anyUnrejected_of_clamps {t : State} (h : t.car.clamps = s.car.clamps) :
    anyUnrejected t = anyUnrejected s := by
  unfold anyUnrejected
  rw [h]

theorem enterState_clamps (l : LineState) : (enterState l s).car.clamps = s.car.clamps :=
  (enterState_moved l (.refl s)).clamps

/-- The pot's condition as an entry into a state that works the pot leaves it. -/
def potOut (s : State) : Bool :=
  if s.glue.target.isWorking then s.glue.outOfBand else outOfBandOf s.glue.reading s.settings.workTemp

theorem glueFollow_working {l : LineState} (h : (potTargetOf l s.settings).isWorking = true) :
    glueFollow l s.settings s.glue = { s.glue with target := potTargetOf l s.settings, outOfBand := potOut s } := by
  unfold glueFollow potOut
  simp only [h, Bool.not_true, Bool.false_eq_true, if_false]

/-- An entry into a state that works the pot leaves the condition as it was or as it is found. -/
theorem potOut_enterState {l : LineState} (h : (potTargetOf l s.settings).isWorking = true) :
    potOut (enterState l s) = potOut s := by
  have hw : (enterState l s).glue.target.isWorking = true := by
    rw [enterState_glue, glueFollow_working h]
    exact h
  unfold potOut
  rw [if_pos hw, enterState_glue, glueFollow_working h]
  rfl

theorem entryClear_iff : EntryClear s ↔
    anyGuardOpen s = false ∧ coverEmptyClosed s = false ∧ potOut s = false := by
  have hp : potOut s = false ↔ (s.glue.target.isWorking = true → s.glue.outOfBand = false)
      ∧ (s.glue.target.isWorking = false → outOfBandOf s.glue.reading s.settings.workTemp = false) := by
    unfold potOut
    cases s.glue.target.isWorking <;> simp
  rw [hp]
  exact ⟨fun h => ⟨h.guards, h.covers, h.band, h.heat⟩, fun ⟨a, b, c, d⟩ => ⟨a, b, c, d⟩⟩

/-- The hold causes that the entry into RUNNING finds. -/
theorem entryHolds_running (l : Line) : entryHolds (enterState .running { s with line := l }) = { Holds.empty with
    guardOpen := anyGuardOpen s, coverEmpty := coverEmptyClosed s, glueTemp := potOut s } := by
  unfold entryHolds glueTempTest
  rw [anyGuardOpen_of_scan (enterState_scan _ _), coverEmptyClosed_of_scan (enterState_scan _ _), enterState_glue,
    glueFollow_working (l := .running) rfl, enterState_line]
  simp
  exact ⟨rfl, rfl, rfl⟩

/-- The hold causes that the entry into DRAINING finds. -/
theorem entryHolds_draining (l : Line) : entryHolds (enterState .draining { s with line := l }) = { Holds.empty with
    guardOpen := anyGuardOpen s, coverEmpty := coverEmptyClosed s, glueTemp := potOut s && anyUnrejected s } := by
  unfold entryHolds glueTempTest
  rw [anyGuardOpen_of_scan (enterState_scan _ _), coverEmptyClosed_of_scan (enterState_scan _ _), enterState_glue,
    glueFollow_working (l := .draining) rfl, enterState_line, anyUnrejected_of_clamps (enterState_clamps _)]
  simp
  exact ⟨rfl, rfl, rfl⟩

end

/-! ## The entries into RUNNING and DRAINING (R105) -/

theorem entryTests_host (s : State) : ∃ x, entryTests s =
    { s with line := { s.line with holds := entryHolds s }, host := x } := by
  unfold entryTests
  simp only
  split
  · exact raiseNotice_host _ _ _
  · exact ⟨_, rfl⟩

/-- The line just entered with the tests made: what it holds, and what else the entry has changed. -/
structure Tested (l : LineState) (x : Line) (holds : Holds) (s v : State) : Prop where
  line     : v.line = { x with
    state := l, halt := false, park := false, lamps := lampsOf l x.estopLatch, flashBase := s.clock, holds := holds }
  car      : v.car = if l == .running then { s.car with diverts := 0 } else s.car
  mismatch : v.cover.mismatch = if l == .running || l == .draining then 0 else s.cover.mismatch

theorem tested_entry (l : LineState) (x : Line) (s : State) :
    Tested l x (entryHolds (enterState l { s with line := x })) s (entryTests (enterState l { s with line := x })) := by
  obtain ⟨y, hy⟩ := entryTests_host (enterState l { s with line := x })
  refine ⟨?_, ?_, ?_⟩
  · rw [entryTests_line, enterState_line]
  · rw [hy]
    exact enterState_car l _
  · rw [hy]
    exact enterState_mismatch l _

section
variable {s : State}

/-- Entering RUNNING, before the tests act. -/
def runningLine (s : State) : Line := { s.line with warmTimer := none, parkTimer := none, drainRelease := false }

/-- Entering DRAINING, before the tests act. -/
def drainingLine (s : State) : Line := { s.line with standbyTimer := none, drainRelease := false }

theorem enterRunning_eq (s : State) : ∃ v, Tested .running (runningLine s) { Holds.empty with
      guardOpen := anyGuardOpen s, coverEmpty := coverEmptyClosed s, glueTemp := potOut s } s v
    ∧ enterRunning s = if v.line.holds.any && holdsAtOnce v then enterHeld v
      else if v.car.state == .standing && !anyLoaded v then startStandby v else v := by
  refine ⟨_, ?_, rfl⟩
  have h := tested_entry .running (runningLine s) s
  rw [entryHolds_running] at h
  exact h

theorem enterDraining_eq (s : State) : ∃ v, Tested .draining (drainingLine s) { Holds.empty with
      guardOpen := anyGuardOpen s, coverEmpty := coverEmptyClosed s, glueTemp := potOut s && anyUnrejected s } s v
    ∧ enterDraining s = if v.line.holds.any && holdsAtOnce v then enterHeld v
      else if v.car.state == .standing && !anyLoaded v && !v.line.holds.any then enterStandby v else v := by
  refine ⟨_, ?_, rfl⟩
  have h := tested_entry .draining (drainingLine s) s
  rw [entryHolds_draining] at h
  exact h

/-- A line just entered RUNNING whose tests have found nothing. -/
theorem enterRunning_clear (h : EntryClear s) : ∃ x, (enterRunning s).line = { runningLine s with
      state := .running, halt := false, park := false, lamps := lampsOf .running s.line.estopLatch
      flashBase := s.clock, holds := .empty, standbyTimer := x }
    ∧ (enterRunning s).car.diverts = 0 ∧ (enterRunning s).cover.mismatch = 0 := by
  obtain ⟨hg, hc, hp⟩ := entryClear_iff.1 h
  obtain ⟨v, ⟨hl, hcar, hm⟩, he⟩ := enterRunning_eq s
  rw [hg, hc, hp] at hl
  have hany : v.line.holds.any = false := by rw [hl]; rfl
  have hdiverts : v.car.diverts = 0 := by rw [hcar]; rfl
  rw [he, hany, Bool.false_and, if_neg Bool.false_ne_true]
  split
  · refine ⟨some (v.clock, v.settings.standbyDelay * 1000), ?_, hdiverts, hm⟩
    show { v.line with standbyTimer := some (v.clock, v.settings.standbyDelay * 1000) } = _
    rw [hl]
    rfl
  · exact ⟨_, hl, hdiverts, hm⟩

/-- A line just entered RUNNING whose tests have found a cause with the carousel at rest. -/
theorem enterRunning_held (h : ¬EntryClear s) (hs : s.car.state = .standing ∨ s.car.state = .unhomed) :
    (enterRunning s).line.state = .held ∧ (enterRunning s).line.returnState = .running
      ∧ (enterRunning s).line.holds = { Holds.empty with
        guardOpen := anyGuardOpen s, coverEmpty := coverEmptyClosed s, glueTemp := potOut s } := by
  obtain ⟨v, ⟨hl, hcar, -⟩, he⟩ := enterRunning_eq s
  have hany : v.line.holds.any = true := by
    rw [hl]
    rw [entryClear_iff, not_and_or, not_and_or, Bool.not_eq_false, Bool.not_eq_false, Bool.not_eq_false] at h
    rcases h with h | h | h <;> simp [Holds.any, h]
  have hat : holdsAtOnce v = true := by
    unfold holdsAtOnce
    rw [hcar]
    rcases hs with hs | hs <;> simp [hs]
  rw [he, hany, hat, Bool.and_true, if_pos rfl]
  unfold enterHeld
  simp only [enterState_line, hl]
  exact ⟨trivial, by simp, trivial⟩

/-- A line just entered DRAINING with a clamp loaded whose tests have found nothing. -/
theorem enterDraining_clear (hg : anyGuardOpen s = false) (hc : coverEmptyClosed s = false)
    (hp : (potOut s && anyUnrejected s) = false) (hl : anyLoaded s = true) :
    (enterDraining s).line = { drainingLine s with
      state := .draining, halt := false, park := false, lamps := lampsOf .draining s.line.estopLatch
      flashBase := s.clock, holds := .empty } ∧ (enterDraining s).cover.mismatch = 0 := by
  obtain ⟨v, ⟨hline, hcar, hm⟩, he⟩ := enterDraining_eq s
  rw [hg, hc, hp] at hline
  have hany : v.line.holds.any = false := by rw [hline]; rfl
  have hloaded : anyLoaded v = true := (anyLoaded_of_clamps (s := s) (by rw [hcar]; rfl)).trans hl
  rw [he, hany, hloaded]
  simp only [Bool.false_and, Bool.not_true, Bool.and_false, Bool.false_eq_true, if_false]
  exact ⟨hline, hm⟩

/-- A line just entered DRAINING whose tests have found a cause with the carousel at rest. -/
theorem enterDraining_held (h : anyGuardOpen s = true ∨ coverEmptyClosed s = true)
    (hs : s.car.state = .standing ∨ s.car.state = .unhomed) :
    (enterDraining s).line.state = .held ∧ (enterDraining s).line.returnState = .draining := by
  obtain ⟨v, ⟨hl, hcar, -⟩, he⟩ := enterDraining_eq s
  have hany : v.line.holds.any = true := by
    rw [hl]
    rcases h with h | h <;> simp [Holds.any, h]
  have hat : holdsAtOnce v = true := by
    unfold holdsAtOnce
    rw [hcar]
    rcases hs with hs | hs <;> simp [hs]
  rw [he, hany, hat, Bool.and_true, if_pos rfl]
  unfold enterHeld
  simp only [enterState_line, hl]
  exact ⟨trivial, by simp⟩

end

end Sys2Proof.Machine

/-! PROOFS. Requests that stay asked for, and a line that goes on (chapters 6 and 9). -/

namespace Sys2Proof.Machine

/-! ## A request asked for stays asked for until it is answered (R156, R162) -/

/-- The frames that wait at the requesters. -/
def Bus.frames (b : Bus) : List Frame := b.carQ ++ b.trimQ ++ b.coolQ ++ b.probeQ

theorem mem_frames {b : Bus} {f : Frame} : f ∈ b.frames ↔ f ∈ b.carQ ∨ f ∈ b.trimQ ∨ f ∈ b.coolQ ∨ f ∈ b.probeQ := by
  simp only [Bus.frames, List.mem_append, or_assoc]

theorem enqueue_frames (f : Frame) (b : Bus) (x : Frame) : x ∈ (b.enqueue f).frames ↔ x = f ∨ x ∈ b.frames := by
  unfold Bus.enqueue
  split <;> simp only [mem_frames, List.mem_append, List.mem_singleton] <;> tauto

theorem enqueue_current (f : Frame) (b : Bus) : (b.enqueue f).current = b.current := by
  unfold Bus.enqueue
  split <;> rfl

theorem enqueue_busyWait (f : Frame) (b : Bus) : (b.enqueue f).busyWait = b.busyWait := by
  unfold Bus.enqueue
  split <;> rfl

/-- A grant takes one frame from where it waits. -/
structure Granted (b : Bus) (f : Frame) (b' : Bus) : Prop where
  frames   : ∀ x, x ∈ b.frames ↔ x = f ∨ x ∈ b'.frames
  busyWait : b'.busyWait = b.busyWait

theorem takeFrom_granted {b b' : Bus} {f : Frame} {r : Rotation} (h : b.takeFrom r = some (f, b')) : Granted b f b' := by
  cases r with
  | trimmer =>
    simp only [Bus.takeFrom] at h
    split at h
    · next q e =>
      cases h
      exact ⟨fun x => by simp only [mem_frames, e, List.mem_cons]; tauto, rfl⟩
    · cases h
  | cooling =>
    simp only [Bus.takeFrom] at h
    split at h
    · next q e =>
      cases h
      exact ⟨fun x => by simp only [mem_frames, e, List.mem_cons]; tauto, rfl⟩
    · cases h
  | probe =>
    simp only [Bus.takeFrom] at h
    split at h
    · next q e =>
      cases h
      exact ⟨fun x => by simp only [mem_frames, e, List.mem_cons]; tauto, rfl⟩
    · cases h

theorem grant_granted {b b' : Bus} {f : Frame} (h : b.grant = some (f, b')) : Granted b f b' := by
  unfold Bus.grant at h
  split at h
  · next q e =>
    cases h
    exact ⟨fun x => by simp only [mem_frames, e, List.mem_cons]; tauto, rfl⟩
  · obtain ⟨r, -, hr⟩ := List.exists_of_findSome?_eq_some h
    exact takeFrom_granted hr

/-- The frames that wait and the requests in their 5 ms are as before, and a request has gone on the bus when it was
the frame sent. -/
theorem sendFrame_bus (f : Frame) (s : State) : (sendFrame f s).bus.frames = s.bus.frames
    ∧ (sendFrame f s).bus.busyWait = s.bus.busyWait
    ∧ ∀ n k q, f = .req ⟨n, k, q⟩ → ∃ q' w, (sendFrame f s).bus.current = some (.request ⟨n, k, q'⟩ false w) := by
  cases f with
  | req r =>
    have hl : ∀ p : Bool, (if p then startLimit r.kind s else s).bus = s.bus := fun p => by
      cases p
      · rfl
      · exact startLimit_nodes r.kind s
    refine ⟨?_, ?_, ?_⟩
    · simp only [sendFrame, sendRequest, Bus.frames, setNode, hl]
    · simp only [sendFrame, sendRequest, setNode, hl]
    · rintro n k q ⟨⟩
      exact ⟨_, _, rfl⟩
  | work tag items again => exact ⟨rfl, rfl, nofun⟩
  | poll => exact ⟨rfl, rfl, nofun⟩
  | abortAll => exact ⟨rfl, rfl, nofun⟩
  | abortJob st => exact ⟨rfl, rfl, nofun⟩
  | abortTrimmer => exact ⟨rfl, rfl, nofun⟩

theorem pump_asked (m : Nat) {s : State} {n : NodeId} {k : ReqKind} (h : Asked s.bus n k) :
    Asked (pump m s).bus n k := by
  induction m generalizing s with
  | zero => exact h
  | succ m ih =>
    unfold pump
    split
    · next f b hcur hgrant =>
      obtain ⟨hframes, hbusy⟩ := grant_granted hgrant
      obtain ⟨hf, hw, hreq⟩ := sendFrame_bus f { s with bus := b }
      refine ih ?_
      rcases h with ⟨x, hx, q, hxq⟩ | ⟨q, g, w, hc⟩ | ⟨q, w, hm⟩
      · rcases (hframes x).1 hx with rfl | hx'
        · obtain ⟨q', w, hc⟩ := hreq n k q hxq
          exact .inr (.inl ⟨q', false, w, hc⟩)
        · exact .inl ⟨x, (by rw [← Bus.frames, hf]; exact hx'), q, hxq⟩
      · rw [hcur] at hc
        cases hc
      · exact .inr (.inr ⟨q, w, by rw [hw, show b.busyWait = _ from hbusy]; exact hm⟩)
    · exact h

theorem handOver_asked (f : Frame) {s : State} {n : NodeId} {k : ReqKind} (h : Asked s.bus n k) :
    Asked (handOver f s).bus n k := by
  refine pump_asked _ ?_
  rcases h with ⟨x, hx, q, hxq⟩ | ⟨q, g, w, hc⟩ | ⟨q, w, hm⟩
  · exact .inl ⟨x, (enqueue_frames f _ x).2 (.inr hx), q, hxq⟩
  · exact .inr (.inl ⟨q, g, w, (enqueue_current f _).trans hc⟩)
  · exact .inr (.inr ⟨q, w, by rw [enqueue_busyWait]; exact hm⟩)

/-- A request handed over is asked for. -/
theorem handRequest_asked (n : NodeId) (k : ReqKind) (s : State) : Asked (handRequest n k s).bus n k :=
  pump_asked _ (.inl ⟨_, (enqueue_frames _ _ _).2 (.inl rfl), none, rfl⟩)

theorem headDecision_asked {s : State} {n : NodeId} {k : ReqKind} (h : Asked s.bus n k) :
    Asked (headDecision s).bus n k := by
  unfold headDecision
  split
  · split
    · exact h
    · split
      · exact handOver_asked _ h
      · split
        · exact handOver_asked _ h
        · exact h
  · exact h

/-! ## The gate stop mark cleared (R129, R131) -/

/-- What the clearing of the gate stop mark leaves. -/
structure GateCleared (s t : State) : Prop where
  kept     : LineKept s t
  line     : t.line = s.line
  glue     : t.glue = s.glue
  car      : ∃ jobs m, t.car = { s.car with jobs := jobs, moveTimer := m }
  mismatch : t.cover.mismatch = s.cover.mismatch
  gateStop : t.dlv.gateStop = false
  asked    : ∀ n k, Asked s.bus n k → Asked t.bus n k

theorem clearGateStop_cleared (s : State) : GateCleared s (clearGateStop s) := by
  unfold clearGateStop
  split
  · obtain ⟨g, c, k⟩ := headDecision_busWork { s with dlv := { s.dlv with gateStop := false } }
    obtain ⟨j, m, hc, -⟩ := k.car
    have hkept : LineKept s { s with dlv := { s.dlv with gateStop := false } } :=
      (LineKept.refl s).next ⟨rfl, rfl, rfl, rfl, rfl, rfl, rfl, rfl⟩ ⟨rfl, rfl, rfl, rfl, rfl, rfl⟩ rfl rfl
    exact ⟨headDecision_kept hkept, k.line, k.glue, ⟨j, m, hc⟩, k.mismatch, by rw [k.dlv], fun n x h =>
      headDecision_asked (s := { s with dlv := { s.dlv with gateStop := false } }) h⟩
  · next h => exact ⟨.refl s, rfl, rfl, ⟨_, _, rfl⟩, rfl, by simpa using h, fun _ _ h => h⟩

end Sys2Proof.Machine

/-! PROOFS. A line that goes on: what telling the carousel leaves of a moving line without a hold (chapter 3). -/

namespace Sys2Proof.Machine

theorem isSome_of_clampsKept {s t : State} (h : ClampsKept s t) (c : Fin 20) :
    (bookIn t c).isSome = (bookIn s c).isSome := by
  cases hb : bookIn s c with
  | none => rw [h.empty c hb]
  | some b =>
    obtain ⟨b', hb', -⟩ := h.book c b hb
    rw [hb']
    rfl

theorem anyLoaded_iff {s : State} : anyLoaded s = true ↔ ∃ c, (bookIn s c).isSome = true := by
  simp only [anyLoaded, List.any_eq_true, Vector.mem_toList_iff, Vector.mem_iff_getElem]
  constructor
  · rintro ⟨k, ⟨i, hi, rfl⟩, h⟩
    exact ⟨⟨i, hi⟩, h⟩
  · rintro ⟨c, h⟩
    exact ⟨_, ⟨c.val, c.isLt, rfl⟩, h⟩

theorem anyLoaded_of_kept {s t : State} (h : ClampsKept s t) : anyLoaded t = anyLoaded s := by
  rw [Bool.eq_iff_iff, anyLoaded_iff, anyLoaded_iff]
  simp only [isSome_of_clampsKept h]

/-- A moving line without a hold and without the halt mark, with a clamp loaded when it drains. -/
structure MovesOn (s : State) : Prop where
  moving : s.line.state = .running ∨ s.line.state = .draining
  holds  : s.line.holds.any = false
  halt   : s.line.halt = false
  loaded : s.line.state = .draining → anyLoaded s = true

/-- The same with DRIVE in touch. -/
structure GoesOn (s : State) : Prop extends MovesOn s where
  drive  : present s .drive = true

/-- The line has gone on: nothing of it but the standby timer has moved, which does not start in DRAINING. -/
structure WentOn (s t : State) : Prop where
  kept     : LineKept s t
  line     : ∃ x, t.line = { s.line with standbyTimer := x }
    ∧ (s.line.state = .draining → s.line.standbyTimer = none → x = none)
  diverts  : t.car.diverts = s.car.diverts
  mismatch : t.cover.mismatch = s.cover.mismatch
  glue     : t.glue = s.glue
  present  : ∀ n, present t n = present s n

theorem WentOn.refl (s : State) : WentOn s s := ⟨.refl s, ⟨_, rfl, fun _ h => h⟩, rfl, rfl, rfl, fun _ => rfl⟩

theorem WentOn.trans {s t u : State} (h : WentOn s t) (k : WentOn t u) : WentOn s u where
  kept := h.kept.trans k.kept
  line := by
    obtain ⟨x, hx, hx'⟩ := h.line
    obtain ⟨y, hy, hy'⟩ := k.line
    refine ⟨y, by rw [hy, hx], fun hd hn => hy' (by rw [hx]; exact hd) (by rw [hx]; exact hx' hd hn)⟩
  diverts := k.diverts.trans h.diverts
  mismatch := k.mismatch.trans h.mismatch
  glue := k.glue.trans h.glue
  present n := (k.present n).trans (h.present n)

theorem WentOn.state {s t : State} (h : WentOn s t) : t.line.state = s.line.state := by
  obtain ⟨x, hx, -⟩ := h.line
  rw [hx]

theorem WentOn.holds {s t : State} (h : WentOn s t) : t.line.holds = s.line.holds := by
  obtain ⟨x, hx, -⟩ := h.line
  rw [hx]

theorem MovesOn.went {s t : State} (h : MovesOn s) (k : WentOn s t) : MovesOn t where
  moving := by rw [k.state]; exact h.moving
  holds := by rw [k.holds]; exact h.holds
  halt := by
    obtain ⟨x, hx, -⟩ := k.line
    rw [hx]
    exact h.halt
  loaded hd := (anyLoaded_of_kept k.kept.clamps).trans (h.loaded (k.state ▸ hd))

/-- The line has gone on, or has lost DRIVE with a move to ask for (R54, R59, R158). -/
def WentOrLost (s t : State) : Prop :=
  WentOn s t ∨ present s .drive = false ∧ ∃ u, WentOn s u ∧ t = lineFault .nodeLost u

section
variable {s t : State}

theorem WentOrLost.went (h : WentOrLost s t) (hd : present s .drive = true) : WentOn s t :=
  h.resolve_right fun k => absurd k.1 (by rw [hd]; nofun)

theorem WentOn.orLost {u : State} (h : WentOn s t) (k : WentOrLost t u) : WentOrLost s u :=
  k.imp h.trans fun ⟨hd, v, hv, e⟩ => ⟨(h.present _).symm.trans hd, v, h.trans hv, e⟩

theorem WentOrLost.ite {p : Prop} [Decidable p] {u : State} (h : p → WentOrLost s t) (k : ¬p → WentOrLost s u) :
    WentOrLost s (if p then t else u) := by
  split
  · exact h ‹_›
  · exact k ‹_›

theorem WentOn.ite {p : Prop} [Decidable p] {u : State} (h : p → WentOn s t) (k : ¬p → WentOn s u) :
    WentOn s (if p then t else u) := by
  split
  · exact h ‹_›
  · exact k ‹_›

/-- A change that the line does not see. -/
theorem WentOn.next {u : State} (h : WentOn s t) (hk : LineKept t u) (hl : u.line = t.line)
    (hd : u.car.diverts = t.car.diverts) (hm : u.cover.mismatch = t.cover.mismatch) (hg : u.glue = t.glue)
    (hp : ∀ n, Machine.present u n = Machine.present t n) : WentOn s u :=
  h.trans ⟨hk, ⟨_, hl, fun _ e => e⟩, hd, hm, hg, hp⟩

theorem BusWork.wentOn (h : BusWork s t) : WentOn s t := by
  obtain ⟨j, m, hc, -⟩ := h.car
  exact (WentOn.refl s).next h.lineKept h.line (by rw [hc]) h.mismatch h.glue h.present

theorem handOver_went (f : Frame) (h : WentOn s t) : WentOn s (handOver f t) := h.trans (handOver_busWork f t).wentOn

theorem setCarState_went (c : CarState) (h : WentOn s t) : WentOn s (setCarState c t) :=
  h.next (setCarState_kept c (.refl t)) rfl rfl rfl rfl fun _ => rfl

theorem stopStandby_went (h : WentOn s t) : WentOn s (stopStandby t) :=
  h.trans ⟨stopStandby_kept (.refl t), ⟨none, rfl, fun _ _ => rfl⟩, rfl, rfl, rfl, fun _ => rfl⟩

theorem startStandby_went (hr : t.line.state = .running) (h : WentOn s t) : WentOn s (startStandby t) :=
  h.trans ⟨startStandby_kept (.refl t), ⟨_, rfl, fun hd => absurd (hr.symm.trans hd) nofun⟩, rfl, rfl, rfl, fun _ => rfl⟩

theorem beginDwell_went (k : DwellKind) (l : List Job) (h : WentOn s t) : WentOn s (beginDwell k l t) := by
  let u : State := { t with
    car := { t.car with state := .dwelling, jobs := l, dwell := k, tag := t.car.tag + 1 }
    tickets := { t.tickets with reserved := t.tickets.reserved || l.any Job.openLoad } }
  have hu : WentOn s u := h.next
    ⟨⟨rfl, rfl, rfl, rfl, rfl, rfl, rfl, rfl⟩, ⟨rfl, rfl, rfl, rfl, rfl, rfl⟩, .ofEq rfl, rfl⟩ rfl rfl rfl rfl fun _ => rfl
  have hstop := stopStandby_went hu
  unfold beginDwell
  simp only
  split
  · exact hstop
  · exact handOver_went _ hstop

theorem sendIndex_went (t : State) : WentOrLost t (sendIndex t) := by
  let u : State := { t with car := { t.car with state := .indexing, moveTimer := none } }
  have hu : WentOn t u := (WentOn.refl t).next
    ⟨⟨rfl, rfl, rfl, rfl, rfl, rfl, rfl, rfl⟩, ⟨rfl, rfl, rfl, rfl, rfl, rfl⟩, .ofEq rfl, rfl⟩ rfl rfl rfl rfl fun _ => rfl
  exact .ite (fun _ => .inl (handOver_went _ (stopStandby_went hu)))
    fun hd => .inr ⟨Bool.eq_false_iff.mpr hd, _, stopStandby_went hu, rfl⟩

theorem sendHome_went (t : State) : WentOrLost t (sendHome t) := by
  let u : State := { t with car := { t.car with state := .homing, moveTimer := none } }
  have hu : WentOn t u := (WentOn.refl t).next
    ⟨⟨rfl, rfl, rfl, rfl, rfl, rfl, rfl, rfl⟩, ⟨rfl, rfl, rfl, rfl, rfl, rfl⟩, .ofEq rfl, rfl⟩ rfl rfl rfl rfl fun _ => rfl
  exact .ite (fun _ => .inl (handOver_went _ hu)) fun hd => .inr ⟨Bool.eq_false_iff.mpr hd, _, hu, rfl⟩

theorem carStood_went {again : State → State} (n e : Bool) (g : MovesOn t) (h : WentOn s t) :
    WentOn s (carStood again n e t) := by
  have hheld : ¬t.line.holds.any = true := by rw [g.holds]; exact Bool.false_ne_true
  unfold carStood
  split
  · next hr =>
    rw [if_neg hheld]
    have k : WentOn s (if (n && !anyLoaded t) = true then startStandby t else t) :=
      .ite (fun _ => startStandby_went hr h) fun _ => h
    refine .ite (fun _ => ?_) fun _ => k
    split
    · exact beginDwell_went _ _ k
    · exact k
  · next hd =>
    rw [if_pos (g.loaded hd), if_neg hheld]
    exact h
  · exact h

theorem carDecide_went {again : State → State} (n e : Bool) (g : MovesOn t) : WentOrLost t (carDecide again n e t) := by
  have hset := setCarState_went .standing (WentOn.refl t)
  have hstood : WentOrLost t (carStood again n e (setCarState .standing t)) :=
    .inl (hset.trans (carStood_went n e (g.went hset) (.refl _)))
  unfold carDecide
  refine .ite (fun _ => hstood) fun _ => ?_
  split
  · exact hstood
  · refine .ite (fun _ => ?_) fun _ => .ite (fun _ => sendIndex_went t) fun _ => hstood
    split
    · exact .inl (beginDwell_went _ _ (.refl t))
    · exact hstood

theorem lineDwellEnd_of_movesOn (g : MovesOn t) : lineDwellEnd t = t := by
  unfold lineDwellEnd
  split
  · rw [g.holds, g.halt]
    rfl
  · rw [g.holds]
    rfl
  · rfl

theorem carDwellEnd_went {again : State → State} (g : MovesOn t) : WentOrLost t (carDwellEnd again t) := by
  have hslow : WentOn t (slowPolls t) := (slowPolls_busWork t).wentOn
  have hset : WentOn t (setWorked (t.car.worked || t.car.dwell == .full) (slowPolls t)) :=
    hslow.next (setWorked_kept _ (.refl _)) rfl rfl rfl rfl fun _ => rfl
  unfold carDwellEnd
  simp only
  rw [lineDwellEnd_of_movesOn (g.went hset)]
  exact hset.orLost (carDecide_went true false (g.went hset))

theorem setReason_clamps (c : Fin 20) (r : RejectReason) (u : State) :
    ∃ v, setReason c r u = { u with car := { u.car with clamps := v } } := by
  unfold setReason
  split
  · exact ⟨_, rfl⟩
  · exact ⟨_, rfl⟩

theorem openTimeCheck_went (h : WentOn s t) : WentOn s (openTimeCheck t) := by
  have hsame : ∀ c r, WentOn t (setReason c r t) := fun c r => by
    have hk := setReason_kept c r (LineKept.refl t)
    obtain ⟨v, hv⟩ := setReason_clamps c r t
    rw [hv] at hk ⊢
    exact (WentOn.refl t).next hk rfl rfl rfl rfl fun _ => rfl
  refine h.trans ?_
  unfold openTimeCheck
  split
  · exact .refl t
  · split
    · exact .refl t
    · exact .ite (fun _ => hsame _ _) fun _ => .refl t

theorem beginFull_went {again : State → State} (g : MovesOn t) : WentOrLost t (beginFull again t) := by
  have hk : WentOn t (beginDwell .full (fullList (openTimeCheck t)) (openTimeCheck t)) :=
    beginDwell_went _ _ (openTimeCheck_went (.refl t))
  unfold beginFull
  refine .ite (fun _ => ?_) fun _ => .inl (.refl t)
  exact .ite (fun _ => hk.orLost (carDwellEnd_went (g.went hk))) fun _ => .inl hk

/-- A line that moves on stays so when the carousel is told, or loses DRIVE. -/
theorem carTold_went (n : Nat) (g : MovesOn t) : WentOrLost t (carTold n t) := by
  cases n with
  | zero => exact .inl (.refl t)
  | succ n =>
    unfold carTold
    split
    · exact .ite (fun _ => sendHome_went t) fun _ => .inl (.refl t)
    · refine .ite (fun _ => ?_) fun _ => .inl (.refl t)
      exact .ite (fun _ => carDecide_went _ _ g) fun _ => beginFull_went g
    · exact .inl (.refl t)

/-- A line that goes on stays so when the carousel is told. -/
theorem tellCarousel_went (g : GoesOn s) : WentOn s (tellCarousel s) := (carTold_went _ g.toMovesOn).went g.drive

/-- With the line in HELD the carousel does not move. -/
theorem tellCarousel_held (h : s.line.state = .held) : tellCarousel s = s := by
  have hm : moving s = false := by simp [moving, h]
  unfold tellCarousel tellFuel carTold
  simp only [hm, h, Bool.false_eq_true, if_false]
  split <;> rfl

/-- An UNHOMED carousel of a line that works is homed. -/
theorem tellCarousel_unhomed (hc : s.car.state = .unhomed) (hd : present s .drive = true)
    (hm : moving s = true ∨ s.line.state = .warming) : tellCarousel s =
      handRequest .drive .home { s with car := { s.car with state := .homing, moveTimer := none } } := by
  have hw : (moving s || s.line.state == .warming) = true := by
    rcases hm with hm | hm <;> simp [hm]
  unfold tellCarousel carTold tellFuel
  simp only [hc, hw, if_true]
  exact if_pos hd

end

end Sys2Proof.Machine

/-! PROOFS. The line requests HOLD, PARK, RESUME and HALT (chapter 6). -/

namespace Sys2Proof.Machine

/-! ## HOLD (R107, R108) -/

section
variable {s : State}

theorem takeHold_of_moving (h : s.line.state = .running ∨ s.line.state = .draining ∨ s.line.state = .held) :
    takeHold [] s = accept (lineHold .host s) := by
  have hs : ¬starting s = true := not_starting (by rcases h with h | h | h <;> rw [h] <;> decide)
  unfold takeHold
  rw [if_neg hs, if_neg (not_not_intro rfl)]
  rcases h with h | h | h <;> simp only [h]

theorem lineHold_atOnce (c : HoldCause) (h : s.line.state = .running ∨ s.line.state = .draining)
    (hc : s.car.state = .standing ∨ s.car.state = .unhomed) :
    lineHold c s = enterHeld { s with line := { s.line with holds := s.line.holds.add c } } := by
  have hat : holdsAtOnce s = true := by rcases hc with hc | hc <;> simp [holdsAtOnce, hc]
  unfold lineHold
  rcases h with h | h <;> simp only [h, hat, if_true]

theorem lineHold_pending (c : HoldCause) (h : s.line.state = .running ∨ s.line.state = .draining)
    (hc : ¬(s.car.state = .standing ∨ s.car.state = .unhomed)) :
    lineHold c s = { s with line := { s.line with holds := s.line.holds.add c } } := by
  have hat : holdsAtOnce s = false := by
    rw [not_or] at hc
    simp [holdsAtOnce, hc.1, hc.2]
  unfold lineHold
  rcases h with h | h <;> simp only [h, hat, Bool.false_eq_true, if_false]

theorem lineHold_held (c : HoldCause) (h : s.line.state = .held) :
    lineHold c s = { s with line := { s.line with holds := s.line.holds.add c } } := by
  unfold lineHold
  simp only [h]

/-- The line in HELD, as it is entered. -/
theorem enterHeld_line (s : State) : (enterHeld s).line = { s.line with
    returnState := if s.line.state == .draining || s.line.halt then .draining else .running
    standbyTimer := none, state := .held, halt := false, park := false
    lamps := lampsOf .held s.line.estopLatch, flashBase := s.clock } := by
  unfold enterHeld
  rw [enterState_line]

theorem enterHeld_car (s : State) : (enterHeld s).car = s.car := by
  unfold enterHeld
  rw [enterState_car]
  rfl

end

/-- Settles O28: a HOLD is a hold cause of the line. -/
theorem holdByLineState : Obligations.HoldByLineState := by
  unfold Obligations.HoldByLineState
  intro g s h holds moves stands
  refine ⟨fun hm hs => ?atOnce, fun hm hs => ?pending, fun hh => ?held, fun hr => ?refused⟩
  case atOnce =>
    have htake := takeHold_of_moving (s := begun s) (hm.imp_right .inl)
    rw [lineHold_atOnce (s := begun s) .host hm hs] at htake
    obtain ⟨v, hv⟩ : ∃ v, v = { begun s with line := { (begun s).line with holds := (begun s).line.holds.add .host } } :=
      ⟨_, rfl⟩
    rw [← hv] at htake
    have hline : v.line = { s.line with holds := holds } := by rw [hv]; rfl
    have hkept : LineKept s (enterHeld v) := enterHeld_kept (by rw [hv]; exact (begun_kept s).line _)
    obtain ⟨x, hx⟩ := respond_host 0x0A g .ok [] (enterHeld v)
    refine ⟨_, exec_of_taken (c := .hold g []) rfl h htake, respond_answered _ _ _ _ _, respond_kept _ _ _ _ hkept, ?_⟩
    rw [hx]
    refine ⟨?_, ?_, ?_, ?_, ?_, ?_, ?_, ?_⟩
    · exact enterState_state _ _
    · show (enterHeld v).line.holds = _
      rw [enterHeld_line, hline]
    · show (enterHeld v).line.halt = _
      rw [enterHeld_line]
    · show (enterHeld v).line.park = _
      rw [enterHeld_line]
    · show (enterHeld v).line.standbyTimer = _
      rw [enterHeld_line]
    · show (enterHeld v).car = _
      rw [enterHeld_car, hv]
      rfl
    · show (enterHeld v).bus = _
      rw [(enterHeld_moved (.refl v)).bus, hv]
      rfl
    · show (enterHeld v).line.returnState = _
      rw [enterHeld_line, hline]
      simp only [Bool.or_eq_true, beq_iff_eq]
  case pending =>
    have htake := takeHold_of_moving (s := begun s) (hm.imp_right .inl)
    rw [lineHold_pending (s := begun s) .host hm hs] at htake
    exact exec_of_taken (c := .hold g []) rfl h htake
  case held =>
    have htake := takeHold_of_moving (s := begun s) (.inr (.inr hh))
    rw [lineHold_held (s := begun s) .host hh] at htake
    exact exec_of_taken (c := .hold g []) rfl h htake
  case refused =>
    refine exec_of_refused (c := .hold g []) rfl h ?_
    show takeHold [] (begun s) = _
    have hl : (begun s).line.state = s.line.state := rfl
    unfold takeHold
    rw [if_neg (not_starting (by rw [hl]; rcases hr with hr | hr | hr | hr <;> rw [hr] <;> decide)),
      if_neg (not_not_intro rfl)]
    rcases hr with hr | hr | hr | hr <;> simp only [hl, hr]

/-! ## PARK (R117) -/

section
variable {s : State}

theorem enterParked_line (s : State) : (enterParked s).line = { s.line with
    holds := .empty, drainRelease := false, warmTimer := none, standbyTimer := none, parkTimer := none
    state := .parked, halt := false, park := false, lamps := lampsOf .parked s.line.estopLatch, flashBase := s.clock } := by
  unfold enterParked
  rw [enterState_line]

theorem enterParked_car (s : State) : (enterParked s).car = s.car := by
  unfold enterParked
  rw [enterState_car]
  rfl

theorem enterParked_target (s : State) : (enterParked s).glue.target = .off := by
  unfold enterParked
  rw [enterState_glue]
  rfl

theorem takePark_parks (h : s.line.state = .standby ∨ s.line.state = .held ∧ anyLoaded s = false) :
    takePark [] s = accept (enterParked s) := by
  unfold takePark
  rw [if_neg (not_starting (by rcases h with h | ⟨h, -⟩ <;> rw [h] <;> decide)), if_neg (not_not_intro rfl)]
  rcases h with h | ⟨h, hl⟩
  · simp only [h]
  · simp only [h, hl, Bool.false_eq_true, if_false]

theorem takePark_marks (h : s.line.state = .draining) (hl : anyLoaded s = false) (hc : s.car.state ≠ .standing) :
    takePark [] s = accept { s with line := { s.line with park := true } } := by
  unfold takePark
  rw [if_neg (not_starting (by rw [h]; decide)), if_neg (not_not_intro rfl)]
  simp only [h, hl, Bool.false_or, beq_iff_eq, hc, if_false]

theorem takePark_refuses (h : s.line.state = .parked ∨ s.line.state = .warming ∨ s.line.state = .running
    ∨ s.line.state = .faulted ∨ (s.line.state = .held ∨ s.line.state = .draining) ∧ anyLoaded s = true) :
    takePark [] s = refuse .wrongState s := by
  have hs : s.line.state ≠ .starting := by rcases h with h | h | h | h | ⟨h | h, -⟩ <;> rw [h] <;> decide
  unfold takePark
  rw [if_neg (not_starting hs), if_neg (not_not_intro rfl)]
  rcases h with h | h | h | h | ⟨h | h, hl⟩
  · simp only [h]
  · simp only [h]
  · simp only [h]
  · simp only [h]
  · simp only [h, hl, if_true]
  · simp only [h, hl, Bool.true_or, if_true]

end

/-- Settles O30: PARK enters PARKED, sets the park mark or is refused. -/
theorem parkByLineState : Obligations.ParkByLineState := by
  unfold Obligations.ParkByLineState
  intro g s h
  refine ⟨fun hp => ?parks, fun hd hl hc => ?marks, fun hr => ?refuses⟩
  case parks =>
    have htake := takePark_parks (s := begun s) hp
    obtain ⟨x, hx⟩ := respond_host 0x0C g .ok [] (enterParked (begun s))
    refine ⟨_, exec_of_taken (c := .park g []) rfl h htake, respond_answered _ _ _ _ _,
      respond_kept _ _ _ _ (enterParked_kept (begun_kept s)), ?_⟩
    rw [hx]
    simp only [enterParked_line, enterParked_car, enterParked_target, (enterParked_moved (.refl (begun s))).bus]
    exact ⟨trivial, rfl, trivial, trivial, trivial, trivial, trivial, trivial, rfl, rfl, rfl⟩
  case marks => exact exec_of_taken (c := .park g []) rfl h (takePark_marks (s := begun s) hd hl hc)
  case refuses => exact exec_of_refused (c := .park g []) rfl h (takePark_refuses (s := begun s) hr)

end Sys2Proof.Machine

/-! PROOFS. The line requests RESUME, HALT, START and CLEAR (LINE) (chapter 6). -/

namespace Sys2Proof.Machine

/-! ## A line that enters RUNNING or DRAINING and goes on -/

section
variable {s : State}

theorem present_of_bus {t : State} (h : t.bus = s.bus) (n : NodeId) : present t n = present s n := by
  unfold present nodeRec
  rw [h]

theorem entryClear_begun (h : EntryClear s) : EntryClear (begun s) := ⟨h.guards, h.covers, h.band, h.heat⟩

theorem enterRunning_movesOn (h : EntryClear s) : MovesOn (enterRunning s) := by
  obtain ⟨x, hl, -⟩ := enterRunning_clear h
  exact {
    moving := .inl (by rw [hl])
    holds := by rw [hl]; rfl
    halt := by rw [hl]
    loaded := fun e => by rw [hl] at e; cases e }

theorem enterRunning_goesOn (h : EntryClear s) (hd : present s .drive = true) : GoesOn (enterRunning s) :=
  ⟨enterRunning_movesOn h, (present_of_bus (enterRunning_moved (.refl s)).bus _).trans hd⟩

theorem enterDraining_goesOn (hg : anyGuardOpen s = false) (hc : coverEmptyClosed s = false)
    (hp : (potOut s && anyUnrejected s) = false) (hl : anyLoaded s = true) (hd : present s .drive = true) :
    GoesOn (enterDraining s) := by
  obtain ⟨hline, -⟩ := enterDraining_clear hg hc hp hl
  exact {
    moving := .inr (by rw [hline])
    holds := by rw [hline]; rfl
    halt := by rw [hline]
    drive := (present_of_bus (enterDraining_moved (.refl s)).bus _).trans hd
    loaded := fun _ => (anyLoaded_of_clamps (enterDraining_moved (.refl s)).clamps).trans hl }

/-- The line has entered RUNNING, and the carousel has been told. -/
structure RunsOn (s t : State) : Prop where
  kept     : LineKept s t
  line     : ∃ x, t.line = { runningLine s with
      state := .running, halt := false, park := false, lamps := lampsOf .running s.line.estopLatch
      flashBase := s.clock, holds := .empty, standbyTimer := x }
  diverts  : t.car.diverts = 0
  mismatch : t.cover.mismatch = 0

theorem enterRunning_runsOn (h : EntryClear s) (hd : present s .drive = true) :
    RunsOn s (tellCarousel (enterRunning s)) := by
  obtain ⟨x, hl, hdiv, hm⟩ := enterRunning_clear h
  have hw := tellCarousel_went (enterRunning_goesOn h hd)
  obtain ⟨y, hy, -⟩ := hw.line
  exact ⟨(enterRunning_kept (.refl s)).trans hw.kept, ⟨y, by rw [hy, hl]⟩, hw.diverts.trans hdiv, hw.mismatch.trans hm⟩

/-- The line has entered DRAINING, and the carousel has been told. -/
structure DrainsOn (s t : State) : Prop where
  kept     : LineKept s t
  line     : t.line = { drainingLine s with
      state := .draining, halt := false, park := false, lamps := lampsOf .draining s.line.estopLatch
      flashBase := s.clock, holds := .empty }
  mismatch : t.cover.mismatch = 0

theorem enterDraining_drainsOn (hg : anyGuardOpen s = false) (hc : coverEmptyClosed s = false)
    (hp : (potOut s && anyUnrejected s) = false) (hl : anyLoaded s = true) (hd : present s .drive = true) :
    DrainsOn s (tellCarousel (enterDraining s)) := by
  obtain ⟨hline, hm⟩ := enterDraining_clear hg hc hp hl
  have hw := tellCarousel_went (enterDraining_goesOn hg hc hp hl hd)
  obtain ⟨y, hy, hy'⟩ := hw.line
  have hnone : y = none := hy' (by rw [hline]) (by rw [hline]; rfl)
  refine ⟨(enterDraining_kept (.refl s)).trans hw.kept, ?_, hw.mismatch.trans hm⟩
  rw [hy, hnone, hline]
  rfl

theorem enterDraining_drainsOn_of_clear (h : EntryClear s) (hl : anyLoaded s = true) (hd : present s .drive = true) :
    DrainsOn s (tellCarousel (enterDraining s)) := by
  obtain ⟨hg, hc, hp⟩ := entryClear_iff.1 h
  exact enterDraining_drainsOn hg hc (by rw [hp, Bool.false_and]) hl hd

/-! ## RESUME (R113) -/

theorem resumeConditions_iff : resumeConditions s = true ↔ anyGuardOpen s = false ∧ coverEmptyClosed s = false
    ∧ (s.line.holds.glueTemp = true → s.glue.cond = .atTemp) := by
  unfold resumeConditions atTemp
  cases s.line.holds.glueTemp <;> simp [and_assoc]

theorem takeResume_running (h : s.line.state = .held) (hr : resumeConditions s = true)
    (ht : s.line.returnState = .running) : takeResume [] s = accept (tellCarousel (enterRunning s)) := by
  unfold takeResume
  rw [if_neg (not_starting (by rw [h]; decide)), if_neg (not_not_intro rfl), if_pos (by simp [h, hr])]
  simp only [ht]

theorem takeResume_draining (h : s.line.state = .held) (hr : resumeConditions s = true)
    (ht : s.line.returnState = .draining) : takeResume [] s = accept (tellCarousel (enterDraining s)) := by
  unfold takeResume
  rw [if_neg (not_starting (by rw [h]; decide)), if_neg (not_not_intro rfl), if_pos (by simp [h, hr])]
  simp only [ht]

theorem holdPending_iff : holdPending s = true ↔
    (s.line.state = .running ∨ s.line.state = .draining) ∧ s.line.holds.any = true := by
  simp [holdPending, moving]

theorem takeResume_cancels (h : holdPending s = true) (hr : resumeConditions s = true) :
    takeResume [] s = accept (cancelHold s) := by
  have hm := (holdPending_iff.1 h).1
  have hh : (s.line.state == .held) = false := by rcases hm with hm | hm <;> rw [hm] <;> decide
  unfold takeResume
  rw [if_neg (not_starting (by rcases hm with hm | hm <;> rw [hm] <;> decide)), if_neg (not_not_intro rfl),
    if_neg (by simp [hh]), if_pos (by simp [h, hr])]

theorem cancelHold_of_undecided (h : Undecided s) : cancelHold s = { s with
    line := { s.line with holds := .empty }
    car := { s.car with diverts := 0 }
    cover := { s.cover with mismatch := 0 } } := by
  have hu : Undecided { s with
    line := { s.line with holds := .empty }
    car := { s.car with diverts := 0 }
    cover := { s.cover with mismatch := 0 } } := h
  exact redecide_of_undecided false hu

theorem takeResume_refuses (hs : s.line.state ≠ .starting)
    (h : (s.line.state = .held ∨ holdPending s = true) → resumeConditions s = false) :
    takeResume [] s = refuse .wrongState s := by
  unfold takeResume
  rw [if_neg (not_starting hs), if_neg (not_not_intro rfl), if_neg, if_neg]
  · rw [Bool.and_eq_true]
    rintro ⟨hp, hr⟩
    rw [h (.inr hp)] at hr
    cases hr
  · rw [Bool.and_eq_true, beq_iff_eq]
    rintro ⟨hh, hr⟩
    rw [h (.inl hh)] at hr
    cases hr

end

/-- Settles O29: RESUME enters the return state, or cancels a pending hold, or is refused. -/
theorem resumeByLineState : Obligations.ResumeByLineState := by
  unfold Obligations.ResumeByLineState
  intro g s h hs fit refused waits
  have hfit : resumeConditions (begun s) = true ↔ fit := resumeConditions_iff
  have hwaits : holdPending (begun s) = true ↔ waits := holdPending_iff
  refine ⟨fun hh hf hclear hd => ?held, fun hw hf hu => ?cancels, fun hc hnf => ?unfit, fun hh hw => ?neither⟩
  case held =>
    cases ht : s.line.returnState with
    | running =>
      have htake := takeResume_running (s := begun s) hh (hfit.2 hf) ht
      have hr := enterRunning_runsOn (entryClear_begun hclear) (s := begun s) hd
      obtain ⟨y, hy⟩ := hr.line
      obtain ⟨x, hx⟩ := respond_host 0x0B g .ok [] (tellCarousel (enterRunning (begun s)))
      refine ⟨_, exec_of_taken (c := .resume g []) rfl h htake, respond_answered _ _ _ _ _,
        respond_kept _ _ _ _ ((begun_kept s).trans hr.kept), fun _ => ?_, nofun⟩
      rw [hx]
      simp only [hy]
      exact ⟨trivial, rfl, rfl, hr.diverts, hr.mismatch⟩
    | draining =>
      have htake := takeResume_draining (s := begun s) hh (hfit.2 hf) ht
      obtain ⟨x, hx⟩ := respond_host 0x0B g .ok [] (tellCarousel (enterDraining (begun s)))
      refine ⟨_, exec_of_taken (c := .resume g []) rfl h htake, respond_answered _ _ _ _ _,
        respond_kept _ _ _ _ (tellCarousel_kept (enterDraining_kept (begun_kept s))), nofun, fun _ hl => ?_⟩
      have hr := enterDraining_drainsOn_of_clear (entryClear_begun hclear) (s := begun s) hl hd
      rw [hx]
      simp only [hr.line]
      exact ⟨trivial, rfl, rfl, hr.mismatch⟩
  case cancels =>
    have htake := takeResume_cancels (s := begun s) (hwaits.2 hw) (hfit.2 hf)
    rw [cancelHold_of_undecided (s := begun s) hu] at htake
    exact exec_of_taken (c := .resume g []) rfl h htake
  case unfit =>
    refine exec_of_refused (c := .resume g []) rfl h (takeResume_refuses (s := begun s) hs fun _ => ?_)
    rw [← Bool.not_eq_true, hfit]
    exact hnf
  case neither =>
    refine exec_of_refused (c := .resume g []) rfl h (takeResume_refuses (s := begun s) hs fun hc => ?_)
    rcases hc with hc | hc
    · exact absurd hc hh
    · exact absurd (hwaits.1 hc) hw

/-! ## HALT (R114) -/

section
variable {s : State}

theorem takeHalt_drains (h : s.line.state = .running ∧ s.car.state = .standing
    ∨ s.line.state = .held ∧ s.line.returnState = .running ∧ resumeConditions s = true) :
    takeHalt [] s = accept (tellCarousel (enterDraining s)) := by
  unfold takeHalt
  rw [if_neg (not_starting (by rcases h with ⟨h, -⟩ | ⟨h, -⟩ <;> rw [h] <;> decide)), if_neg (not_not_intro rfl)]
  rcases h with ⟨h, hc⟩ | ⟨h, hr, hf⟩
  · simp only [h, hc, beq_self_eq_true, if_true]
  · simp only [h, hr, hf, if_true]

theorem takeHalt_marks (h : s.line.state = .running) (hc : s.car.state ≠ .standing) :
    takeHalt [] s = accept { s with line := { s.line with halt := true } } := by
  unfold takeHalt
  rw [if_neg (not_starting (by rw [h]; decide)), if_neg (not_not_intro rfl)]
  simp only [h, beq_iff_eq, hc, if_false]

theorem takeHalt_again (h : s.line.state = .draining ∨ s.line.state = .held ∧ s.line.returnState = .draining) :
    takeHalt [] s = accept s := by
  unfold takeHalt
  rw [if_neg (not_starting (by rcases h with h | ⟨h, -⟩ <;> rw [h] <;> decide)), if_neg (not_not_intro rfl)]
  rcases h with h | ⟨h, hr⟩
  · simp only [h]
  · simp only [h, hr]

theorem takeHalt_waits (h : s.line.state = .held) (hr : s.line.returnState = .running)
    (hf : resumeConditions s = false) :
    takeHalt [] s = accept { s with line := { s.line with returnState := .draining, drainRelease := true } } := by
  unfold takeHalt
  rw [if_neg (not_starting (by rw [h]; decide)), if_neg (not_not_intro rfl)]
  simp only [h, hr, hf, Bool.false_eq_true, if_false]

theorem takeHalt_refuses (h : s.line.state = .parked ∨ s.line.state = .warming ∨ s.line.state = .standby
    ∨ s.line.state = .faulted) : takeHalt [] s = refuse .wrongState s := by
  unfold takeHalt
  rw [if_neg (not_starting (by rcases h with h | h | h | h <;> rw [h] <;> decide)), if_neg (not_not_intro rfl)]
  rcases h with h | h | h | h <;> simp only [h]

end

/-- Settles O27: HALT lets the line drain at once, or at the dwell's end, or when the hold can be released. -/
theorem haltByLineState : Obligations.HaltByLineState := by
  unfold Obligations.HaltByLineState
  intro g s h halts
  refine ⟨fun hh hclear hl hd => ?drains, fun hr hc hx => ?held, fun hr hc => ?marks, fun hd => ?again,
    fun hh hr hf => ?waits, fun hr => ?refuses⟩
  case drains =>
    have htake := takeHalt_drains (s := begun s) hh
    have hr := enterDraining_drainsOn_of_clear (entryClear_begun hclear) (s := begun s) hl hd
    obtain ⟨x, hx⟩ := respond_host 0x09 g .ok [] (tellCarousel (enterDraining (begun s)))
    refine ⟨_, exec_of_taken (c := .halt g []) rfl h htake, respond_answered _ _ _ _ _,
      respond_kept _ _ _ _ ((begun_kept s).trans hr.kept), ?_⟩
    rw [hx]
    simp only [hr.line]
    exact ⟨trivial, rfl, trivial, rfl, rfl, hr.mismatch⟩
  case held =>
    have htake := takeHalt_drains (s := begun s) (.inl ⟨hr, hc⟩)
    obtain ⟨hstate, hret⟩ := enterDraining_held (s := begun s) hx (.inl hc)
    rw [tellCarousel_held hstate] at htake
    obtain ⟨y, hy⟩ := respond_host 0x09 g .ok [] (enterDraining (begun s))
    refine ⟨_, exec_of_taken (c := .halt g []) rfl h htake, respond_answered _ _ _ _ _,
      respond_kept _ _ _ _ (enterDraining_kept (begun_kept s)), ?_⟩
    rw [hy]
    exact ⟨hstate, hret, (enterDraining_moved (.refl (begun s))).carState.trans hc⟩
  case marks => exact exec_of_taken (c := .halt g []) rfl h (takeHalt_marks (s := begun s) hr hc)
  case again => exact exec_of_taken (c := .halt g []) rfl h (takeHalt_again (s := begun s) hd)
  case waits => exact exec_of_taken (c := .halt g []) rfl h (takeHalt_waits (s := begun s) hh hr hf)
  case refuses => exact exec_of_refused (c := .halt g []) rfl h (takeHalt_refuses (s := begun s) hr)

end Sys2Proof.Machine

/-! PROOFS. START and CLEAR (LINE) (chapter 6). -/

namespace Sys2Proof.Machine

section
variable {s : State}

/-! ## An UNHOMED carousel is homed (R59) -/

/-- The carousel has been told and is homed: HOME is asked for, and the line stands. -/
structure Homes (s t : State) : Prop where
  kept     : LineKept s t
  line     : t.line = s.line
  glue     : t.glue = s.glue
  mismatch : t.cover.mismatch = s.cover.mismatch
  car      : ∃ jobs m, t.car = { s.car with state := .homing, jobs := jobs, moveTimer := m }
  asked    : Asked t.bus .drive .home

theorem tellCarousel_homes (hc : s.car.state = .unhomed) (hd : present s .drive = true)
    (hm : moving s = true ∨ s.line.state = .warming) : Homes s (tellCarousel s) := by
  have hkept := tellCarousel_kept (LineKept.refl s)
  rw [tellCarousel_unhomed hc hd hm] at hkept ⊢
  have k := handRequest_busWork .drive .home { s with car := { s.car with state := .homing, moveTimer := none } }
  obtain ⟨j, m, hcar, -⟩ := k.car
  exact ⟨hkept, k.line, k.glue, k.mismatch, ⟨j, m, hcar⟩, handRequest_asked _ _ _⟩

/-- In WARMING a carousel that has a phase is left alone. -/
theorem tellCarousel_warming (h : s.line.state = .warming) (hc : s.car.state ≠ .unhomed) : tellCarousel s = s := by
  have hm : moving s = false := by simp [moving, h]
  unfold tellCarousel tellFuel carTold
  simp only [hm, h, Bool.false_eq_true, if_false]
  split
  · next e => exact absurd e hc
  · rfl
  · rfl

/-! ## START (R102, R103) -/

theorem allPresent_iff : allPresent s = true ↔ ∀ n, present s n = true := by
  have hall : ∀ n : NodeId, n ∈ allNodes := by intro n; cases n <;> decide
  simp only [allPresent, List.all_eq_true]
  exact ⟨fun h n => h n (hall n), fun h n _ => h n⟩

theorem allPresent_false (h : ∃ n, present s n = false) : allPresent s = false := by
  obtain ⟨n, hn⟩ := h
  rw [← Bool.not_eq_true, allPresent_iff]
  intro ha
  rw [ha n] at hn
  cases hn

theorem takeStart_accepts (h : s.line.state = .parked ∨ s.line.state = .standby) (he : s.pins.estopActive = false)
    (hp : ∀ n, present s n = true) : takeStart [] s = accept (clearGateStop (tellCarousel (enterWarming s))) := by
  unfold takeStart
  rw [if_neg (not_starting (by rcases h with h | h <;> rw [h] <;> decide)), if_neg (not_not_intro rfl),
    if_neg (fun ⟨a, b⟩ => h.elim a b), he, allPresent_iff.2 hp]
  rfl

theorem takeStart_wrongState (hs : s.line.state ≠ .starting) (h : s.line.state ≠ .parked ∧ s.line.state ≠ .standby) :
    takeStart [] s = refuse .wrongState s := by
  unfold takeStart
  rw [if_neg (not_starting hs), if_neg (not_not_intro rfl), if_pos h]

theorem takeStart_estop (h : s.line.state = .parked ∨ s.line.state = .standby) (he : s.pins.estopActive = true) :
    takeStart [] s = refuse .wrongState s := by
  unfold takeStart
  rw [if_neg (not_starting (by rcases h with h | h <;> rw [h] <;> decide)), if_neg (not_not_intro rfl),
    if_neg (fun ⟨a, b⟩ => h.elim a b), if_pos he]

theorem takeStart_nodes (h : s.line.state = .parked ∨ s.line.state = .standby) (he : s.pins.estopActive = false)
    (hp : ∃ n, present s n = false) : takeStart [] s = refuse .nodes s := by
  unfold takeStart
  rw [if_neg (not_starting (by rcases h with h | h <;> rw [h] <;> decide)), if_neg (not_not_intro rfl),
    if_neg (fun ⟨a, b⟩ => h.elim a b), he, allPresent_false hp]
  rfl

/-- Entering WARMING. -/
def warmingLine (s : State) : Line := { s.line with parkTimer := none, standbyTimer := none, warmTimer := some s.clock }

/-- WARMING as it is entered, before the line passes on. -/
def warmed (s : State) : State := enterState .warming { s with line := warmingLine s }

theorem warmed_line (s : State) : (warmed s).line = { warmingLine s with
    state := .warming, halt := false, park := false, lamps := lampsOf .warming s.line.estopLatch, flashBase := s.clock } :=
  enterState_line _ _

theorem warmed_moved (s : State) : LineMoved s (warmed s) := enterState_moved .warming ((LineMoved.refl s).line _)

theorem warmed_kept (s : State) : LineKept s (warmed s) := enterState_kept .warming ((LineKept.refl s).line _)

theorem warmed_cond (s : State) : (warmed s).glue.cond = s.glue.cond := by
  unfold warmed
  rw [enterState_glue]
  rfl

theorem warmed_target (s : State) : (warmed s).glue.target = .working s.settings.workTemp := by
  unfold warmed
  rw [enterState_glue]
  rfl

theorem enterWarming_cold (h : s.glue.cond ≠ .atTemp) : enterWarming s = warmed s := by
  refine if_neg ?_
  show ¬((warmed s).glue.cond == .atTemp) = true
  rw [warmed_cond]
  simpa using h

theorem enterWarming_hot (h : s.glue.cond = .atTemp) : enterWarming s = enterRunning (warmed s) := by
  refine if_pos ?_
  show ((warmed s).glue.cond == .atTemp) = true
  rw [warmed_cond]
  simpa using h

theorem warmed_guards (s : State) : anyGuardOpen (warmed s) = anyGuardOpen s :=
  anyGuardOpen_of_scan (enterState_scan _ _)

theorem warmed_covers (s : State) : coverEmptyClosed (warmed s) = coverEmptyClosed s :=
  coverEmptyClosed_of_scan (enterState_scan _ _)

theorem potOut_warmed (s : State) : potOut (warmed s) = potOut s :=
  potOut_enterState (s := { s with line := warmingLine s }) rfl

theorem entryClear_warmed : EntryClear (warmed s) ↔ EntryClear s := by
  rw [entryClear_iff, entryClear_iff, warmed_guards, warmed_covers, potOut_warmed]

/-- What START's owner leaves of a cold pot. -/
theorem start_cold (hc : s.glue.cond ≠ .atTemp) (hd : present s .drive = true) :
    let t := clearGateStop (tellCarousel (enterWarming s))
    LineKept s t ∧ t.line = (warmed s).line ∧ t.glue.target = .working s.settings.workTemp ∧ t.dlv.gateStop = false
      ∧ (s.car.state = .unhomed → t.car.state = .homing ∧ Asked t.bus .drive .home)
      ∧ (s.car.state ≠ .unhomed → t.car.state = s.car.state ∧ t.car.phase = s.car.phase) := by
  intro t
  have hcar := (warmed_moved s).carState
  have hstate : (warmed s).line.state = .warming := by rw [warmed_line]
  have g : GateCleared (tellCarousel (warmed s)) t := by
    show GateCleared _ (clearGateStop (tellCarousel (enterWarming s)))
    rw [enterWarming_cold hc]
    exact clearGateStop_cleared _
  obtain ⟨j, m, gcar⟩ := g.car
  by_cases hu : s.car.state = .unhomed
  · have k := tellCarousel_homes (hcar.trans hu) ((present_of_bus (warmed_moved s).bus _).trans hd) (.inr hstate)
    obtain ⟨j', m', kcar⟩ := k.car
    refine ⟨(warmed_kept s).trans (k.kept.trans g.kept), g.line.trans k.line, ?_, g.gateStop,
      fun _ => ⟨by rw [gcar, kcar], g.asked _ _ k.asked⟩, fun hn => absurd hu hn⟩
    rw [g.glue, k.glue, warmed_target]
  · rw [tellCarousel_warming hstate (by rw [hcar]; exact hu)] at g gcar
    refine ⟨(warmed_kept s).trans g.kept, g.line, ?_, g.gateStop, fun hn => absurd hn hu, fun _ => ?_⟩
    · rw [g.glue, warmed_target]
    · obtain ⟨n, hn⟩ := (warmed_moved s).car
      rw [gcar, hn]
      exact ⟨rfl, rfl⟩

/-- What START's owner leaves of a pot at its temperature, with nothing to hold the line. -/
theorem start_hot_clear (hc : s.glue.cond = .atTemp) (hd : present s .drive = true) (he : EntryClear s) :
    let t := clearGateStop (tellCarousel (enterWarming s))
    t.line.state = .running ∧ t.line.holds.any = false ∧ t.line.warmTimer = none ∧ t.car.diverts = 0
      ∧ t.cover.mismatch = 0 ∧ (s.car.state = .unhomed → t.car.state = .homing ∧ Asked t.bus .drive .home) := by
  intro t
  have g : GateCleared (tellCarousel (enterRunning (warmed s))) t := by
    show GateCleared _ (clearGateStop (tellCarousel (enterWarming s)))
    rw [enterWarming_hot hc]
    exact clearGateStop_cleared _
  have hdrive : present (warmed s) .drive = true := (present_of_bus (warmed_moved s).bus _).trans hd
  have hr := enterRunning_runsOn (entryClear_warmed.2 he) hdrive
  obtain ⟨x, hline⟩ := hr.line
  obtain ⟨j, m, gcar⟩ := g.car
  have hm := enterRunning_moved (.refl (warmed s))
  refine ⟨by rw [g.line, hline], by rw [g.line, hline]; rfl, by rw [g.line, hline]; rfl, ?_, ?_, fun hu => ?_⟩
  · rw [gcar]
    exact hr.diverts
  · rw [g.mismatch, hr.mismatch]
  · have hmov : moving (enterRunning (warmed s)) = true := by
      obtain ⟨y, hy, -⟩ := enterRunning_clear (entryClear_warmed.2 he)
      simp [moving, hy]
    have k := tellCarousel_homes (hm.carState.trans ((warmed_moved s).carState.trans hu))
      ((present_of_bus hm.bus _).trans hdrive) (.inl hmov)
    obtain ⟨j', m', kcar⟩ := k.car
    exact ⟨by rw [gcar, kcar], g.asked _ _ k.asked⟩

/-- What START's owner leaves of a pot at its temperature, with a cause to hold a carousel at rest. -/
theorem start_hot_held (hc : s.glue.cond = .atTemp) (ht : s.glue.target.isWorking = false) (he : ¬EntryClear s)
    (hr : s.car.state = .standing ∨ s.car.state = .unhomed) :
    let t := clearGateStop (tellCarousel (enterWarming s))
    t.line.state = .held ∧ t.line.returnState = .running ∧ t.car.state = s.car.state
      ∧ t.line.holds = { Holds.empty with
        guardOpen := anyGuardOpen s, coverEmpty := coverEmptyClosed s
        glueTemp := outOfBandOf s.glue.reading s.settings.workTemp } := by
  intro t
  have hcar := (warmed_moved s).carState
  obtain ⟨hstate, hret, hholds⟩ := enterRunning_held (mt entryClear_warmed.1 he) (by rw [hcar]; exact hr)
  have g : GateCleared (enterRunning (warmed s)) t := by
    show GateCleared _ (clearGateStop (tellCarousel (enterWarming s)))
    rw [enterWarming_hot hc, tellCarousel_held hstate]
    exact clearGateStop_cleared _
  obtain ⟨j, m, gcar⟩ := g.car
  have hpot : potOut s = outOfBandOf s.glue.reading s.settings.workTemp := by
    unfold potOut
    rw [if_neg (by rw [ht]; decide)]
  refine ⟨by rw [g.line, hstate], by rw [g.line, hret], ?_, ?_⟩
  · rw [gcar]
    exact (enterRunning_moved (.refl (warmed s))).carState.trans hcar
  · rw [g.line, hholds, warmed_guards, warmed_covers, potOut_warmed, hpot]

end

/-- Settles O26: the checks of R102, then WARMING, and RUNNING or HELD with a hot pot. -/
theorem startChecksAndWarms : Obligations.StartChecksAndWarms := by
  unfold Obligations.StartChecksAndWarms
  refine ⟨fun g p s h => ?checks, fun g s h hl he hp hc => ?cold, fun g s h hl he hp hc ht => ?hot⟩
  case checks =>
    intro refused
    refine ⟨fun hs => exec_of_refused rfl h (requestAct_starting (c := .start g p) rfl (by decide) hs), fun hs hp =>
      exec_of_refused rfl h (requestAct_badFormat (c := .start g p) rfl rfl (mt List.length_eq_zero_iff.mp hp) hs), ?_⟩
    rintro hs rfl
    exact ⟨fun hn => exec_of_refused rfl h (takeStart_wrongState (s := begun s) hs hn), fun hl =>
      ⟨fun he => exec_of_refused rfl h (takeStart_estop (s := begun s) hl he), fun he hp =>
        exec_of_refused rfl h (takeStart_nodes (s := begun s) hl he hp)⟩⟩
  case cold =>
    obtain ⟨hk, hline, htarget, hstop, hu, hn⟩ := start_cold (s := begun s) hc (hp .drive)
    rw [warmed_line] at hline
    obtain ⟨x, hx⟩ := respond_host 0x08 g .ok [] (clearGateStop (tellCarousel (enterWarming (begun s))))
    refine ⟨_, exec_of_taken (c := .start g []) rfl h (takeStart_accepts (s := begun s) hl he hp),
      respond_answered _ _ _ _ _, respond_kept _ _ _ _ ((begun_kept s).trans hk), ?_⟩
    rw [hx]
    simp only [hline]
    exact ⟨trivial, rfl, rfl, rfl, rfl, rfl, rfl, htarget, hstop, hu, hn⟩
  case hot =>
    obtain ⟨x, hx⟩ := respond_host 0x08 g .ok [] (clearGateStop (tellCarousel (enterWarming (begun s))))
    refine ⟨_, exec_of_taken (c := .start g []) rfl h (takeStart_accepts (s := begun s) hl he hp),
      respond_answered _ _ _ _ _, respond_kept _ _ _ _ ((begun_kept s).trans ?_), fun hclear => ?_, fun hnot hr => ?_⟩
    · exact (tellCarousel_kept (enterWarming_kept (.refl _))).trans (clearGateStop_cleared _).kept
    · rw [hx]
      exact start_hot_clear (s := begun s) hc (hp .drive) (entryClear_begun hclear)
    · rw [hx]
      exact start_hot_held (s := begun s) hc ht (fun e => hnot ⟨e.guards, e.covers, e.band, e.heat⟩) hr

end Sys2Proof.Machine

/-! PROOFS. CLEAR (LINE) (chapter 6). -/

namespace Sys2Proof.Machine

section
variable {s : State}

theorem takeClear_line (hs : s.line.state ≠ .starting) : takeClear [0] s = clearLineTaken s :=
  (if_neg (not_starting hs)).trans ((if_neg (not_not_intro rfl)).trans (if_pos rfl))

theorem takeClear_badRange (hs : s.line.state ≠ .starting) {b : Byte} (hb : 1 < b.toNat) :
    takeClear [b] s = refuse .badRange s := by
  have h0 : byteAt [b] 0 = b.toNat := rfl
  exact (if_neg (not_starting hs)).trans ((if_neg (not_not_intro rfl)).trans ((if_neg (by rw [h0]; omega)).trans
    (if_neg (by rw [h0]; omega))))

theorem clearLineTaken_wrongState (h : ¬(s.line.state = .faulted ∧ s.pins.estopActive = false
    ∧ anyGuardOpen s = false)) : clearLineTaken s = refuse .wrongState s := by
  unfold clearLineTaken
  by_cases hf : s.line.state = .faulted
  · rw [if_neg (not_not_intro hf)]
    cases he : s.pins.estopActive with
    | true => rfl
    | false =>
      have hg : anyGuardOpen s = true := by
        rw [← Bool.not_eq_false]
        exact fun hg => h ⟨hf, he, hg⟩
      rw [if_neg Bool.false_ne_true, if_pos hg]
  · rw [if_pos hf]

theorem clearLineTaken_nodes (hf : s.line.state = .faulted) (he : s.pins.estopActive = false)
    (hg : anyGuardOpen s = false) (hp : ∃ n, present s n = false) : clearLineTaken s = refuse .nodes s := by
  unfold clearLineTaken
  rw [if_neg (not_not_intro hf), he, hg, allPresent_false hp]
  rfl

theorem clearLineTaken_accepts (hf : s.line.state = .faulted) (he : s.pins.estopActive = false)
    (hg : anyGuardOpen s = false) (hp : ∀ n, present s n = true) : clearLineTaken s = accept (lineCleared s) := by
  unfold clearLineTaken
  rw [if_neg (not_not_intro hf), he, hg, allPresent_iff.2 hp]
  rfl

/-- The part with its carousel and its cause cleared, before the line enters its state. -/
def causeCleared (s : State) : State := { carCleared s with line := { s.line with cause := none } }

theorem causeCleared_kept (s : State) : LineKept s (causeCleared s) :=
  ⟨⟨rfl, rfl, rfl, rfl, rfl, rfl, rfl, rfl⟩, ⟨rfl, rfl, rfl, rfl, rfl, rfl⟩, .ofEq rfl, rfl⟩

/-- A carousel that CLEAR has reset: its counts are 0, its phase unknown and its worked mark clear. -/
structure CarReset (c : Carousel) : Prop where
  overruns   : c.overruns = Vector.replicate 8 0
  phaseKnown : c.phaseKnown = false
  worked     : c.worked = false

theorem causeCleared_reset (s : State) : CarReset (causeCleared s).car := ⟨rfl, rfl, rfl⟩

theorem CarReset.of_eq {c d : Carousel} (h : CarReset c) (e : d.overruns = c.overruns) (f : d.phaseKnown = c.phaseKnown)
    (g : d.worked = c.worked) : CarReset d :=
  ⟨e.trans h.overruns, f.trans h.phaseKnown, g.trans h.worked⟩

/-- With the carousel UNHOMED the entry into DRAINING ends in DRAINING or in HELD. -/
theorem enterDraining_unhomed (hu : s.car.state = .unhomed) :
    ((enterDraining s).line.state = .held ∨ (enterDraining s).line.state = .draining)
      ∧ (enterDraining s).line.cause = s.line.cause := by
  obtain ⟨v, ⟨hl, hcar, -⟩, he⟩ := enterDraining_eq s
  have hstand : (v.car.state == .standing) = false := by
    rw [hcar, show (if LineState.draining == .running then { s.car with diverts := 0 } else s.car) = s.car from rfl, hu]
    rfl
  rw [he, hstand]
  split
  · rw [enterHeld_line, hl]
    exact ⟨.inl rfl, rfl⟩
  · rw [Bool.false_and, Bool.false_and, if_neg Bool.false_ne_true, hl]
    exact ⟨.inr rfl, rfl⟩

/-- What CLEAR (LINE) leaves with a loaded clamp: the line is entered, and UNHOMED it is homed when it drains. -/
structure ClearDrains (s t : State) : Prop where
  kept  : LineKept s t
  cause : t.line.cause = s.line.cause
  reset : CarReset t.car
  homes : (enterDraining s).line.state = .draining →
    t.line.state = .draining ∧ t.car.state = .homing ∧ Asked t.bus .drive .home

theorem clearDrains (hr : CarReset s.car) (hu : s.car.state = .unhomed) (hd : present s .drive = true) :
    ClearDrains s (tellCarousel (enterDraining s)) := by
  obtain ⟨hstate, hcause⟩ := enterDraining_unhomed hu
  have hm := enterDraining_moved (.refl s)
  obtain ⟨n, hcar⟩ := hm.car
  have hkept := enterDraining_kept (.refl s)
  have hreset : CarReset (enterDraining s).car := hr.of_eq (by rw [hcar]) (by rw [hcar]) (by rw [hcar])
  rcases hstate with hs | hs
  · rw [tellCarousel_held hs]
    exact ⟨hkept, hcause, hreset, fun e => absurd (hs.symm.trans e) nofun⟩
  · have k := tellCarousel_homes (hm.carState.trans hu) ((present_of_bus hm.bus _).trans hd)
      (.inl (by simp [moving, hs]))
    obtain ⟨j, x, kcar⟩ := k.car
    exact ⟨hkept.trans k.kept, by rw [k.line, hcause], hreset.of_eq (by rw [kcar]) (by rw [kcar]) (by rw [kcar]),
      fun _ => ⟨by rw [k.line, hs], by rw [kcar], k.asked⟩⟩

/-- What an accepted CLEAR (LINE) leaves. -/
structure ClearedLine (s t : State) : Prop where
  kept     : LineKept s t
  cause    : t.line.cause = none
  reset    : CarReset t.car
  gateStop : t.dlv.gateStop = false
  parks    : anyLoaded s = false → t.line.state = .parked ∧ t.car.state = .unhomed ∧ t.line.holds.any = false
  drains   : anyLoaded s = true → anyGuardOpen s = false → anyUnrejected s = false → coverEmptyClosed s = false →
    t.line.state = .draining ∧ t.car.state = .homing ∧ Asked t.bus .drive .home

theorem lineCleared_cleared (hd : present s .drive = true) : ClearedLine s (lineCleared s) := by
  have hkept := causeCleared_kept s
  have g : GateCleared (if anyLoaded (carCleared s) then tellCarousel (enterDraining (causeCleared s))
    else enterParked (causeCleared s)) (lineCleared s) := clearGateStop_cleared _
  have hloaded : anyLoaded (carCleared s) = anyLoaded s := anyLoaded_of_clamps rfl
  rw [hloaded] at g
  obtain ⟨j, x, gcar⟩ := g.car
  have hreset : ∀ {c}, CarReset c → (lineCleared s).car = { c with jobs := j, moveTimer := x } →
      CarReset (lineCleared s).car := fun k e => k.of_eq (by rw [e]) (by rw [e]) (by rw [e])
  cases hl : anyLoaded s with
  | false =>
    rw [hl, if_neg Bool.false_ne_true] at g gcar
    refine ⟨(hkept.trans (enterParked_kept (.refl _))).trans g.kept, ?_, ?_, g.gateStop, fun _ => ⟨?_, ?_, ?_⟩,
      fun e => absurd (hl.symm.trans e) nofun⟩
    · rw [g.line, enterParked_line]
      rfl
    · exact hreset (by rw [enterParked_car]; exact causeCleared_reset s) gcar
    · rw [g.line, enterParked_line]
    · rw [gcar, enterParked_car]
      rfl
    · rw [g.line, enterParked_line]
      rfl
  | true =>
    rw [hl, if_pos rfl] at g gcar
    have k := clearDrains (s := causeCleared s) (causeCleared_reset s) rfl hd
    refine ⟨(hkept.trans k.kept).trans g.kept, ?_, hreset k.reset gcar, g.gateStop,
      fun e => absurd (hl.symm.trans e) nofun, fun _ hg hnone hc => ?_⟩
    · rw [g.line, k.cause]
      rfl
    · have hscan : (causeCleared s).scan = s.scan := rfl
      have hclamps : (causeCleared s).car.clamps = s.car.clamps := rfl
      obtain ⟨hline, -⟩ := enterDraining_clear (s := causeCleared s) ((anyGuardOpen_of_scan hscan).trans hg)
        ((coverEmptyClosed_of_scan hscan).trans hc)
        (by rw [anyUnrejected_of_clamps hclamps, hnone, Bool.and_false]) ((anyLoaded_of_clamps hclamps).trans hl)
      obtain ⟨h₁, h₂, h₃⟩ := k.homes (by rw [hline])
      exact ⟨by rw [g.line, h₁], by rw [gcar, h₂], g.asked _ _ h₃⟩

end

/-- Settles O31: the checks of R120, and the line that drains with a loaded clamp and parks without. -/
theorem clearLineDrainsOrParks : Obligations.ClearLineDrainsOrParks := by
  unfold Obligations.ClearLineDrainsOrParks
  intro g s h hs refused passes
  have htake := takeClear_line (s := begun s) hs
  refine ⟨fun hn => ?_, fun hp hnodes => ?_, fun hp hnodes => ?_, fun b hb => ?_⟩
  · exact exec_of_refused (c := .clearLine g [0]) rfl h (htake.trans (clearLineTaken_wrongState (s := begun s) hn))
  · obtain ⟨hf, he, hg⟩ := hp
    exact exec_of_refused (c := .clearLine g [0]) rfl h (htake.trans
      (clearLineTaken_nodes (s := begun s) hf he hg hnodes))
  · obtain ⟨hf, he, hg⟩ := hp
    have hexec := exec_of_taken (c := .clearLine g [0]) rfl h (htake.trans
      (clearLineTaken_accepts (s := begun s) hf he hg hnodes))
    have k := lineCleared_cleared (s := begun s) (hnodes .drive)
    obtain ⟨x, hx⟩ := respond_host 0x0D g .ok [] (lineCleared (begun s))
    refine ⟨_, hexec, respond_answered _ _ _ _ _, respond_kept _ _ _ _ ((begun_kept s).trans k.kept), ?_⟩
    rw [hx]
    refine ⟨k.cause, fun i => ?_, k.reset.phaseKnown, k.reset.worked, k.gateStop, k.parks, fun hl => k.drains hl hg⟩
    show (lineCleared (begun s)).car.overruns[i] = 0
    rw [k.reset.overruns]
    simp
  · exact exec_of_refused (c := .clearLine g [b]) rfl h (takeClear_badRange (s := begun s) hs hb)

end Sys2Proof.Machine

/-! PROOFS. The answers of the one job that a slot speaks of, and the load's answers (chapters 3 and 4). -/

namespace Sys2Proof.Machine

/-! ## A slot that speaks of one job -/

/-- The other jobs of the station's node are not in flight. -/
def Alone (s : State) (st : Station) : Prop :=
  ∀ k ∈ s.car.jobs, stationNode k.item.station = stationNode st → k.item.station = st ∨ k.inFlight = false

theorem Alone.of_jobs {s t : State} {st : Station} (h : Alone s st) (e : t.car.jobs = s.car.jobs) : Alone t st := by
  intro k hk
  rw [e] at hk
  exact h k hk

theorem Alone.endJob {s : State} {st : Station} (h : Alone s st) (e : JobStatus) : Alone (endJob st e s) st := by
  intro k hk hn
  obtain ⟨i, hi, rfl⟩ := List.mem_map.1 hk
  by_cases hst : i.item.station = st
  · exact .inl (by simp [hst])
  · have hi' := h i hi
    simp only [beq_iff_eq, hst, if_false] at hn ⊢
    exact .inr ((hi' hn).resolve_left hst)

/-- A station whose job is not in flight takes no status. -/
theorem takeStatus_other {s : State} {st st' : Station} (h : Alone s st) (hn : stationNode st' = stationNode st)
    (hne : st' ≠ st) (jobs : List (Station × JobAnswer)) : takeStatus jobs st' s = s := by
  unfold takeStatus
  split
  · rfl
  · next j hj =>
    have hst := station_of_jobAt hj
    have hmem : j ∈ s.car.jobs := List.mem_of_find?_eq_some hj
    have hidle : j.inFlight = false := (h j hmem (by rw [hst]; exact hn)).resolve_left (by rw [hst]; exact hne)
    rw [hidle, if_pos]
    simp

/-- The node's statuses are those of the one job. -/
theorem takeJobs_alone {s : State} {st : Station} {tag : Byte} (ht : tag = s.car.tag) (h : Alone s st)
    {jobs : List (Station × JobAnswer)} (h' : Alone (takeStatus jobs st s) st) :
    takeJobs tag (stationNode st) jobs s = takeStatus jobs st s := by
  have htag : (tag == s.car.tag) = true := beq_iff_eq.mpr ht
  refine (if_pos htag).trans ?_
  cases st
  case spine => exact takeStatus_other (st' := .side) h' rfl (by decide) jobs
  case side => exact congrArg (takeStatus jobs .side) (takeStatus_other (st' := .spine) h rfl (by decide) jobs)
  case draw => exact takeStatus_other (st' := .apply) h' rfl (by decide) jobs
  case apply => exact congrArg (takeStatus jobs .apply) (takeStatus_other (st' := .draw) h rfl (by decide) jobs)
  all_goals rfl

section
variable {s : State} {st : Station} {j : Job} {tag : Byte} {slot : Nat}

theorem AnswersJob.inFlight (h : AnswersJob s st j tag slot) : j.inFlight = true := by
  rcases h.sent with hs | hs <;> simp [Job.inFlight, hs]

theorem AnswersJob.alone' (h : AnswersJob s st j tag slot) : Alone (slotHeard (stationNode st) s) st := by
  intro k hk hn
  rcases h.alone k hk hn with hst | ⟨hi, hb⟩
  · exact .inl hst
  · exact .inr (by simp [Job.inFlight, hi, hb])

theorem takeStatus_failed (h : AnswersJob s st j tag slot) (l : List Attempt) :
    takeStatus [(st, .failed l)] st (slotHeard (stationNode st) s) = jobFailed l j (slotHeard (stationNode st) s) := by
  have hjob : jobAt (slotHeard (stationNode st) s) st = some j := h.job
  have hstate : (slotHeard (stationNode st) s).car.state = .dwelling := h.dwelling
  simp [takeStatus, answerFor, hjob, hstate, h.inFlight, h.open_]

theorem takeStatus_noJob (h : AnswersJob s st j tag slot) {l : List (Station × JobAnswer)}
    (hl : l = [] ∨ l = [(st, .noJob)]) :
    takeStatus l st (slotHeard (stationNode st) s) = noJob j (slotHeard (stationNode st) s) := by
  have hjob : jobAt (slotHeard (stationNode st) s) st = some j := h.job
  have hstate : (slotHeard (stationNode st) s).car.state = .dwelling := h.dwelling
  rcases hl with rfl | rfl <;> simp [takeStatus, answerFor, hjob, hstate, h.inFlight, h.open_]

/-- A hold on a dwelling carousel is pending at most (R107). -/
theorem lineHold_of_dwelling (k : HoldCause) (h : s.car.state = .dwelling) :
    ∃ x, lineHold k s = { s with line := { s.line with holds := x } } := by
  have hno : holdsAtOnce s = false := by simp [holdsAtOnce, h]
  unfold lineHold
  split
  · exact ⟨_, by rw [hno]; rfl⟩
  · exact ⟨_, by rw [hno]; rfl⟩
  · exact ⟨_, rfl⟩
  · exact ⟨s.line.holds, rfl⟩

/-- What GLUE's temperature leaves of a dwell: the pot's record, the pending holds and the host link apart. -/
def TempTaken (s t : State) : Prop :=
  ∃ g l x, g.family = s.glue.family ∧ t = { s with glue := g, line := { s.line with holds := l }, host := x }

theorem potAfterReading_family (now : Time) (a b : Nat) (g : GlueUnit) :
    (potAfterReading now a b g).family = g.family := by
  unfold potAfterReading
  split_ifs <;> rfl

theorem lineOutOfBand_tempTaken (h : s.car.state = .dwelling) : TempTaken s (lineOutOfBand s) := by
  unfold lineOutOfBand
  dsimp only
  split
  · obtain ⟨l, hl⟩ := lineHold_of_dwelling .glueTemp h
    obtain ⟨x, hx⟩ := raiseNotice_host .glueTemp 3 (lineHold .glueTemp s)
    exact ⟨s.glue, l, x, rfl, by rw [hx, hl]⟩
  · exact ⟨s.glue, s.line.holds, s.host, rfl, rfl⟩

theorem testBand_tempTaken (h : s.car.state = .dwelling) : TempTaken s (testBand s) := by
  unfold testBand
  dsimp only
  split
  · split
    · obtain ⟨g, l, x, hg, ht⟩ := lineOutOfBand_tempTaken (s := { s with glue :=
        { s.glue with outOfBand := outOfBandOf s.glue.reading s.settings.workTemp } }) h
      exact ⟨g, l, x, hg, ht⟩
    · exact ⟨{ s.glue with outOfBand := outOfBandOf s.glue.reading s.settings.workTemp }, s.line.holds, s.host, rfl, rfl⟩
  · exact ⟨s.glue, s.line.holds, s.host, rfl, rfl⟩

theorem slotTemp_tempTaken (n : NodeId) (temp : Option Nat) (h : s.car.state = .dwelling) :
    TempTaken s (slotTemp n temp s) := by
  unfold slotTemp
  split
  · next a =>
    obtain ⟨g, l, x, hg, ht⟩ := testBand_tempTaken (s := { s with glue :=
      { potAfterReading s.clock a s.settings.workTemp s.glue with reading := some a } }) h
    exact ⟨g, l, x, hg.trans (potAfterReading_family _ _ _ _), ht⟩
  · exact ⟨s.glue, s.line.holds, s.host, rfl, rfl⟩

/-- A slot answer that ends the job, whatever else its end brings, with the dwell going on. -/
theorem exec_jobEnds (h : AnswersJob s st j tag slot) (hgo : DwellGoesOn s st) {jobs : List (Station × JobAnswer)}
    {e : JobStatus} {u : State} (hu : takeStatus jobs st (slotHeard (stationNode st) s) = u)
    (hjobs : u.car.jobs = (jobTaken st e s).car.jobs) (hbus : u.bus = (jobTaken st e s).bus) :
    exec (.slotAnswer (stationNode st) jobs none ⟨false, true⟩) s
      = .next { u with bus := { u.bus with current := some (.poll tag (slot + 1)) } } := by
  have halone : Alone u st := (h.alone'.endJob e).of_jobs hjobs
  have htake : takeJobs tag (stationNode st) jobs (slotHeard (stationNode st) s) = u :=
    (takeJobs_alone (s := slotHeard (stationNode st) s) h.tag h.alone' (by rw [hu]; exact halone)).trans hu
  rw [exec_slotAnswer h, htake, slotTemp_none, slotClosed_dwellCheck h hgo hjobs hbus]

/-- The same with GLUE's temperature in the slot. -/
theorem exec_jobEnds_temp (h : AnswersJob s st j tag slot) (hgo : DwellGoesOn s st) {jobs : List (Station × JobAnswer)}
    {e : JobStatus} {u : State} (temp : Option Nat) (hu : takeStatus jobs st (slotHeard (stationNode st) s) = u)
    (hcar : u.car.state = s.car.state) (hjobs : u.car.jobs = (jobTaken st e s).car.jobs)
    (hbus : u.bus = (jobTaken st e s).bus) :
    ∃ t, TempTaken u t ∧ exec (.slotAnswer (stationNode st) jobs temp ⟨false, true⟩) s
      = .next { t with bus := { t.bus with current := some (.poll tag (slot + 1)) } } := by
  have halone : Alone u st := (h.alone'.endJob e).of_jobs hjobs
  have htake : takeJobs tag (stationNode st) jobs (slotHeard (stationNode st) s) = u :=
    (takeJobs_alone (s := slotHeard (stationNode st) s) h.tag h.alone' (by rw [hu]; exact halone)).trans hu
  have htemp := slotTemp_tempTaken (stationNode st) temp (hcar.trans h.dwelling)
  refine ⟨_, htemp, ?_⟩
  obtain ⟨g, l, x, -, ht⟩ := htemp
  rw [exec_slotAnswer h, htake, slotClosed_dwellCheck h hgo (by rw [ht]; exact hjobs) (by rw [ht]; exact hbus)]

/-- The job that has ended, in the state that the closed slot leaves. -/
theorem jobClosed_of_ends (h : AnswersJob s st j tag slot) {e : JobStatus} {u : State}
    (hcar : u.car.state = s.car.state) (hjobs : u.car.jobs = (jobTaken st e s).car.jobs)
    (hbus : u.bus = (jobTaken st e s).bus) :
    JobClosed { u with bus := { u.bus with current := some (.poll tag (slot + 1)) } } st j e tag slot :=
  jobClosed_of_jobTaken h hcar hjobs (show u.bus.nodes = _ by rw [hbus]) rfl

theorem overrunCount_jobTaken (st : Station) (e : JobStatus) (s : State) : overrunCount (jobTaken st e s) st = 0 :=
  Vector.getElem_set_self _

theorem jobTaken_kept (st : Station) (e : JobStatus) (s : State) : LineKept s (jobTaken st e s) :=
  ⟨⟨rfl, rfl, rfl, rfl, rfl, rfl, rfl, rfl⟩, ⟨rfl, rfl, rfl, rfl, rfl, rfl⟩, .ofEq rfl, rfl⟩

theorem tempTaken_kept {u t : State} (h : TempTaken u t) : LineKept u t := by
  obtain ⟨g, l, x, hg, rfl⟩ := h
  exact ⟨⟨rfl, rfl, rfl, hg, rfl, rfl, rfl, rfl⟩, ⟨rfl, rfl, rfl, rfl, rfl, rfl⟩, .ofEq rfl, rfl⟩

theorem slot_kept {u : State} (h : LineKept s u) (c : Option Transaction) :
    LineKept s { u with bus := { u.bus with current := c } } :=
  h.next ⟨rfl, rfl, rfl, rfl, rfl, rfl, rfl, rfl⟩ ⟨rfl, rfl, rfl, rfl, rfl, rfl⟩ rfl rfl

end

/-! ## A load's answers (4.1) -/

section
variable {s : State} {j : Job} {tag : Byte} {slot : Nat}

/-- The state after LOADED, its report apart (R63). -/
def bookLoaded (gap : BitVec 16) (k : Ticket) (rest : List Ticket) (j : Job) (s : State) : State :=
  { setBook j.item.clamp (some (loadedBook k s.profiles[k.profile].fields j.item.clamp gap
      (clampRec s j.item.clamp).zero s.clock)) { s with tickets := ⟨rest, false⟩ } with
    dlv := { s.dlv with loaded := s.dlv.loaded + 1 }
    car := { (setBook j.item.clamp (some (loadedBook k s.profiles[k.profile].fields j.item.clamp gap
      (clampRec s j.item.clamp).zero s.clock)) { s with tickets := ⟨rest, false⟩ }).car with diverts := 0 } }

theorem loadedResult_eq {gap : BitVec 16} {k : Ticket} {rest : List Ticket} (hq : s.tickets.queue = k :: rest)
    (hb : bookIn s j.item.clamp = none) :
    loadedResult gap j.item.clamp s = afterRemoval (rest.length + 1) (bookLoaded gap k rest j s) := by
  simp only [loadedResult, hq, loadedAt, hb, Option.isSome_none, Bool.false_eq_true, if_false, List.length_cons]
  rfl

/-- What the result of a load or zero-learning job brings (R44, R63 to R66). -/
def loadEnded (r : JobResult) (c : Fin 20) (s : State) : State :=
  match r with
  | .loaded gap => loadedResult gap c s
  | .mismatch _ | .unreadable => loadDiverted s
  | .noBlock => dropReservation s
  | .gap g => learned g c s
  | .plain | .draw _ => s

/-- DONE of a load or zero-learning job of its own kind (R61). -/
theorem jobDone_load (hst : j.item.station = .load) {r : JobResult} (hfit : loadResultFits j.item.params r = true)
    (u : State) : jobDone r j u = loadEnded r j.item.clamp (setOverrun .load 0 (endJob .load .done u)) := by
  simp only [jobDone, hst, loadDone, hfit, if_true]
  cases r <;> rfl

/-- The load's result is taken from the slot. -/
theorem takeStatus_load (h : AnswersJob s .load j tag slot) {r : JobResult}
    (hfit : loadResultFits j.item.params r = true) :
    takeStatus [(.load, .done r)] .load (slotHeard .loader s) = loadEnded r j.item.clamp (jobTaken .load .done s) :=
  (takeStatus_done h r).trans (jobDone_load (station_of_jobAt h.job) hfit _)

/-- Settles O33: the record is written by the six steps of R63, and only the report of TICKETS_LOW comes after. -/
theorem loadedMakesBookRecord : Obligations.LoadedMakesBookRecord := by
  unfold Obligations.LoadedMakesBookRecord
  intro s j tag slot gap block wait k rest h hgo hload hq hempty
  set u := jobTaken .load .done s with hu
  have hdone : takeStatus [(.load, .done (.loaded gap))] .load (slotHeard .loader s)
      = afterRemoval (rest.length + 1) (bookLoaded gap k rest j u) := by
    have hfit : loadResultFits j.item.params (.loaded gap) = true := by rw [hload]; rfl
    exact (takeStatus_load h hfit).trans (loadedResult_eq (s := u) hq hempty)
  obtain ⟨x, hx⟩ := afterRemoval_host (rest.length + 1) (bookLoaded gap k rest j u)
  have hlow := afterRemoval_lowReported (s := bookLoaded gap k rest j u) (before := rest.length + 1)
  rw [hx] at hdone hlow
  have hrec : ∀ d, clampRec (bookLoaded gap k rest j u) d = if d = j.item.clamp then { clampRec s j.item.clamp with
      book := some (loadedBook k s.profiles[k.profile].fields j.item.clamp gap (clampRec s j.item.clamp).zero s.clock) }
      else clampRec s d := fun d => clampRec_setClamp _ _ _ d
  refine ⟨_, exec_jobEnds h hgo hdone rfl rfl, jobClosed_of_ends h rfl rfl rfl, rfl, (hrec _).trans (if_pos rfl),
    fun d hd => (hrec d).trans (if_neg hd), rfl, rfl, overrunCount_jobTaken _ _ s,
    ⟨rfl, rfl, rfl, rfl, rfl, rfl, rfl, rfl⟩, rfl, rfl, rfl, rfl, fun hlead => ?_⟩
  exact hlow (show s.settings.leadThreshold < _ by omega) (show rest.length ≤ s.settings.leadThreshold by omega)

/-- The state after a load that ended without a book, the hold and its notice apart (R12, R64, R66). -/
def noBook (e : JobStatus) (n : Nat) (s : State) : State :=
  { jobTaken .load e s with
    tickets := ⟨s.tickets.queue, false⟩
    car := { (jobTaken .load e s).car with diverts := n } }

theorem noBook_kept (e : JobStatus) (n : Nat) (s : State) : LineKept s (noBook e n s) :=
  ⟨⟨rfl, rfl, rfl, rfl, rfl, rfl, rfl, rfl⟩, ⟨rfl, rfl, rfl, rfl, rfl, rfl⟩, .ofEq rfl, rfl⟩

theorem loadDiverted_below (h : s.car.diverts < 2) :
    loadDiverted (jobTaken .load .done s) = noBook .done (s.car.diverts + 1) s := by
  have hn : min 3 (s.car.diverts + 1) = s.car.diverts + 1 := by omega
  have hne : ¬(s.car.diverts + 1 = 3) := by omega
  exact (if_neg (fun e => hne (hn.symm.trans e))).trans (by
     rw [show (jobTaken .load .done s).car.diverts = s.car.diverts from rfl, hn]; rfl)

/-- The third diverted block in a row: INFEED_SEQUENCE with the head ticket (R65). -/
theorem loadDiverted_third (h : s.car.diverts = 2) :
    loadDiverted (jobTaken .load .done s) = raiseNotice .infeedSequence ((s.tickets.queue.head?.map (·.id)).getD 0)
      (lineHold .infeedSequence (noBook .done 3 s)) := by
  have hn : min 3 ((jobTaken .load .done s).car.diverts + 1) = 3 := by
    show min 3 (s.car.diverts + 1) = 3
    omega
  have hhead : (match (jobTaken .load .done s).tickets.queue with | k :: _ => k.id | [] => 0)
      = (s.tickets.queue.head?.map (·.id)).getD 0 := by
    show (match s.tickets.queue with | k :: _ => k.id | [] => 0) = _
    cases s.tickets.queue <;> rfl
  unfold loadDiverted
  simp only [hn, if_true]
  exact congrArg (fun x => raiseNotice .infeedSequence x (lineHold .infeedSequence (noBook .done 3 s))) hhead

/-- Settles O34: the load's end leaves `noBook`; the third divert raises its hold, which is pending in a dwell, and
its notice. -/
theorem loadWithoutBook : Obligations.LoadWithoutBook := by
  unfold Obligations.LoadWithoutBook
  intro s j tag slot block wait h hgo hload hdiv ends
  have hquiet : ∀ a e n, n < 3 → takeStatus [(.load, a)] .load (slotHeard .loader s) = noBook e n s → ends a e n := by
    intro a e n hn hu
    exact ⟨_, exec_jobEnds h hgo hu rfl rfl, jobClosed_of_ends h rfl rfl rfl, rfl, rfl, slot_kept (noBook_kept e n s) _,
      rfl, overrunCount_jobTaken _ _ s, fun _ => rfl, fun h3 => absurd h3 (by omega)⟩
  have hdivert : ∀ r, loadResultFits j.item.params r = true →
      loadEnded r j.item.clamp (jobTaken .load .done s) = loadDiverted (jobTaken .load .done s) →
      ends (.done r) .done (s.car.diverts + 1) := by
    intro r hfit hr
    have hu := (takeStatus_load h hfit).trans hr
    rcases Nat.lt_or_ge s.car.diverts 2 with hlt | hge
    · exact hquiet _ _ _ (by omega) (hu.trans (loadDiverted_below hlt))
    have htwo : s.car.diverts = 2 := by omega
    have hdwell : (noBook .done 3 s).car.state = .dwelling := h.dwelling
    have hnotice := noticed_raiseNotice .infeedSequence ((s.tickets.queue.head?.map (·.id)).getD 0)
      (lineHold .infeedSequence (noBook .done 3 s))
    have hkept := raiseNotice_kept .infeedSequence ((s.tickets.queue.head?.map (·.id)).getD 0)
      (lineHold_kept .infeedSequence (noBook_kept .done 3 s))
    obtain ⟨l, hl⟩ := lineHold_of_dwelling .infeedSequence hdwell
    obtain ⟨x, hx⟩ := raiseNotice_host .infeedSequence ((s.tickets.queue.head?.map (·.id)).getD 0)
      (lineHold .infeedSequence (noBook .done 3 s))
    rw [loadDiverted_third htwo, hx] at hu
    rw [hx] at hnotice hkept
    have hline : s.line.state = .running → (lineHold .infeedSequence (noBook .done 3 s)).line
        = { s.line with holds := { s.line.holds with infeedSequence := true } } := fun hr =>
      congrArg State.line (lineHold_pending (s := noBook .done 3 s) _ (.inl hr)
        (by rw [hdwell]; decide))
    rw [hl] at hu hnotice hkept hline
    rw [htwo]
    exact ⟨_, exec_jobEnds h hgo hu rfl rfl, jobClosed_of_ends h rfl rfl rfl, rfl, rfl, slot_kept hkept _,
      rfl, overrunCount_jobTaken _ _ s, fun h3 => absurd h3 (by omega), fun _ => ⟨hnotice, hline⟩⟩
  have hfits : ∀ r, loadResultFits (.load block wait) r = true → loadResultFits j.item.params r = true := by
    intro r hr
    rw [hload]
    exact hr
  refine ⟨fun x => hdivert _ (hfits _ rfl) rfl, hdivert _ (hfits _ rfl) rfl,
    hquiet _ _ _ (by omega) (takeStatus_load h (hfits _ rfl)), fun l => hquiet _ _ _ (by omega) ?failed⟩
  case failed =>
    have hopen : j.openLoad = true := by
      simp only [Job.openLoad, hload, Bool.and_true]
      rcases h.sent with hs | hs <;> simp [Job.ended, hs]
    refine (takeStatus_failed h l).trans ?_
    simp only [jobFailed, station_of_jobAt h.job, hopen, if_true]
    rfl

end

end Sys2Proof.Machine

/-! PROOFS. The endings of the station jobs, restart marks in a slot and answers without the job (4.2, 4.3, 5.5, 5.7,
9.3, 9.4). -/

namespace Sys2Proof.Machine

/-! ## A book's record written in its clamp -/

theorem withReason_eq (b : Book) (r : RejectReason) : b.withReason r = { b with reason := some (b.reason.getD r) } := by
  cases hb : b.reason with
  | none => simp only [Book.withReason, hb, Option.getD_none]
  | some x =>
    simp only [Book.withReason, hb, Option.getD_some]
    rw [← hb]

/-- The book of a clamp changed, where it has one. -/
def mapBook (c : Fin 20) (f : Book → Book) (s : State) : State := setBook c ((bookIn s c).map f) s

theorem mapBook_some {c : Fin 20} {s : State} {b : Book} (f : Book → Book) (h : bookIn s c = some b) :
    mapBook c f s = setBook c (some (f b)) s := by
  rw [mapBook, h]
  rfl

theorem mapBook_none {c : Fin 20} {s : State} (f : Book → Book) (h : bookIn s c = none) : mapBook c f s = s := by
  rw [mapBook, h]
  exact (congrArg (setBook c · s) h.symm).trans (setBook_self c s)

theorem setReason_eq (c : Fin 20) (r : RejectReason) (s : State) :
    setReason c r s = mapBook c (fun b => { b with reason := some (b.reason.getD r) }) s := by
  cases hb : bookIn s c with
  | none => simp only [setReason, hb, mapBook_none _ hb]
  | some b => simp only [setReason, hb, mapBook_some _ hb, withReason_eq]

theorem clampRec_mapBook (c d : Fin 20) (f : Book → Book) (s : State) : clampRec (mapBook c f s) d
    = if d = c then { clampRec s c with book := (bookIn s c).map f } else clampRec s d :=
  clampRec_setClamp c _ s d

theorem bookIn_mapBook_self (c : Fin 20) (f : Book → Book) (s : State) :
    bookIn (mapBook c f s) c = (bookIn s c).map f := by
  rw [bookIn_eq, clampRec_mapBook, if_pos rfl]

theorem clampRec_mapBook_of_ne {c d : Fin 20} (f : Book → Book) (s : State) (h : d ≠ c) :
    clampRec (mapBook c f s) d = clampRec s d := by
  rw [clampRec_mapBook, if_neg h]

/-! ## DONE and FAILED of the stations -/

section
variable {s : State} {st : Station} {j : Job} {tag : Byte} {slot : Nat}

/-- The stations whose DONE records nothing but the spine's glue time. -/
theorem jobDone_station (hj : j.item.station = st) (hst : st = .mill ∨ st = .side ∨ st = .nip ∨ st = .spine)
    (r : JobResult) : jobDone r j (slotHeard (stationNode st) s)
      = mapBook j.item.clamp (fun b => if st = .spine then { b with glueTime := some s.clock } else b)
        (jobTaken st .done s) := by
  have hid : ∀ u : State, mapBook j.item.clamp (fun b => b) u = u := fun u => by
    rw [mapBook, Option.map_id']
    exact setBook_self _ u
  rcases hst with rfl | rfl | rfl | rfl
  · simp only [jobDone, hj, reduceCtorEq, if_false, hid]; rfl
  · simp only [jobDone, hj, reduceCtorEq, if_false, hid]; rfl
  · simp only [jobDone, hj, reduceCtorEq, if_false, hid]; rfl
  · simp only [jobDone, hj, if_true]
    cases hb : bookIn (jobTaken .spine .done s) j.item.clamp with
    | none => rw [mapBook_none _ hb]; simp only [jobTaken] at hb ⊢; rw [hb]
    | some b => rw [mapBook_some _ hb]; simp only [jobTaken] at hb ⊢; rw [hb]; rfl

/-- The stations whose FAILED gives their book STATION; an apply also loses its entry (R69, R71, R72, R94, R97). -/
theorem jobFailed_station (hj : j.item.station = st)
    (hst : st = .mill ∨ st = .spine ∨ st = .side ∨ st = .nip ∨ st = .apply) (l : List Attempt) :
    jobFailed l j (slotHeard (stationNode st) s) = setReason j.item.clamp .station { jobTaken st .failed s with
      cover := if st = .apply then { s.cover with entries := s.cover.entries.drop 1 } else s.cover } := by
  rcases hst with rfl | rfl | rfl | rfl | rfl
  all_goals
    simp only [jobFailed, hj]
    rfl

/-- DONE of an apply: the head entry is removed, and the APPLY form writes the cover time (R94). -/
theorem jobDone_apply (hj : j.item.station = .apply) {form : ApplyForm} (hp : j.item.params = .apply form)
    (r : JobResult) : jobDone r j (slotHeard .cover s)
      = mapBook j.item.clamp (fun b => if form = .apply then { b with coverTime := some s.clock } else b)
        { jobTaken .apply .done s with cover := { s.cover with entries := s.cover.entries.drop 1 } } := by
  set u : State := { jobTaken .apply .done s with cover := { s.cover with entries := s.cover.entries.drop 1 } } with hu
  have hdone : jobDone r j (slotHeard .cover s) = if form = .apply
      then (match bookIn u j.item.clamp with
        | some b => setBook j.item.clamp (some { b with coverTime := some u.clock }) u
        | none => u)
      else u := by
    cases form <;> simp only [jobDone, hj, hp, isApply, reduceCtorEq, if_true, if_false, Bool.false_eq_true] <;> rfl
  rw [hdone]
  cases form with
  | apply =>
    simp only [if_true]
    cases hb : bookIn u j.item.clamp with
    | none => rw [mapBook_none _ hb]
    | some b => rw [mapBook_some _ hb]; rfl
  | divert =>
    simp only [reduceCtorEq, if_false]
    rw [mapBook, Option.map_id']
    exact (setBook_self _ u).symm

end

end Sys2Proof.Machine

/-! PROOFS. The line's fault (R52, R118, R119): what the carousel's abort changes, and the line in FAULTED. -/

namespace Sys2Proof.Machine

/-! ## The carousel's part of a fault (R52) -/

/-- What the carousel's abort leaves alone. -/
structure Stopped (s t : State) : Prop where
  kept     : LineKept s t
  line     : t.line = s.line
  glue     : t.glue = s.glue
  host     : t.host = s.host
  mismatch : t.cover.mismatch = s.cover.mismatch
  car      : ∃ a l p w m, t.car = { s.car with state := a, jobs := l, phaseKnown := p, worked := w, moveTimer := m }
  dlv      : t.dlv = s.dlv ∨ s.dlv.dropWatch = .early ∧ t.dlv = { s.dlv with dropWatch := .none }
  trim     : ∃ m x y, t.trim = { s.trim with moveTime := m, settleTimer := x, stepTimer := y }
  present  : ∀ n, present t n = present s n
  ended    : ∀ st j, jobAt s st = some j → j.ended = true → jobAt t st = some j
  poll     : ∀ tag slot, s.bus.current = some (.poll tag slot) →
    t.bus.current = some (.poll tag slot) ∧ t.bus.nodes = s.bus.nodes

section
variable {s t u : State}

theorem Stopped.trans (h : Stopped s t) (k : Stopped t u) : Stopped s u where
  kept := h.kept.trans k.kept
  line := k.line.trans h.line
  glue := k.glue.trans h.glue
  host := k.host.trans h.host
  mismatch := k.mismatch.trans h.mismatch
  car := by
    obtain ⟨_, _, _, _, _, ht⟩ := h.car
    obtain ⟨_, _, _, _, _, hu⟩ := k.car
    exact ⟨_, _, _, _, _, by rw [hu, ht]⟩
  dlv := by
    rcases h.dlv with ht | ⟨he, ht⟩
    · rw [← ht]
      exact k.dlv
    · rcases k.dlv with hu | ⟨he', -⟩
      · exact .inr ⟨he, hu.trans ht⟩
      · rw [ht] at he'
        cases he'
  trim := by
    obtain ⟨_, _, _, ht⟩ := h.trim
    obtain ⟨_, _, _, hu⟩ := k.trim
    exact ⟨_, _, _, by rw [hu, ht]⟩
  present n := (k.present n).trans (h.present n)
  ended st j hj he := k.ended st j (h.ended st j hj he) he
  poll tag slot hp := by
    obtain ⟨hc, hn⟩ := h.poll tag slot hp
    obtain ⟨hc', hn'⟩ := k.poll tag slot hc
    exact ⟨hc', hn'.trans hn⟩

theorem Stopped.ite {p : Prop} [Decidable p] (h : p → Stopped s t) (k : ¬p → Stopped s u) :
    Stopped s (if p then t else u) := by
  split
  · exact h ‹_›
  · exact k ‹_›

/-- A change of the carousel's marks and timers, and of the bus without its transaction and its nodes. -/
theorem Stopped.marks (s : State) (a : CarState) (p w : Bool) (m : Option Time) : Stopped s { s with
    car := { s.car with state := a, phaseKnown := p, worked := w, moveTimer := m } } where
  kept := ⟨⟨rfl, rfl, rfl, rfl, rfl, rfl, rfl, rfl⟩, ⟨rfl, rfl, rfl, rfl, rfl, rfl⟩, .ofEq rfl, rfl⟩
  line := rfl
  glue := rfl
  host := rfl
  mismatch := rfl
  car := ⟨_, _, _, _, _, rfl⟩
  dlv := .inl rfl
  trim := ⟨_, _, _, rfl⟩
  present _ := rfl
  ended _ _ h _ := h
  poll _ _ h := ⟨h, rfl⟩

theorem Stopped.refl (s : State) : Stopped s s := .marks s s.car.state s.car.phaseKnown s.car.worked s.car.moveTimer

/-- On a busy bus nothing is sent. -/
theorem pump_of_busy (n : Nat) (h : s.bus.current ≠ none) : pump n s = s := by
  cases n with
  | zero => rfl
  | succ n =>
    unfold pump
    split
    · next hc _ => exact absurd hc h
    · rfl

theorem handOver_of_busy (f : Frame) (h : s.bus.current ≠ none) :
    handOver f s = { s with bus := s.bus.enqueue f } :=
  pump_of_busy _ (by rw [show ({ s with bus := s.bus.enqueue f } : State).bus.current = _ from enqueue_current f s.bus]; exact h)

theorem Job.not_built_of_ended {j : Job} (h : j.ended = true) : j.status ≠ .built := fun hb => by
  simp [Job.ended, hb] at h

/-- Sending frames does not touch a job that has been sent or held back. -/
theorem jobAt_of_sent {l l' : List Job} (h : List.Forall₂ JobSent l l') {st : Station} {j : Job}
    (hj : l.find? (fun k => k.item.station == st) = some j) (he : j.status ≠ .built) :
    l'.find? (fun k => k.item.station == st) = some j := by
  induction h with
  | nil => cases hj
  | @cons a b _ _ hab _ ih =>
    obtain ⟨hitem, -, -, hsame⟩ := hab
    by_cases hst : a.item.station = st
    · rw [List.find?_cons_of_pos (by simp [hst])] at hj
      have haj : a = j := Option.some.inj hj
      have hba : b = a := hsame (haj ▸ he)
      rw [List.find?_cons_of_pos (by simp [hba, hst]), hba, haj]
    · rw [List.find?_cons_of_neg (by simp [hst])] at hj
      rw [List.find?_cons_of_neg (by simp [hitem, hst])]
      exact ih hj

theorem BusWork.stopped (h : BusWork s t) (hp : ∀ tag slot, s.bus.current = some (.poll tag slot) →
    t.bus.current = some (.poll tag slot) ∧ t.bus.nodes = s.bus.nodes) : Stopped s t where
  kept := h.lineKept
  line := h.line
  glue := h.glue
  host := h.host
  mismatch := h.mismatch
  car := by
    obtain ⟨_, _, hc, -⟩ := h.car
    exact ⟨_, _, _, _, _, hc⟩
  dlv := .inl h.dlv
  trim := h.trim
  present := h.present
  ended st j hj he := by
    obtain ⟨_, _, hc, hsent⟩ := h.car
    rw [jobAt, hc]
    exact jobAt_of_sent hsent hj (Job.not_built_of_ended he)
  poll := hp

theorem handOver_stopped (f : Frame) (s : State) : Stopped s (handOver f s) := by
  refine (handOver_busWork f s).stopped fun tag slot hp => ?_
  rw [handOver_of_busy f (by rw [hp]; nofun)]
  exact ⟨(enqueue_current f s.bus).trans hp, enqueue_nodes f s.bus⟩

theorem giveUp_stopped (p : Request → Bool) (s : State) : Stopped s (giveUp p s) :=
  (giveUp_busWork p s).stopped fun tag slot hp => ⟨by simp only [giveUp, hp], rfl⟩

theorem slowPolls_stopped (s : State) : Stopped s (slowPolls s) := by
  refine (slowPolls_busWork s).stopped fun tag slot hp => ?_
  unfold slowPolls
  split
  · exact ⟨hp, rfl⟩
  · exact ⟨hp, rfl⟩

theorem dropReservation_stopped (s : State) : Stopped s (dropReservation s) :=
  { Stopped.refl s with kept := dropReservation_kept (.refl s) }

theorem removeEntry_stopped (s : State) : Stopped s (removeEntry s) :=
  { Stopped.refl s with kept := removeEntry_kept (.refl s) }

theorem discardEarly_stopped (s : State) : Stopped s (discardEarly s) := by
  have hk := discardEarly_kept (LineKept.refl s)
  unfold discardEarly at hk ⊢
  split
  · next he =>
    rw [he] at hk
    exact { Stopped.refl s with kept := hk, dlv := .inr ⟨he, rfl⟩ }
  · exact .refl s

theorem faulted_station (j : Job) : j.faulted.item = j.item := by
  unfold Job.faulted
  split <;> rfl

theorem faulted_of_ended {j : Job} (h : j.ended = true) : j.faulted = j := if_pos h

theorem find?_map_faulted (l : List Job) (st : Station) : (l.map Job.faulted).find? (fun k => k.item.station == st)
    = (l.find? fun k => k.item.station == st).map Job.faulted := by
  rw [List.find?_map]
  congr 2
  funext j
  simp only [Function.comp_apply, faulted_station]

/-- The aborted jobs, and the waiting WORK of the dwell taken away. -/
theorem faultedJobs_stopped (s : State) (q : List Frame) : Stopped s { s with
    car := { s.car with jobs := s.car.jobs.map Job.faulted }, bus := { s.bus with carQ := q } } where
  kept := ⟨⟨rfl, rfl, rfl, rfl, rfl, rfl, rfl, rfl⟩, ⟨rfl, rfl, rfl, rfl, rfl, rfl⟩, .ofEq rfl, rfl⟩
  line := rfl
  glue := rfl
  host := rfl
  mismatch := rfl
  car := ⟨_, _, _, _, _, rfl⟩
  dlv := .inl rfl
  trim := ⟨_, _, _, rfl⟩
  present _ := rfl
  ended st j h he := by
    rw [jobAt] at h
    rw [jobAt]
    simp only [find?_map_faulted, h, Option.map_some, faulted_of_ended he]
  poll _ _ h := ⟨h, rfl⟩

theorem abortDwell_stopped (s : State) : Stopped s (abortDwell s) := by
  unfold abortDwell
  have k := handOver_stopped .abortAll s
  have k₁ := Stopped.ite (p := (handOver .abortAll s).car.jobs.any Job.openLoad = true)
    (fun _ => k.trans (dropReservation_stopped _)) fun _ => k
  have k₂ := Stopped.ite
    (p := ((handOver .abortAll s).car.jobs.any fun j => j.inFlight && j.item.station == .apply) = true)
    (fun _ => k₁.trans (removeEntry_stopped _)) fun _ => k₁
  have k₃ := Stopped.ite
    (p := ((handOver .abortAll s).car.jobs.any fun j =>
      !j.ended && j.item.station == .release && !j.releaseDone) = true)
    (fun _ => k₂.trans (discardEarly_stopped _)) fun _ => k₂
  exact (k₃.trans (faultedJobs_stopped _ _)).trans (slowPolls_stopped _)

theorem unhome_stopped (s : State) : Stopped s (unhome s) := .marks s .unhomed false s.car.worked none

theorem setWorked_stopped (w : Bool) (s : State) : Stopped s (setWorked w s) :=
  .marks s s.car.state s.car.phaseKnown w s.car.moveTimer

theorem setCarState_stopped (a : CarState) (s : State) : Stopped s (setCarState a s) :=
  .marks s a s.car.phaseKnown s.car.worked s.car.moveTimer

theorem carFault_stopped (e : Bool) (s : State) : Stopped s (carFault e s) := by
  unfold carFault
  split
  · have k := (abortDwell_stopped s).trans (setWorked_stopped false _)
    exact .ite (fun _ => k.trans (unhome_stopped _)) fun _ => k.trans (setCarState_stopped _ _)
  · exact ((giveUp_stopped isMove s).trans (unhome_stopped _)).trans (setWorked_stopped false _)
  · exact ((giveUp_stopped isMove s).trans (unhome_stopped _)).trans (setWorked_stopped false _)
  · exact .ite (fun _ => unhome_stopped s) fun _ => .refl s
  · exact .refl s

/-! ## The line in FAULTED (R118, R119) -/

/-- The first four steps of R118, before the carousel takes the fault. -/
def faultEntered (c : FaultCause) (s : State) : State :=
  enterState .faulted (faultBooks { s with line := { s.line with
    cause := some c, holds := .empty, drainRelease := false
    warmTimer := none, standbyTimer := none, parkTimer := none } })

theorem lineFault_of_faultable (c : FaultCause) (h : Faultable s) :
    lineFault c s = carFault (c == .estop) (faultEntered c s) := by
  unfold lineFault
  rcases h with h | h | h | h | h <;> simp only [h] <;> rfl

theorem lineFault_of_still (c : FaultCause) (h : s.line.state = .starting ∨ s.line.state = .parked) :
    lineFault c s = s := by
  unfold lineFault
  rcases h with h | h <;> simp only [h]

theorem lineFault_of_faulted (c : FaultCause) (h : s.line.state = .faulted) :
    lineFault c s = if (c == .estop && s.car.state == .standing) = true
      then unhome { s with line := { s.line with cause := some c } }
      else { s with line := { s.line with cause := some c } } := by
  unfold lineFault
  simp only [h]

theorem lineState_cases (s : State) : Faultable s ∨ (s.line.state = .starting ∨ s.line.state = .parked)
    ∨ s.line.state = .faulted := by
  unfold Faultable
  cases s.line.state <;> simp

theorem Faultable.not_still (h : Faultable s) : ¬(s.line.state = .starting ∨ s.line.state = .parked) := by
  rcases h with h | h | h | h | h <;> simp [h]

theorem Faultable.not_faulted (h : Faultable s) : s.line.state ≠ .faulted := by
  rcases h with h | h | h | h | h <;> simp [h]

/-- The line as it enters FAULTED (R118). -/
def faultedLine (c : FaultCause) (s : State) : Line := { s.line with
  cause := some c, holds := .empty, drainRelease := false, warmTimer := none, standbyTimer := none, parkTimer := none
  state := .faulted, halt := false, park := false, lamps := lampsOf .faulted s.line.estopLatch, flashBase := s.clock }

theorem faultEntered_eq (c : FaultCause) (s : State) : ∃ x, faultEntered c s = { s with
    line := faultedLine c s
    glue := glueFollow .faulted s.settings s.glue
    car := { s.car with clamps := (faultBooks s).car.clamps }
    host := x } := by
  obtain ⟨v, hv⟩ : ∃ v, v = (faultBooks s).car.clamps := ⟨_, rfl⟩
  have hbooks : ∀ l, faultBooks { s with line := l } = { s with line := l, car := { s.car with clamps := v } } :=
    fun l => by rw [hv]; rfl
  obtain ⟨x, hx⟩ := raiseState_host .faulted _
  rw [faultEntered, enterState, hx, hbooks, ← hv]
  exact ⟨x, rfl⟩

theorem faultEntered_kept (c : FaultCause) (s : State) : LineKept s (faultEntered c s) :=
  enterState_kept .faulted (faultBooks_kept ((LineKept.refl s).line _))

theorem faultEntered_bookIn (c : FaultCause) (s : State) (d : Fin 20) :
    bookIn (faultEntered c s) d = (bookIn s d).map fun b => b.withReason .fault := by
  obtain ⟨x, hx⟩ := faultEntered_eq c s
  rw [bookIn_of_clamps (s := faultBooks s) (by rw [hx]), bookIn_eq, clampRec_faultBooks]

theorem withReason_reason_ne (b : Book) (r : RejectReason) : (b.withReason r).reason ≠ none := by
  rw [withReason_eq]
  nofun

/-- What a fault of the line leaves alone. -/
structure FaultWork (s t : State) : Prop where
  kept     : LineKept s t
  mismatch : t.cover.mismatch = s.cover.mismatch
  car      : ∃ a l p w m v, t.car = { s.car with
    state := a, jobs := l, phaseKnown := p, worked := w, moveTimer := m, clamps := v }
  dlv      : t.dlv = s.dlv ∨ s.dlv.dropWatch = .early ∧ t.dlv = { s.dlv with dropWatch := .none }
  trim     : ∃ m x y, t.trim = { s.trim with moveTime := m, settleTimer := x, stepTimer := y }
  present  : ∀ n, present t n = present s n
  ended    : ∀ st j, jobAt s st = some j → j.ended = true → jobAt t st = some j
  poll     : ∀ tag slot, s.bus.current = some (.poll tag slot) →
    t.bus.current = some (.poll tag slot) ∧ t.bus.nodes = s.bus.nodes

theorem Stopped.faultWork (h : Stopped s t) : FaultWork s t where
  kept := h.kept
  mismatch := h.mismatch
  car := by
    obtain ⟨_, _, _, _, _, hc⟩ := h.car
    exact ⟨_, _, _, _, _, _, hc⟩
  dlv := h.dlv
  trim := h.trim
  present := h.present
  ended := h.ended
  poll := h.poll

/-- The carousel's abort after changes of the line, the pot, the books in the clamps and the host link. -/
theorem Stopped.after {l : Line} {g : GlueUnit} {v : Vector Clamp 20} {x : HostLink}
    (hk : LineKept s { s with line := l, glue := g, car := { s.car with clamps := v }, host := x })
    (h : Stopped { s with line := l, glue := g, car := { s.car with clamps := v }, host := x } t) : FaultWork s t where
  kept := hk.trans h.kept
  mismatch := h.mismatch
  car := by
    obtain ⟨_, _, _, _, _, hc⟩ := h.car
    exact ⟨_, _, _, _, _, _, hc⟩
  dlv := h.dlv
  trim := h.trim
  present := h.present
  ended := h.ended
  poll := h.poll

theorem lineCause_stopped (c : Option FaultCause) (h : Stopped { s with line := { s.line with cause := c } } t) :
    FaultWork s t := { h.faultWork with kept := ((LineKept.refl s).line _).trans h.kept }

theorem lineFault_work (c : FaultCause) (s : State) : FaultWork s (lineFault c s) := by
  rcases lineState_cases s with h | h | h
  · rw [lineFault_of_faultable c h]
    have hk := faultEntered_kept c s
    have hs := carFault_stopped (c == .estop) (faultEntered c s)
    obtain ⟨x, hx⟩ := faultEntered_eq c s
    rw [hx] at hk hs ⊢
    exact hs.after hk
  · rw [lineFault_of_still c h]
    exact (Stopped.refl s).faultWork
  · rw [lineFault_of_faulted c h]
    exact lineCause_stopped (some c) (.ite (fun _ => unhome_stopped _) fun _ => .refl _)

theorem LineFaulted.of_not {c : FaultCause} (h : ¬Faultable s)
    (hstill : s.line.state = .starting ∨ s.line.state = .parked → t.line = s.line)
    (hagain : s.line.state = .faulted → t.line = { s.line with cause := some c }) : LineFaulted s t c where
  state k := absurd k h
  cause k := absurd k h
  lamps k := absurd k h
  holds k := absurd k h
  timers k := absurd k h
  target k := absurd k h
  reasons k := absurd k h
  still := hstill
  again := hagain

/-- The line has entered FAULTED. -/
theorem LineFaulted.of_entered {c : FaultCause} (h : Faultable s) (hl : t.line = faultedLine c s)
    (ht : t.glue.target = .off) (hb : ∀ d, bookIn t d = (bookIn s d).map fun b => b.withReason .fault) :
    LineFaulted s t c where
  state _ := by rw [hl]; rfl
  cause _ := by rw [hl]; rfl
  lamps _ := by rw [hl]; rfl
  holds _ := by rw [hl]; rfl
  timers _ := by rw [hl]; exact ⟨rfl, rfl, rfl⟩
  target _ := ht
  reasons _ d b e := by
    rw [hb, Option.map_eq_some_iff] at e
    obtain ⟨x, -, rfl⟩ := e
    exact withReason_reason_ne x .fault
  still hs := absurd hs h.not_still
  again hs := absurd hs h.not_faulted

/-- The line is FAULTED, or has not moved (R118). -/
theorem lineFault_faulted (c : FaultCause) (s : State) : LineFaulted s (lineFault c s) c := by
  rcases lineState_cases s with h | h | h
  · rw [lineFault_of_faultable c h]
    have k := carFault_stopped (c == .estop) (faultEntered c s)
    obtain ⟨x, hx⟩ := faultEntered_eq c s
    refine .of_entered h (k.line.trans (by rw [hx])) (by rw [k.glue, hx]; rfl) fun d => ?_
    obtain ⟨_, _, _, _, _, hc⟩ := k.car
    rw [bookIn_of_clamps (s := faultEntered c s) (by rw [hc]), faultEntered_bookIn]
  · rw [lineFault_of_still c h]
    refine .of_not (fun hf => hf.not_still h) (fun _ => rfl) fun hs => ?_
    rw [hs] at h
    rcases h with h | h <;> cases h
  · refine .of_not (fun hf => hf.not_faulted h) (fun hs => ?_) fun _ => ?_
    · rw [h] at hs
      rcases hs with hs | hs <;> cases hs
    · rw [lineFault_of_faulted c h]
      split_ifs <;> rfl

/-- A fault seen from states with the same line. -/
theorem LineFaulted.congr {s' t' : State} {c : FaultCause} (h : LineFaulted s t c) (hs : s'.line = s.line)
    (hl : t'.line = t.line) (hg : t'.glue.target = t.glue.target) (hc : t'.car.clamps = t.car.clamps) :
    LineFaulted s' t' c := by
  have hf : Faultable s' → Faultable s := fun k => by rwa [Faultable, hs] at k
  exact ⟨fun k => by rw [hl]; exact h.state (hf k), fun k => by rw [hl]; exact h.cause (hf k),
    fun k => by rw [hl, hs]; exact h.lamps (hf k), fun k => by rw [hl]; exact h.holds (hf k),
    fun k => by rw [hl]; exact h.timers (hf k), fun k => by rw [hg]; exact h.target (hf k),
    fun k d b hb => h.reasons (hf k) d b (by rwa [bookIn_of_clamps hc] at hb),
    fun k => by rw [hl, hs]; rw [hs] at k; exact h.still k, fun k => by rw [hl, hs]; rw [hs] at k; exact h.again k⟩

/-- A fault with its notice (R118, R181). -/
theorem raiseNotice_faulted {c : FaultCause} (n : Notice) (x : BitVec 32) (h : LineFaulted s t c) :
    LineFaulted s (raiseNotice n x t) c := by
  obtain ⟨y, hy⟩ := raiseNotice_host n x t
  exact h.congr rfl (by rw [hy]) (by rw [hy]) (by rw [hy])

/-- A fault other than the e-stop ends a dwell with the carousel STANDING, or does not touch the carousel (R52). -/
theorem lineFault_dwelling {c : FaultCause} (hd : s.car.state = .dwelling) (hc : c ≠ .estop) :
    (lineFault c s).car.state = .standing ∨ (lineFault c s).car = s.car := by
  have hno : (c == FaultCause.estop) = false := beq_eq_false_iff_ne.mpr hc
  rcases lineState_cases s with h | h | h
  · left
    rw [lineFault_of_faultable c h, hno]
    obtain ⟨x, hx⟩ := faultEntered_eq c s
    have hcar : (faultEntered c s).car.state = .dwelling := by rw [hx]; exact hd
    unfold carFault
    simp only [hcar, Bool.false_eq_true, if_false]
    rfl
  · exact .inr (by rw [lineFault_of_still c h])
  · right
    rw [lineFault_of_faulted c h, hno]
    rfl

end

end Sys2Proof.Machine

/-! PROOFS. A restart mark in a slot, and O36 (R73, R98, R154, R160). -/

namespace Sys2Proof.Machine

/-! ## The jobs of a restarted node (R160) -/

/-- The reason STATION for a record that has none. -/
def stationed (b : Book) : Book := { b with reason := some (b.reason.getD .station) }

theorem stationed_stationed (b : Book) : stationed (stationed b) = stationed b := rfl

/-- What a restart makes of the open job of a station (R160). -/
def JobRestarted (st : Station) (s t : State) : Prop :=
  ∀ j, jobAt s st = some j → j.ended = false →
    (j.releaseDone = true → jobAt t st = some j ∧ (st = .release → t.dlv = s.dlv))
    ∧ (j.releaseDone = false → jobAt t st = some { j with status := .failed, limit := .suspended }
      ∧ (st = .load → (∃ a b, j.item.params = .load a b) → t.tickets.reserved = false)
      ∧ (st = .release → s.dlv.dropWatch = .early → t.dlv.dropWatch = .none)
      ∧ (st ≠ .load → st ≠ .release → ∀ b, bookIn s j.item.clamp = some b →
        bookIn t j.item.clamp = some (stationed b)))

/-- The station has no job of which a slot could speak. -/
def StationQuiet (st : Station) (s : State) : Prop :=
  ∀ j, jobAt s st = some j → j.inFlight = false ∨ j.releaseDone = true

/-- What the end of a restarted node's work leaves. -/
structure RestartTaken (n : NodeId) (s t : State) : Prop where
  kept  : LineKept s t
  poll  : ∀ tag slot, s.bus.current = some (.poll tag slot) →
    t.bus.current = some (.poll tag slot) ∧ t.bus.nodes = s.bus.nodes
  dwell : (t.car.state = s.car.state ∧ ∀ k ∈ s.car.jobs, stationNode k.item.station ≠ n → k ∈ t.car.jobs)
    ∨ n = .release ∧ t.car.state ≠ .dwelling
  jobs  : ∀ st, stationNode st = n → JobRestarted st s t
  quiet : ∀ st, stationNode st = n → StationQuiet st t

/-- A restarted station's job, other than the release: what its end leaves. -/
structure StationEnded (st : Station) (s t : State) : Prop where
  kept     : LineKept s t
  bus      : t.bus = s.bus
  dlv      : t.dlv = s.dlv
  state    : t.car.state = s.car.state
  reserved : t.tickets.reserved = true → s.tickets.reserved = true
  others   : ∀ st', st' ≠ st → jobAt t st' = jobAt s st'
  members  : ∀ k ∈ s.car.jobs, k.item.station ≠ st → k ∈ t.car.jobs
  origin   : ∀ k ∈ t.car.jobs, k.item.station = st ∨ k ∈ s.car.jobs
  books    : ∀ c, bookIn t c = bookIn s c ∨ bookIn t c = (bookIn s c).map stationed

section
variable {s t : State} {st : Station} {j : Job}

theorem jobAt_endJob_of_ne (st : Station) (e : JobStatus) (s : State) {st' : Station} (h : st' ≠ st) :
    jobAt (endJob st e s) st' = jobAt s st' := by
  have hkeeps : (fun k : Job => k.item.station == st') ∘ (fun k : Job =>
      if k.item.station == st then { k with status := e, limit := .suspended } else k)
      = fun k : Job => k.item.station == st' := by
    funext k
    by_cases hk : k.item.station = st <;> simp [hk]
  have hfix : ∀ k, s.car.jobs.find? (fun k => k.item.station == st') = some k →
      (if k.item.station == st then { k with status := e, limit := .suspended } else k) = k := fun k hk => by
    have hst : k.item.station = st' := station_of_jobAt hk
    rw [if_neg (by simp [hst, h])]
  unfold jobAt
  rw [endJob, updateJob_car_jobs, List.find?_map, hkeeps]
  cases hk : s.car.jobs.find? (fun k => k.item.station == st') with
  | none => rfl
  | some k => exact congrArg some (hfix k hk)

/-- The end of the job with changes of its station's count, the reservation and the cover line. -/
theorem stationEnded_endJob (st : Station) (e : JobStatus) (s : State) {r : Bool} (v : Vector Nat 8) (x : CoverUnit)
    (hr : r = true → s.tickets.reserved = true) : StationEnded st s { endJob st e s with
      tickets := { s.tickets with reserved := r }
      car := { (endJob st e s).car with overruns := v }
      cover := x } where
  kept := ⟨⟨rfl, rfl, rfl, rfl, rfl, rfl, rfl, rfl⟩, ⟨rfl, rfl, rfl, rfl, rfl, rfl⟩, .ofEq rfl, rfl⟩
  bus := rfl
  dlv := rfl
  state := rfl
  reserved := hr
  others _ h := jobAt_endJob_of_ne st e s h
  members _ hk hne := mem_endJob_of_ne e hk hne
  origin k hk := by
    obtain ⟨i, hi, rfl⟩ := List.mem_map.1 hk
    by_cases hst : i.item.station = st
    · exact .inl (by simp [hst])
    · exact .inr (by simpa [hst] using hi)
  books _ := .inl rfl

theorem bookIn_setReason (c d : Fin 20) (s : State) :
    bookIn (setReason c .station s) d = if d = c then (bookIn s d).map stationed else bookIn s d := by
  rw [setReason_eq, bookIn_eq, clampRec_mapBook]
  split
  · next h => rw [h]; rfl
  · rfl

theorem StationEnded.setReason (h : StationEnded st s t) (c : Fin 20) :
    StationEnded st s (setReason c .station t) := by
  have hk := setReason_kept c .station h.kept
  have hb : ∀ d, bookIn (Machine.setReason c .station t) d = bookIn s d
      ∨ bookIn (Machine.setReason c .station t) d = (bookIn s d).map stationed := fun d => by
    rw [bookIn_setReason]
    split
    · rcases h.books d with hd | hd
      · exact .inr (by rw [hd])
      · exact .inr (by rw [hd, Option.map_map]; rfl)
    · exact h.books d
  obtain ⟨v, hv⟩ := setReason_clamps c .station t
  rw [hv] at hk hb ⊢
  exact { h with kept := hk, books := hb }

/-- A job that ends FAILED at another station than the release (R12, R69, R71, R72, R88, R94, R97). -/
theorem jobFailed_ended (hj : jobAt s st = some j) (hst : st ≠ .release) : StationEnded st s (jobFailed [] j s)
    ∧ jobAt (jobFailed [] j s) st = some { j with status := .failed, limit := .suspended }
    ∧ (st = .load → j.openLoad = true → (jobFailed [] j s).tickets.reserved = false)
    ∧ (st ≠ .load → bookIn (jobFailed [] j s) j.item.clamp = (bookIn s j.item.clamp).map stationed) := by
  have hended : jobAt (endJob st .failed s) st = some { j with status := .failed, limit := .suspended } :=
    jobAt_endJob .failed hj
  have hbase : ∀ (r : Bool) v x, (r = true → s.tickets.reserved = true) → StationEnded st s { endJob st .failed s with
      tickets := { s.tickets with reserved := r }
      car := { (endJob st .failed s).car with overruns := v }
      cover := x } := fun r v x => stationEnded_endJob st .failed s v x
  set v := (setOverrun st 0 (endJob st .failed s)).car.overruns
  have hreason : ∀ x, jobFailed [] j s = setReason j.item.clamp .station { endJob st .failed s with
      tickets := { s.tickets with reserved := s.tickets.reserved }
      car := { (endJob st .failed s).car with overruns := v }
      cover := x } → st ≠ .load → StationEnded st s (jobFailed [] j s)
    ∧ jobAt (jobFailed [] j s) st = some { j with status := .failed, limit := .suspended }
    ∧ (st = .load → j.openLoad = true → (jobFailed [] j s).tickets.reserved = false)
    ∧ (st ≠ .load → bookIn (jobFailed [] j s) j.item.clamp = (bookIn s j.item.clamp).map stationed) := by
    intro x hx hne
    rw [hx]
    refine ⟨(hbase _ v x id).setReason _, ?_, fun h => absurd h hne, fun _ => ?_⟩
    · obtain ⟨w, hw⟩ := setReason_clamps j.item.clamp .station { endJob st .failed s with
        tickets := { s.tickets with reserved := s.tickets.reserved }
        car := { (endJob st .failed s).car with overruns := v }
        cover := x }
      rw [hw]
      exact hended
    · rw [bookIn_setReason, if_pos rfl]
      rfl
  have hjs := station_of_jobAt hj
  cases st with
  | release => exact absurd rfl hst
  | load =>
    have hload : jobFailed [] j s = { endJob .load .failed s with
        tickets := { s.tickets with reserved := if j.openLoad then false else s.tickets.reserved }
        car := { (endJob .load .failed s).car with overruns := v }
        cover := s.cover } := by
      simp only [jobFailed, hjs]
      split <;> rfl
    rw [hload]
    refine ⟨hbase _ _ _ (by split <;> simp), hended, fun _ ho => if_pos ho, fun h => absurd rfl h⟩
  | draw =>
    refine hreason s.cover ?_ nofun
    simp only [jobFailed, hjs, coverSequence, countAttempts, List.foldl_nil, List.isEmpty_nil, Bool.not_true,
      Bool.false_and, Bool.false_eq_true, if_false]
    rfl
  | apply =>
    refine hreason { s.cover with entries := s.cover.entries.drop 1 } ?_ nofun
    simp only [jobFailed, hjs]
    rfl
  | mill | spine | side | nip =>
    refine hreason s.cover ?_ nofun
    simp only [jobFailed, hjs]
    rfl

theorem Job.openLoad_of_load {a : Identity} {b : Nat} (h : j.item.params = .load a b) (he : j.ended = false) :
    j.openLoad = true := by
  simp only [Job.openLoad, h, he, Bool.not_false, Bool.and_true]

theorem StationEnded.refl (st : Station) (s : State) : StationEnded st s s :=
  ⟨.refl s, rfl, rfl, rfl, id, fun _ _ => rfl, fun _ h _ => h, fun _ h => .inr h, fun _ => .inl rfl⟩

theorem restartJob_of_open {n : NodeId} (hj : jobAt s st = some j) (hn : stationNode st = n) (he : j.ended = false)
    (hr : j.releaseDone = false) : restartJob n st s = jobFailed [] j s := by
  simp only [restartJob, hj, restartEnds, station_of_jobAt hj, hn, he, hr, beq_self_eq_true, Bool.not_false, Bool.and_self,
    if_true]

theorem restartJob_of_closed {n : NodeId} (h : ∀ j, jobAt s st = some j → j.ended = true ∨ j.releaseDone = true) :
    restartJob n st s = s := by
  unfold restartJob
  split
  · next j hj =>
    refine if_neg ?_
    rcases h j hj with h | h <;> simp [restartEnds, h]
  · rfl

theorem not_inFlight_of_ended (h : j.ended = true) : j.inFlight = false := by
  cases hs : j.status <;> simp_all [Job.ended, Job.inFlight]

/-- The restart at one station, other than the release. -/
theorem restartJob_ended {n : NodeId} (hn : stationNode st = n) (hst : st ≠ .release) (s : State) :
    StationEnded st s (restartJob n st s) ∧ JobRestarted st s (restartJob n st s)
      ∧ StationQuiet st (restartJob n st s) := by
  by_cases hc : ∀ j, jobAt s st = some j → j.ended = true ∨ j.releaseDone = true
  · rw [restartJob_of_closed hc]
    refine ⟨.refl st s, fun j hj he => ⟨fun _ => ⟨hj, fun _ => rfl⟩, fun hr => ?_⟩, fun j hj => ?_⟩
    · rcases hc j hj with h | h
      · rw [h] at he; cases he
      · rw [h] at hr; cases hr
    · exact (hc j hj).imp_left not_inFlight_of_ended
  · simp only [not_forall, not_or, Bool.not_eq_true] at hc
    obtain ⟨j, hj, he, hr⟩ := hc
    rw [restartJob_of_open hj hn he hr]
    obtain ⟨hended, hat, hload, hbook⟩ := jobFailed_ended hj hst
    refine ⟨hended, fun k hk _ => ?_, fun k hk => ?_⟩
    · rw [hj] at hk
      cases hk
      refine ⟨fun h => absurd (h.symm.trans hr) nofun, fun _ => ⟨hat, fun hl hp => ?_, fun h => absurd h hst,
        fun hl _ b hb => by rw [hbook hl, hb]; rfl⟩⟩
      obtain ⟨a, b, hp⟩ := hp
      exact hload hl (Job.openLoad_of_load hp he)
    · rw [hat] at hk
      cases hk
      exact .inl rfl

/-- The end of another station's job comes after. -/
theorem JobRestarted.trans_ended {st' : Station} {u : State} (h : JobRestarted st s t) (k : StationEnded st' t u)
    (hne : st ≠ st') : JobRestarted st s u := by
  intro j hj he
  obtain ⟨hdone, hopen⟩ := h j hj he
  refine ⟨fun hr => ?_, fun hr => ?_⟩
  · obtain ⟨hat, hd⟩ := hdone hr
    exact ⟨(k.others st hne).trans hat, fun hs => k.dlv.trans (hd hs)⟩
  · obtain ⟨hat, hl, hd, hb⟩ := hopen hr
    refine ⟨(k.others st hne).trans hat, fun hs hp => ?_, fun hs hw => by rw [k.dlv]; exact hd hs hw,
      fun h₁ h₂ b e => ?_⟩
    · exact Bool.eq_false_iff.mpr fun hc => absurd ((hl hs hp).symm.trans (k.reserved hc)) nofun
    · rcases k.books j.item.clamp with hc | hc <;> rw [hc, hb h₁ h₂ b e]
      rfl

/-- The end of another station's job comes before. -/
theorem StationEnded.jobRestarted {st' : Station} {u : State} (k : StationEnded st' s t) (h : JobRestarted st t u)
    (hne : st ≠ st') : JobRestarted st s u := by
  intro j hj he
  obtain ⟨hdone, hopen⟩ := h j ((k.others st hne).trans hj) he
  refine ⟨fun hr => ?_, fun hr => ?_⟩
  · obtain ⟨hat, hd⟩ := hdone hr
    exact ⟨hat, fun hs => (hd hs).trans k.dlv⟩
  · obtain ⟨hat, hl, hd, hb⟩ := hopen hr
    refine ⟨hat, hl, fun hs hw => hd hs (by rw [k.dlv]; exact hw), fun h₁ h₂ b e => ?_⟩
    rcases k.books j.item.clamp with hc | hc
    · exact hb h₁ h₂ b (hc.trans e)
    · exact hb h₁ h₂ (stationed b) (by rw [hc, e]; rfl)

/-- A node with one station. -/
theorem restartTaken_of_one {n : NodeId} (hst : st ≠ .release) (hn : ∀ st', stationNode st' = n ↔ st' = st) (s : State) :
    RestartTaken n s (restartJob n st s) := by
  obtain ⟨hended, hjob, hquiet⟩ := restartJob_ended ((hn st).2 rfl) hst s
  refine ⟨hended.kept, fun tag slot hp => by rw [hended.bus]; exact ⟨hp, rfl⟩,
    .inl ⟨hended.state, fun k hk hne => hended.members k hk fun h => hne ((hn _).2 h)⟩, fun st' h => ?_, fun st' h => ?_⟩
  · rw [(hn st').1 h]; exact hjob
  · rw [(hn st').1 h]; exact hquiet

/-- A node with two stations. -/
theorem restartTaken_of_two {n : NodeId} {st' : Station} (hst : st ≠ .release) (hst' : st' ≠ .release) (hne : st ≠ st')
    (hn : ∀ x, stationNode x = n ↔ x = st ∨ x = st') (s : State) :
    RestartTaken n s (restartJob n st' (restartJob n st s)) := by
  obtain ⟨hended, hjob, hquiet⟩ := restartJob_ended ((hn st).2 (.inl rfl)) hst s
  obtain ⟨hended', hjob', hquiet'⟩ := restartJob_ended ((hn st').2 (.inr rfl)) hst' (restartJob n st s)
  refine ⟨hended.kept.trans hended'.kept, fun tag slot hp => by rw [hended'.bus, hended.bus]; exact ⟨hp, rfl⟩,
    .inl ⟨hended'.state.trans hended.state, fun k hk hx => ?_⟩, fun x h => ?_, fun x h => ?_⟩
  · have hk₁ : k.item.station ≠ st := fun h => hx ((hn _).2 (.inl h))
    have hk₂ : k.item.station ≠ st' := fun h => hx ((hn _).2 (.inr h))
    exact hended'.members k (hended.members k hk hk₁) hk₂
  · rcases (hn x).1 h with rfl | rfl
    · exact hjob.trans_ended hended' hne
    · exact hended.jobRestarted hjob' hne.symm
  · rcases (hn x).1 h with rfl | rfl
    · intro j hj
      exact hquiet j ((hended'.others x hne).symm.trans hj)
    · exact hquiet'

/-! ## The station's count (R51) -/

theorem stationOverrun_first (h : overrunCount s st = 0) : stationOverrun st s = setOverrun st 1 s := by
  have hn : s.car.overruns[stationIdx st] = 0 := h
  simp only [stationOverrun, hn]
  rfl

theorem stationOverrun_second (h : 1 ≤ overrunCount s st) : stationOverrun st s
    = raiseNotice .stationOverrun (BitVec.ofNat 32 (nodeAddr (stationNode st)))
      (lineFault .stationOverrun (setOverrun st 2 s)) := by
  have hn : min 2 (s.car.overruns[stationIdx st] + 1) = 2 := by
    have h' : 1 ≤ s.car.overruns[stationIdx st] := h
    omega
  simp only [stationOverrun, hn, if_true]

theorem FaultWork.host {x : HostLink} (h : FaultWork s t) : FaultWork s { t with host := x } where
  kept := h.kept.trans (.ofHost ⟨x, rfl⟩)
  mismatch := h.mismatch
  car := h.car
  dlv := h.dlv
  trim := h.trim
  present := h.present
  ended := h.ended
  poll := h.poll

/-- A fault with its notice. -/
theorem faultNoticed_work (c : FaultCause) (n : Notice) (x : BitVec 32) (s : State) :
    FaultWork s (raiseNotice n x (lineFault c s)) := by
  obtain ⟨y, hy⟩ := raiseNotice_host n x (lineFault c s)
  rw [hy]
  exact (lineFault_work c s).host

theorem raiseNotice_car (n : Notice) (x : BitVec 32) (s : State) : (raiseNotice n x s).car = s.car := by
  obtain ⟨y, hy⟩ := raiseNotice_host n x s
  rw [hy]

/-! ## A restart of RELEASE (R125, R160) -/

theorem discardEarly_eq (s : State) : discardEarly s = { s with dlv := { s.dlv with
    dropWatch := if s.dlv.dropWatch = .early then .none else s.dlv.dropWatch } } := by
  unfold discardEarly
  split
  · next h => rw [h]; rfl
  · next h => rw [if_neg h]

/-- The release job ends FAILED: an early drop is discarded and the station's count raised (R51, R125). -/
theorem jobFailed_release (hj : j.item.station = .release) (l : List Attempt) (s : State) :
    jobFailed l j s = stationOverrun .release (discardEarly (endJob .release .failed s)) := by
  simp only [jobFailed, hj]

/-- A fault other than the e-stop with its notice ends the dwell or does not touch the carousel. -/
theorem faultNoticed_dwelling {c : FaultCause} (n : Notice) (x : BitVec 32) (hd : s.car.state = .dwelling)
    (hc : c ≠ .estop) : (raiseNotice n x (lineFault c s)).car.state = .standing
      ∨ (raiseNotice n x (lineFault c s)).car = s.car := by
  rw [raiseNotice_car]
  exact lineFault_dwelling hd hc

/-- The state in which RELEASE's failure raises its count. -/
def releaseFailed (s : State) : State := discardEarly (endJob .release .failed s)

theorem releaseFailed_eq (s : State) : releaseFailed s = { endJob .release .failed s with dlv := { s.dlv with
    dropWatch := if s.dlv.dropWatch = .early then .none else s.dlv.dropWatch } } :=
  discardEarly_eq (endJob .release .failed s)

theorem releaseFailed_kept (n : Nat) (s : State) : LineKept s (setOverrun .release n (releaseFailed s)) :=
  setOverrun_kept _ _ (discardEarly_kept (endJob_kept _ _ (.refl s)))

theorem releaseFailed_jobAt (hj : jobAt s .release = some j) (n : Nat) :
    jobAt (setOverrun .release n (releaseFailed s)) .release = some { j with status := .failed, limit := .suspended } := by
  rw [releaseFailed_eq]
  exact jobAt_endJob .failed hj

theorem not_early_discarded (s : State) : (releaseFailed s).dlv.dropWatch ≠ .early := by
  rw [releaseFailed_eq]
  show (if s.dlv.dropWatch = .early then DropWatch.none else s.dlv.dropWatch) ≠ .early
  split_ifs with h
  · nofun
  · exact h

/-- After RELEASE's failure the fault has no early drop left to discard. -/
theorem FaultWork.dlv_of_released {n : Nat} (h : FaultWork (setOverrun .release n (releaseFailed s)) t) :
    t.dlv = (releaseFailed s).dlv :=
  h.dlv.resolve_right fun ⟨he, _⟩ => not_early_discarded s he

theorem restartTaken_release (hd : s.car.state = .dwelling) : RestartTaken .release s (restartJob .release .release s) := by
  have hone : ∀ x, stationNode x = .release → x = .release := fun x => by cases x <;> simp [stationNode]
  by_cases hc : ∀ j, jobAt s .release = some j → j.ended = true ∨ j.releaseDone = true
  · rw [restartJob_of_closed hc]
    refine ⟨.refl s, fun _ _ h => ⟨h, rfl⟩, .inl ⟨rfl, fun _ h _ => h⟩, fun x hx => ?_, fun x hx => ?_⟩
    · rw [hone x hx]
      refine fun j hj he => ⟨fun _ => ⟨hj, fun _ => rfl⟩, fun hr => ?_⟩
      exact absurd (hc j hj) (by simp [he, hr])
    · rw [hone x hx]
      exact fun j hj => (hc j hj).imp_left not_inFlight_of_ended
  simp only [not_forall, not_or, Bool.not_eq_true] at hc
  obtain ⟨j, hj, he, hr⟩ := hc
  have hrestart : restartJob .release .release s = stationOverrun .release (releaseFailed s) :=
    (restartJob_of_open hj rfl he hr).trans (jobFailed_release (station_of_jobAt hj) [] s)
  have hset : ∀ n t, FaultWork (setOverrun .release n (releaseFailed s)) t →
      ((t.car.state = s.car.state ∧ ∀ k ∈ s.car.jobs, stationNode k.item.station ≠ .release → k ∈ t.car.jobs)
        ∨ t.car.state ≠ .dwelling) → RestartTaken .release s t := by
    intro n t h hdwell
    have hat := h.ended .release _ (releaseFailed_jobAt hj n) rfl
    have hbus : (setOverrun .release n (releaseFailed s)).bus = s.bus := by rw [releaseFailed_eq]; rfl
    refine ⟨(releaseFailed_kept n s).trans h.kept, by rw [← hbus]; exact h.poll, hdwell.imp_right fun h => ⟨rfl, h⟩,
      fun x hx => ?_, fun x hx => ?_⟩
    · rw [hone x hx]
      intro k hk _
      rw [hj] at hk
      cases hk
      refine ⟨fun h => absurd (h.symm.trans hr) nofun, fun _ => ⟨hat, nofun, fun _ hw => ?_, fun _ h => absurd rfl h⟩⟩
      rw [h.dlv_of_released, releaseFailed_eq]
      exact if_pos hw
    · rw [hone x hx]
      intro k hk
      rw [hat] at hk
      cases hk
      exact .inl rfl
  have hmem : ∀ n, (setOverrun .release n (releaseFailed s)).car.state = s.car.state ∧ ∀ k ∈ s.car.jobs,
      stationNode k.item.station ≠ .release → k ∈ (setOverrun .release n (releaseFailed s)).car.jobs := by
    intro n
    rw [releaseFailed_eq]
    exact ⟨rfl, fun k hk hne => mem_endJob_of_ne .failed hk fun h => hne (by rw [h]; rfl)⟩
  rw [hrestart]
  rcases Nat.eq_zero_or_pos (overrunCount (releaseFailed s) .release) with h0 | h1
  · rw [stationOverrun_first h0]
    exact hset 1 _ (Stopped.refl _).faultWork (.inl (hmem 1))
  · rw [stationOverrun_second h1]
    refine hset 2 _ (faultNoticed_work _ _ _ _) ?_
    rcases faultNoticed_dwelling .stationOverrun (BitVec.ofNat 32 (nodeAddr (stationNode .release)))
      (c := .stationOverrun) ((hmem 2).1.trans hd) nofun with h | h
    · exact .inr (by rw [h]; nofun)
    · exact .inl (by rw [h]; exact hmem 2)

/-- The work of a restarted group node (R160). -/
theorem restartWork_taken {n : NodeId} (hg : isGroup n = true) (hd : s.car.state = .dwelling) :
    RestartTaken n s (restartWork n s) := by
  cases n with
  | loader => exact restartTaken_of_one (st := .load) (by decide) (fun x => by cases x <;> simp [stationNode]) s
  | mill => exact restartTaken_of_one (st := .mill) (by decide) (fun x => by cases x <;> simp [stationNode]) s
  | nip => exact restartTaken_of_one (st := .nip) (by decide) (fun x => by cases x <;> simp [stationNode]) s
  | glue =>
    exact restartTaken_of_two (st := .spine) (st' := .side) (by decide) (by decide) (by decide)
      (fun x => by cases x <;> simp [stationNode]) s
  | cover =>
    exact restartTaken_of_two (st := .draw) (st' := .apply) (by decide) (by decide) (by decide)
      (fun x => by cases x <;> simp [stationNode]) s
  | release => exact restartTaken_release hd
  | drive => cases hg
  | cooling => cases hg
  | trimmer => cases hg

end

end Sys2Proof.Machine

/-! PROOFS. O36: the endings of the station jobs (4.2, 4.3, 5.5, 5.7, 9.3, 9.4). -/

namespace Sys2Proof.Machine

section
variable {s t u v : State} {st : Station} {j : Job} {n : NodeId} {tag : Byte} {slot : Nat}

/-! ## The slot's end in a dwell that goes on -/

/-- A dwell with an open job: GLUE's temperature is taken and the slot closes. -/
theorem slotEnd_of_open (temp : Option Nat) (hd : u.car.state = .dwelling) (ho : ∃ k ∈ u.car.jobs, k.ended = false)
    (hb : u.bus.current = some (.poll tag slot)) : ∃ t, TempTaken u t ∧ slotClosed (dwellCheck (slotTemp n temp u))
      = { t with bus := { t.bus with current := some (.poll tag (slot + 1)) } } := by
  have htemp := slotTemp_tempTaken n temp hd
  refine ⟨_, htemp, ?_⟩
  obtain ⟨g, l, x, -, ht⟩ := htemp
  rw [dwellCheck_of_open (by rw [ht]; exact ho), slotClosed_of_poll (by rw [ht]; exact hb)]

theorem TempTaken.refl (u : State) : TempTaken u u := ⟨u.glue, u.line.holds, u.host, rfl, rfl⟩

theorem TempTaken.car (h : TempTaken u t) : t.car = u.car := by
  obtain ⟨_, _, _, -, rfl⟩ := h
  rfl

theorem TempTaken.bus (h : TempTaken u t) : t.bus = u.bus := by
  obtain ⟨_, _, _, -, rfl⟩ := h
  rfl

theorem TempTaken.tickets (h : TempTaken u t) : t.tickets = u.tickets := by
  obtain ⟨_, _, _, -, rfl⟩ := h
  rfl

theorem TempTaken.dlv (h : TempTaken u t) : t.dlv = u.dlv := by
  obtain ⟨_, _, _, -, rfl⟩ := h
  rfl

theorem TempTaken.cover (h : TempTaken u t) : t.cover = u.cover := by
  obtain ⟨_, _, _, -, rfl⟩ := h
  rfl

theorem TempTaken.trim (h : TempTaken u t) : t.trim = u.trim := by
  obtain ⟨_, _, _, -, rfl⟩ := h
  rfl

/-! ## A restart mark in a slot (R160) -/

/-- The node's record after an answer with a new restart mark (R152, R160). -/
def restartedRec (n : NodeId) (s : State) : NodeRec := { nodeRec s n with
  state := .present, misses := 0, lastAnswer := s.clock, restarts := min 255 ((nodeRec s n).restarts + 1)
  ackPending := true }

/-- The state in which the work of a restarted node ends. -/
def restartMarked (n : NodeId) (s : State) : State := setNode n (restartedRec n s) (clearOut s)

theorem setNode_setNode (n : NodeId) (a b : NodeRec) (s : State) : setNode n b (setNode n a s) = setNode n b s := by
  simp only [setNode, Vector.set_set]

/-- A restart mark on a record without a pending acknowledgement (R160). -/
theorem takeRestart_setNode {r : NodeRec} (h : r.ackPending = false) (s : State) : takeRestart n (setNode n r s)
    = restartWork n (setNode n { r with restarts := min 255 (r.restarts + 1), ackPending := true } s) := by
  have hrec : nodeRec (setNode n r s) n = r := (nodeRec_setNode _ _ _ _).trans (if_pos rfl)
  unfold takeRestart
  rw [hrec]
  exact (if_neg (by simp [h])).trans (congrArg (restartWork n) (setNode_setNode n r _ s))

theorem nodeAnswered_restart (hg : isGroup n = true) (ha : (nodeRec s n).ackPending = false) :
    nodeAnswered n true (clearOut s) = restartWork n (restartMarked n s) := by
  have hcool : (n == NodeId.cooling) = false := beq_eq_false_iff_ne.mpr fun h => by rw [h] at hg; cases hg
  simp only [nodeAnswered, hcool, Bool.and_false, Bool.false_eq_true, if_false, if_true]
  exact takeRestart_setNode (r := { nodeRec s n with state := .present, misses := 0, lastAnswer := s.clock }) ha _

theorem takeStatus_of_quiet (h : StationQuiet st u) (l : List (Station × JobAnswer)) : takeStatus l st u = u := by
  unfold takeStatus
  split
  · rfl
  · next j hj =>
    refine if_pos ?_
    rcases h j hj with h | h <;> simp [h]

theorem stationNode_of_mem (h : st ∈ nodeStations n) : stationNode st = n := by
  cases n <;> simp [nodeStations] at h <;> aesop

theorem takeJobs_of_quiet (h : ∀ st, stationNode st = n → StationQuiet st u) (tag : Byte)
    (l : List (Station × JobAnswer)) : takeJobs tag n l u = u := by
  have hfold : ∀ l' : List Station, (∀ x ∈ l', stationNode x = n) →
      l'.foldl (fun s st => takeStatus l st s) u = u := by
    intro l'
    induction l' with
    | nil => exact fun _ => rfl
    | cons a l' ih =>
      intro hl
      rw [List.foldl_cons, takeStatus_of_quiet (h a (hl a (by simp))) l]
      exact ih fun x hx => hl x (by simp [hx])
  unfold takeJobs
  split
  · exact hfold _ fun _ hx => stationNode_of_mem hx
  · rfl

theorem isGroup_of_slotNode (h : slotNode slot = some n) : isGroup n = true := by
  unfold slotNode at h
  split at h <;> cases h <;> rfl

/-- A slot answer with a new restart mark ends the node's work and closes the slot, whatever it says of the jobs. -/
theorem exec_restartedSlot (hlive : s.pins.inReset = false) (hbus : s.bus.current = some (.poll tag slot))
    (hslot : slotNode slot = some n) (hd : s.car.state = .dwelling) (ha : (nodeRec s n).ackPending = false)
    (ho : ∃ k ∈ s.car.jobs, stationNode k.item.station ≠ n ∧ k.ended = false) (l : List (Station × JobAnswer))
    (temp : Option Nat) : ∃ v t, RestartTaken n (restartMarked n s) v ∧ TempTaken v t
      ∧ exec (.slotAnswer n l temp ⟨true, true⟩) s
        = .next { t with bus := { t.bus with current := some (.poll tag (slot + 1)) } } := by
  have hg := isGroup_of_slotNode hslot
  have hv : RestartTaken n (restartMarked n s) (restartWork n (restartMarked n s)) := restartWork_taken hg hd
  have hexec : exec (.slotAnswer n l temp ⟨true, true⟩) s
      = .next (slotClosed (dwellCheck (slotTemp n temp (restartWork n (restartMarked n s))))) := by
    show Host.Outcome.next (live (received true (slotAnswered n l temp true)) s) = _
    rw [live_next _ s hlive, received_true]
    simp only [slotAnswered, clearOut_bus, hbus, hslot, beq_self_eq_true, if_true, nodeAnswered_restart hg ha,
      takeJobs_of_quiet hv.quiet]
  obtain ⟨hpoll, -⟩ := hv.poll tag slot hbus
  rcases hv.dwell with ⟨hstate, hmem⟩ | ⟨hrel, hstate⟩
  · obtain ⟨k, hk, hne, hopen⟩ := ho
    obtain ⟨t, ht, he⟩ := slotEnd_of_open (n := n) temp (hstate.trans hd) ⟨k, hmem k hk hne, hopen⟩ hpoll
    exact ⟨_, t, hv, ht, hexec.trans (congrArg _ he)⟩
  · refine ⟨_, _, hv, .refl _, hexec.trans (congrArg _ ?_)⟩
    have hcheck : dwellCheck (restartWork n (restartMarked n s)) = restartWork n (restartMarked n s) := by
      unfold dwellCheck
      exact if_neg (by simp [hstate])
    have htemp : ∀ u, slotTemp n temp u = u := fun u => by rw [hrel]; rfl
    rw [htemp, hcheck, slotClosed_of_poll hpoll]

/-! ## An answer without the job (R154) -/

theorem repeatWaits_iff (s : State) (j : Job) : repeatWaits s j = true ↔
    ∃ items, .work s.car.tag items true ∈ s.bus.carQ ∧ ∃ i ∈ items, i.station = j.item.station := by
  unfold repeatWaits
  rw [List.any_eq_true]
  constructor
  · rintro ⟨f, hf, hok⟩
    split at hok
    · next tag items =>
      simp only [Bool.and_eq_true, beq_iff_eq, List.any_eq_true] at hok
      obtain ⟨rfl, i, hi, hst⟩ := hok
      exact ⟨items, hf, i, hi, hst⟩
    · cases hok
  · rintro ⟨items, hf, i, hi, hst⟩
    exact ⟨_, hf, by simpa using ⟨i, hi, hst⟩⟩

/-- The repeat WORK joins the carousel's frames unless one waits. -/
theorem noJob_issued (h : AnswersJob s st j tag slot) (hi : j.status = .issued) :
    noJob j (slotHeard (stationNode st) s) = { slotHeard (stationNode st) s with
      bus := { (slotHeard (stationNode st) s).bus with
        carQ := if repeatWaits s j then s.bus.carQ else s.bus.carQ ++ [.work tag [j.item] true] } } := by
  have hbusy : (slotHeard (stationNode st) s).bus.current ≠ none := by
    rw [show (slotHeard (stationNode st) s).bus.current = _ from h.bus]
    nofun
  have hrep : repeatWaits (slotHeard (stationNode st) s) j = repeatWaits s j := rfl
  have hstatus : (j.status == JobStatus.busy) = false := by rw [hi]; rfl
  unfold noJob
  rw [hstatus, hrep, handOver_of_busy _ hbusy, h.tag]
  cases repeatWaits s j <;> rfl

theorem slotHeard_kept (n : NodeId) (s : State) : LineKept s (slotHeard n s) :=
  ⟨⟨rfl, rfl, rfl, rfl, rfl, rfl, rfl, rfl⟩, ⟨rfl, rfl, rfl, rfl, rfl, rfl⟩, .ofEq rfl, rfl⟩

/-- A slot answer that leaves the node's other jobs alone and the dwell with an open job. -/
theorem exec_slotLeft (h : AnswersJob s st j tag slot) {l : List (Station × JobAnswer)} (temp : Option Nat)
    (hu : takeStatus l st (slotHeard (stationNode st) s) = u) (ha : Alone u st) (hd : u.car.state = .dwelling)
    (ho : ∃ k ∈ u.car.jobs, k.ended = false) (hb : u.bus.current = some (.poll tag slot)) :
    ∃ t, TempTaken u t ∧ exec (.slotAnswer (stationNode st) l temp ⟨false, true⟩) s
      = .next { t with bus := { t.bus with current := some (.poll tag (slot + 1)) } } := by
  have htake : takeJobs tag (stationNode st) l (slotHeard (stationNode st) s) = u :=
    (takeJobs_alone (s := slotHeard (stationNode st) s) h.tag h.alone' (by rw [hu]; exact ha)).trans hu
  obtain ⟨t, ht, he⟩ := slotEnd_of_open (n := stationNode st) temp hd ho hb
  exact ⟨t, ht, by rw [exec_slotAnswer h, htake, he]⟩

theorem stationOverrun_kept (st : Station) (h : LineKept s t) : LineKept s (stationOverrun st t) := by
  unfold stationOverrun
  exact .ite (fun _ => raiseNotice_kept _ _ (lineFault_kept _ (setOverrun_kept _ _ h))) fun _ => setOverrun_kept _ _ h

theorem jobClosed_of_at {e : JobStatus}
    (hjob : jobAt t st = some { j with status := e, limit := .suspended }) (hcar : t.car.state = .dwelling)
    (hnodes : t.bus.nodes = (slotHeard (stationNode st) s).bus.nodes)
    (hbus : t.bus.current = some (.poll tag (slot + 1))) : JobClosed t st j e tag slot where
  job := hjob
  bus := hbus
  dwell := hcar
  present := by
    have hrec : nodeRec t (stationNode st)
        = { nodeRec s (stationNode st) with state := .present, misses := 0, lastAnswer := s.clock } := by
      rw [nodeRec, hnodes]
      exact (nodeRec_setNode _ _ _ _).trans (if_pos rfl)
    simp [Machine.present, hrec]

/-! ## O36 -/

/-- DONE of a station that at most writes the glue time (R69, R70, R72, R97). -/
theorem exec_stationDone (h : AnswersJob s st j tag slot) (hgo : DwellGoesOn s st)
    (hst : st = .mill ∨ st = .side ∨ st = .nip ∨ st = .spine) (r : JobResult) (temp : Option Nat) :
    ∃ t, exec (.slotAnswer (stationNode st) [(st, .done r)] temp ⟨false, true⟩) s = .next t
      ∧ JobClosed t st j .done tag slot ∧ TablesKept s t ∧ DeliveryKept s t ∧ t.tickets = s.tickets
      ∧ t.cover = s.cover ∧ t.trim = s.trim ∧ overrunCount t st = 0
      ∧ ∀ d, clampRec t d = clampRec (mapBook j.item.clamp
        (fun b => if st = .spine then { b with glueTime := some s.clock } else b) s) d := by
  have hdone := (takeStatus_done h r).trans (jobDone_station (s := s) (station_of_jobAt h.job) hst r)
  obtain ⟨t, ht, he⟩ := exec_jobEnds_temp h hgo temp hdone rfl rfl rfl
  obtain ⟨g, l, x, hg, rfl⟩ := ht
  exact ⟨_, he, jobClosed_of_ends h rfl rfl rfl, ⟨rfl, rfl, rfl, hg, rfl, rfl, rfl, rfl⟩,
    ⟨rfl, rfl, rfl, rfl, rfl, rfl⟩, rfl, rfl, rfl, overrunCount_jobTaken _ _ s, fun _ => rfl⟩

/-- FAILED at a station that gives its book STATION (R69, R71, R72, R94, R97). -/
theorem exec_stationFailed (h : AnswersJob s st j tag slot) (hgo : DwellGoesOn s st)
    (hst : st = .mill ∨ st = .spine ∨ st = .side ∨ st = .nip ∨ st = .apply) (l : List Attempt) (temp : Option Nat) :
    ∃ t, exec (.slotAnswer (stationNode st) [(st, .failed l)] temp ⟨false, true⟩) s = .next t
      ∧ JobClosed t st j .failed tag slot ∧ LineKept s t ∧ overrunCount t st = 0
      ∧ (∀ d, d ≠ j.item.clamp → clampRec t d = clampRec s d)
      ∧ bookIn t j.item.clamp = (bookIn s j.item.clamp).map stationed
      ∧ t.cover = (if st = .apply then { s.cover with entries := s.cover.entries.drop 1 } else s.cover) := by
  obtain ⟨v, hv⟩ : ∃ v : State, v = { jobTaken st .failed s with
      cover := if st = .apply then { s.cover with entries := s.cover.entries.drop 1 } else s.cover } := ⟨_, rfl⟩
  have hfail : takeStatus [(st, .failed l)] st (slotHeard (stationNode st) s)
      = mapBook j.item.clamp stationed v := by
    rw [takeStatus_failed h, jobFailed_station (station_of_jobAt h.job) hst, ← hv, setReason_eq]
    rfl
  have hkept : LineKept s (mapBook j.item.clamp stationed v) := by
    have hk : LineKept s v := by
      rw [hv]
      exact (jobTaken_kept st .failed s).next ⟨rfl, rfl, rfl, rfl, rfl, rfl, rfl, rfl⟩ ⟨rfl, rfl, rfl, rfl, rfl, rfl⟩ rfl rfl
    have := setReason_kept j.item.clamp .station hk
    rwa [setReason_eq] at this
  obtain ⟨t, ht, he⟩ := exec_jobEnds_temp h hgo (e := .failed) temp hfail (by rw [hv]; rfl) (by rw [hv]; rfl) (by rw [hv]; rfl)
  have hcar := ht.car
  have hbus := ht.bus
  have hclamps : ∀ d, clampRec t d = clampRec (mapBook j.item.clamp stationed v) d := fun d => by
    rw [clampRec, hcar]; rfl
  have hsame : ∀ d, clampRec v d = clampRec s d := fun d => by rw [hv]; rfl
  refine ⟨_, he, jobClosed_of_at (s := s) ?_ ?_ ?_ rfl, slot_kept (hkept.trans (tempTaken_kept ht)) _, ?_, fun d hd => ?_, ?_, ?_⟩
  · show jobAt t st = _
    rw [jobAt, hcar, hv]
    exact jobAt_endJob .failed h.job
  · show t.car.state = _
    rw [hcar, hv]
    exact h.dwelling
  · show t.bus.nodes = _
    rw [hbus, hv]
    rfl
  · show overrunCount t st = 0
    rw [overrunCount, hcar, hv]
    exact overrunCount_jobTaken st .failed s
  · exact (hclamps d).trans ((clampRec_mapBook_of_ne _ _ hd).trans (hsame d))
  · show bookIn t _ = _
    rw [bookIn_eq, hclamps, clampRec_mapBook, if_pos rfl, bookIn_eq, hsame, ← bookIn_eq]
  · show t.cover = _
    rw [ht.cover, hv]
    rfl

/-- A slot answer that does not speak of a job in flight (R154). -/
theorem exec_noJob (h : AnswersJob s st j tag slot) (hgo : DwellGoesOn s st) {l : List (Station × JobAnswer)}
    (hl : l = [] ∨ l = [(st, .noJob)]) (temp : Option Nat) :
    ∃ t, exec (.slotAnswer (stationNode st) l temp ⟨false, true⟩) s = .next t ∧ LineKept s t
      ∧ (j.status = .busy → st ≠ .release → JobClosed t st j .failed tag slot
        ∧ ∀ b, st ≠ .load → bookIn s j.item.clamp = some b → bookIn t j.item.clamp = some (stationed b))
      ∧ (j.status = .issued → jobAt t st = some j ∧ t.car = s.car ∧ t.bus.current = some (.poll tag (slot + 1))
        ∧ t.bus.carQ = if repeatWaits s j then s.bus.carQ else s.bus.carQ ++ [.work tag [j.item] true]) := by
  have htake := takeStatus_noJob h hl
  have hopen : ∃ k ∈ s.car.jobs, k.ended = false := hgo.imp fun k hk => ⟨hk.1, hk.2.2⟩
  rcases h.sent with hi | hb
  · rw [noJob_issued h hi] at htake
    obtain ⟨t, ht, he⟩ := exec_slotLeft h temp htake (h.alone'.of_jobs rfl) h.dwelling hopen h.bus
    have hkept : LineKept s t := by
      refine LineKept.trans ?_ (tempTaken_kept ht)
      exact (slotHeard_kept (stationNode st) s).next ⟨rfl, rfl, rfl, rfl, rfl, rfl, rfl, rfl⟩
        ⟨rfl, rfl, rfl, rfl, rfl, rfl⟩ rfl rfl
    have hcar : t.car = s.car := ht.car
    refine ⟨_, he, slot_kept hkept _, fun hb => absurd (hi.symm.trans hb) nofun, fun _ => ⟨?_, hcar, rfl, ?_⟩⟩
    · show jobAt t st = _
      rw [jobAt, hcar]
      exact h.job
    · exact congrArg Bus.carQ ht.bus
  have hno : noJob j (slotHeard (stationNode st) s) = jobFailed [] j (slotHeard (stationNode st) s) := if_pos (by simp [hb])
  rw [hno] at htake
  by_cases hrel : st = .release
  · subst hrel
    refine ⟨_, exec_slotAnswer h l temp, ?_, fun _ h => absurd rfl h, fun hi => absurd (hi.symm.trans hb) nofun⟩
    have hfail : LineKept s (jobFailed [] j (slotHeard .release s)) := by
      rw [jobFailed_release (station_of_jobAt h.job)]
      exact stationOverrun_kept _ (discardEarly_kept (endJob_kept _ _ (slotHeard_kept .release s)))
    have htag : (tag == s.car.tag) = true := beq_iff_eq.mpr h.tag
    have hjobs : takeJobs tag .release l (slotHeard .release s) = jobFailed [] j (slotHeard .release s) :=
      (if_pos htag).trans htake
    show LineKept s (slotClosed (dwellCheck (takeJobs tag .release l (slotHeard .release s))))
    rw [hjobs]
    have hcheck := dwellCheck_kept hfail
    unfold slotClosed
    split
    · exact slot_kept hcheck _
    · exact hcheck
  · obtain ⟨hended, hat, -, hbook⟩ := jobFailed_ended (s := slotHeard (stationNode st) s) h.job hrel
    obtain ⟨k, hk, hne, hopen⟩ := hgo
    have halone : Alone (jobFailed [] j (slotHeard (stationNode st) s)) st := fun k hk hn =>
      (hended.origin k hk).elim .inl fun hs => h.alone' k hs hn
    obtain ⟨t, ht, he⟩ := exec_slotLeft h temp htake halone (hended.state.trans h.dwelling)
      ⟨k, hended.members k hk hne, hopen⟩ (by rw [hended.bus]; exact h.bus)
    have hcar := ht.car
    refine ⟨_, he, slot_kept (((slotHeard_kept _ s).trans hended.kept).trans (tempTaken_kept ht)) _,
      fun _ _ => ⟨jobClosed_of_at (s := s) ?_ ?_ ?_ rfl, fun b hl e => ?_⟩, fun hi => absurd (hi.symm.trans hb) nofun⟩
    · show jobAt t st = _
      rw [jobAt, hcar]
      exact hat
    · show t.car.state = _
      rw [hcar]
      exact hended.state.trans h.dwelling
    · show t.bus.nodes = _
      rw [ht.bus, hended.bus]
    · show bookIn t _ = _
      rw [bookIn_of_clamps (congrArg Carousel.clamps hcar), hbook hl,
        show bookIn (slotHeard (stationNode st) s) j.item.clamp = some b from e]
      rfl

end

/-- Settles O36: every ending is the change of one clamp's record and of one job, in a dwell that another job keeps
open; a restart ends the node's open jobs before the slot's statuses are taken, so that they find none. -/
theorem stationJobsEnd : Obligations.StationJobsEnd := by
  unfold Obligations.StationJobsEnd
  refine ⟨?done, ?apply, ?failed, ?restart, ?noJob⟩
  case done =>
    intro s st j tag slot r temp h hgo hst
    obtain ⟨t, he, hclosed, htables, hbooks, htickets, hcover, htrim, hcount, hclamps⟩ := exec_stationDone h hgo hst r temp
    refine ⟨t, he, hclosed, htables, hbooks, htickets, hcover, htrim, hcount, fun d hd => ?_, fun hs => ?_⟩
    · rw [hclamps]
      by_cases hs : st = .spine
      · exact clampRec_mapBook_of_ne _ _ (hd hs)
      · simp only [hs, if_false, mapBook, Option.map_id']
        exact congrArg (clampRec · d) (setBook_self _ s)
    · rw [hclamps, clampRec_mapBook, if_pos rfl]
      simp only [hs, if_true]
  case apply =>
    intro s j tag slot r form h hgo hform
    have hdone := (takeStatus_done h r).trans (jobDone_apply (s := s) (station_of_jobAt h.job) hform r)
    refine ⟨_, exec_jobEnds h hgo (e := .done) hdone rfl rfl, jobClosed_of_ends h rfl rfl rfl, ⟨rfl, rfl, rfl, rfl, rfl, rfl, rfl, rfl⟩,
      ⟨rfl, rfl, rfl, rfl, rfl, rfl⟩, rfl, rfl, overrunCount_jobTaken _ _ s, rfl, fun d hd => ?_, fun hf => ?_⟩
    · refine (clampRec_mapBook j.item.clamp d _ _).trans ?_
      split
      · next hdc =>
        have hf : form ≠ .apply := fun hf => hd hf hdc
        simp only [hf, if_false, Option.map_id']
        rw [hdc]
        rfl
      · rfl
    · refine (clampRec_mapBook j.item.clamp _ _ _).trans ?_
      simp only [hf, if_true]
      rfl
  case failed =>
    intro s st j tag slot l temp h hgo hst
    exact exec_stationFailed h hgo hst l temp
  case restart =>
    intro s n tag slot l temp hlive hbus hslot hd ha ho
    obtain ⟨v, t, hv, ht, he⟩ := exec_restartedSlot hlive hbus hslot hd ha ho l temp
    have hmarked : LineKept s (restartMarked n s) :=
      ⟨⟨rfl, rfl, rfl, rfl, rfl, rfl, rfl, rfl⟩, ⟨rfl, rfl, rfl, rfl, rfl, rfl⟩, .ofEq rfl, rfl⟩
    obtain ⟨-, hnodes⟩ := hv.poll tag slot hbus
    refine ⟨_, he, slot_kept ((hmarked.trans hv.kept).trans (tempTaken_kept ht)) _, ?_, rfl, fun st j hst hj hopen => ?_⟩
    · show t.bus.nodes[nodeIdx n] = _
      rw [ht.bus, hnodes]
      exact (nodeRec_setNode _ _ _ _).trans (if_pos rfl)
    · obtain ⟨hdone, hfail⟩ := hv.jobs st hst j hj hopen
      have hat : jobAt t st = jobAt v st := by rw [jobAt, ht.car, jobAt]
      refine ⟨fun hr => ?_, fun hr => ?_⟩
      · obtain ⟨h₁, h₂⟩ := hdone hr
        exact ⟨hat.trans h₁, fun hs => ht.dlv.trans (h₂ hs)⟩
      · obtain ⟨h₁, h₂, h₃, h₄⟩ := hfail hr
        refine ⟨hat.trans h₁, fun hs hp => ?_, fun hs hw => ?_, fun hl hn b hb => ?_⟩
        · show t.tickets.reserved = false
          rw [ht.tickets]
          exact h₂ hs hp
        · show t.dlv.dropWatch = .none
          rw [ht.dlv]
          exact h₃ hs hw
        · exact (bookIn_of_clamps (congrArg Carousel.clamps ht.car) _).trans (h₄ hl hn b hb)
  case noJob =>
    intro s st j tag slot l temp h hgo hl
    obtain ⟨t, he, hkept, hbusy, hissued⟩ := exec_noJob h hgo hl temp
    refine ⟨t, he, hkept, fun hb hr => hbusy hb hr, fun hi => ?_⟩
    obtain ⟨hat, hcar, hcur, hq⟩ := hissued hi
    have hiff := repeatWaits_iff s j
    rw [← h.tag, station_of_jobAt h.job] at hiff
    exact ⟨hat, hcar, hcur, fun hw => hq.trans (if_pos (hiff.2 hw)), fun hw => hq.trans (if_neg fun hc => hw (hiff.1 hc))⟩

end Sys2Proof.Machine

/-! PROOFS. O37: the outcomes of a draw (5.1, 5.2). -/

namespace Sys2Proof.Machine

section
variable {s t u w : State} {j : Job} {tag : Byte} {slot : Nat}

/-! ## The mismatch count (R83, R86, R87) -/

theorem countAttempt_eq (n : Nat) (a : Attempt) : countAttempt n a = if a = .hit then 0 else min 2 (n + 1) := by
  cases a <;> rfl

theorem countAttempts_eq (n : Nat) (l : List Attempt) :
    countAttempts n l = l.foldl (fun n a => if a = .hit then 0 else min 2 (n + 1)) n :=
  congrArg (fun f => l.foldl f n) (funext fun n => funext fun a => countAttempt_eq n a)

/-- COVER_SEQUENCE in a dwell: its hold is pending at most (R87, R107). -/
structure SequenceTaken (id : TicketId) (l : List Attempt) (u t : State) : Prop where
  eq     : ∃ x h, t = { u with line := { u.line with holds := x }, host := h }
  quiet  : l = [] ∨ u.cover.mismatch < 2 → t.line = u.line
  raised : l ≠ [] → u.cover.mismatch = 2 → Noticed .coverSequence id t
    ∧ (u.line.state = .running ∨ u.line.state = .draining →
      t.line = { u.line with holds := { u.line.holds with coverSequence := true } })

theorem coverSequence_taken (id : TicketId) (l : List Attempt) (hd : u.car.state = .dwelling) :
    SequenceTaken id l u (coverSequence id l u) := by
  unfold coverSequence
  split
  · next hc =>
    obtain ⟨hl, h2⟩ : l ≠ [] ∧ u.cover.mismatch = 2 := by simpa using hc
    obtain ⟨x, hx⟩ := lineHold_of_dwelling .coverSequence hd
    obtain ⟨y, hy⟩ := raiseNotice_host .coverSequence id (lineHold .coverSequence u)
    refine ⟨⟨x, y, by rw [hy, hx]⟩, fun h => ?_, fun _ _ => ⟨noticed_raiseNotice _ _ _, fun hm => ?_⟩⟩
    · rcases h with h | h
      · exact absurd h hl
      · omega
    · rw [hy]
      exact congrArg State.line (lineHold_pending .coverSequence hm (by rw [hd]; decide))
  · next hc =>
    refine ⟨⟨u.line.holds, u.host, rfl⟩, fun _ => rfl, fun hl h2 => absurd ?_ hc⟩
    simp [hl, h2]

/-- The slot answer of a draw that ends the job, from the state its outcomes leave. -/
theorem exec_drawEnds (h : AnswersJob s .draw j tag slot) (hgo : DwellGoesOn s .draw) {a : JobAnswer} {e : JobStatus}
    {l : List Attempt} {id : TicketId} (hu : takeStatus [(.draw, a)] .draw (slotHeard .cover s) = coverSequence id l w)
    (hk : LineKept s w) (hl : w.line = s.line) (hb : w.bus = (jobTaken .draw e s).bus)
    (hc : ∃ v, w.car = { (jobTaken .draw e s).car with clamps := v }) :
    ∃ t, exec (.slotAnswer .cover [(.draw, a)] none ⟨false, true⟩) s = .next t ∧ JobClosed t .draw j e tag slot
      ∧ LineKept s t ∧ overrunCount t .draw = 0 ∧ t.cover = w.cover ∧ t.car = w.car
      ∧ (l = [] ∨ w.cover.mismatch < 2 → t.line = s.line)
      ∧ (l ≠ [] → w.cover.mismatch = 2 → Noticed .coverSequence id t
        ∧ (s.line.state = .running ∨ s.line.state = .draining →
          t.line = { s.line with holds := { s.line.holds with coverSequence := true } })) := by
  obtain ⟨v, hcar⟩ := hc
  have hstate : w.car.state = s.car.state := by rw [hcar]; rfl
  have hjobs : w.car.jobs = (jobTaken .draw e s).car.jobs := by rw [hcar]
  have hcount : overrunCount w .draw = 0 := by
    rw [overrunCount, hcar]
    exact overrunCount_jobTaken .draw e s
  obtain ⟨⟨x, y, heq⟩, hquiet, hraised⟩ := coverSequence_taken id l (hstate.trans h.dwelling)
  rw [heq] at hu hquiet hraised
  rw [hl] at hquiet hraised
  have hkept : LineKept s { w with line := { s.line with holds := x }, host := y } :=
    (hk.line { s.line with holds := x }).trans (.ofHost ⟨y, rfl⟩)
  rw [hl] at hu
  exact ⟨_, exec_jobEnds h hgo hu hjobs hb, jobClosed_of_ends h hstate hjobs hb, slot_kept hkept _, hcount, rfl, rfl,
    hquiet, hraised⟩

/-- The draw has ended and its attempts are counted (R83, R86). -/
def drawCounted (e : JobStatus) (l : List Attempt) (s : State) : State :=
  { jobTaken .draw e s with cover := { s.cover with mismatch := countAttempts s.cover.mismatch l } }

theorem drawCounted_kept (e : JobStatus) (l : List Attempt) (s : State) : LineKept s (drawCounted e l s) :=
  ⟨⟨rfl, rfl, rfl, rfl, rfl, rfl, rfl, rfl⟩, ⟨rfl, rfl, rfl, rfl, rfl, rfl⟩, .ofEq rfl, rfl⟩

/-- What a counted draw makes of the cover line or of its book (R86). -/
def drawOutcome (form : DrawForm) (last : Attempt) (j : Job) (w : State) : State :=
  match form with
  | .divert => w
  | .keep => if last = .hit then { w with cover := { w.cover with entries := w.cover.entries ++ [⟨j.item.clamp, j.id⟩] } }
    else setReason j.item.clamp .cover w

/-- DONE of a draw with its attempts (R86, R87). -/
theorem takeStatus_draw (h : AnswersJob s .draw j tag slot) {form : DrawForm} {expected : Option Identity} {allowed : Nat}
    {scores : Option (Int × Int × Option (Int × Int))} (hp : j.item.params = .draw form expected allowed scores)
    {l : List Attempt} {last : Attempt} (hl : l.getLast? = some last) (hlen : l.length ≤ allowed) :
    takeStatus [(.draw, .done (.draw l))] .draw (slotHeard .cover s)
      = coverSequence j.id l (drawOutcome form last j (drawCounted .done l s)) := by
  refine (takeStatus_done h _).trans ?_
  have hno : ¬allowed < l.length := Nat.not_lt.mpr hlen
  simp only [jobDone, station_of_jobAt h.job, drawnAttempts, drawDone, hp, hl, hno, if_false]
  cases form with
  | divert => rfl
  | keep =>
    by_cases hit : last = .hit
    · simp only [hit, drawOutcome, beq_self_eq_true, if_true]
      rfl
    · simp only [drawOutcome, beq_eq_false_iff_ne.mpr hit, hit, Bool.false_eq_true, if_false]
      rfl

/-- A draw that ends FAILED counts its attempts in the same way (R88). -/
theorem jobFailed_draw (h : AnswersJob s .draw j tag slot) (l : List Attempt) :
    jobFailed l j (slotHeard .cover s) = coverSequence j.id l (setReason j.item.clamp
      (if l ≠ [] ∧ countAttempts s.cover.mismatch l = 2 then .cover else .station) (drawCounted .failed l s)) := by
  simp only [jobFailed, station_of_jobAt h.job]
  congr 2
  have hcond : (!l.isEmpty && countAttempts s.cover.mismatch l == 2) = true ↔ l ≠ [] ∧ countAttempts s.cover.mismatch l = 2 := by
    simp
  exact if_congr hcond rfl rfl

/-- A DONE without attempts, with too many, or of another kind counts as FAILED with no outcomes (R86). -/
theorem jobDone_draw_failed (h : AnswersJob s .draw j tag slot) {form : DrawForm} {expected : Option Identity}
    {allowed : Nat} {scores : Option (Int × Int × Option (Int × Int))}
    (hp : j.item.params = .draw form expected allowed scores) {r : JobResult}
    (hr : ∀ l, r = .draw l → l = [] ∨ allowed < l.length) (u : State) : jobDone r j u = jobFailed [] j u := by
  have hnone : ∀ l, l = [] ∨ allowed < l.length → drawDone l j u = jobFailed [] j u := by
    intro l hl
    simp only [drawDone, hp]
    rcases hl with rfl | hl
    · rfl
    · split
      · rfl
      · exact if_pos hl
  have hdone : jobDone r j u = drawDone (drawnAttempts r) j u := by simp only [jobDone, station_of_jobAt h.job]
  rw [hdone]
  refine hnone _ ?_
  cases r with
  | draw l => exact hr l rfl
  | plain | loaded _ | mismatch _ | unreadable | noBlock | gap _ => exact .inl rfl

theorem setReason_car (c : Fin 20) (r : RejectReason) (u : State) :
    ∃ v, (setReason c r u).car = { u.car with clamps := v } := by
  obtain ⟨v, hv⟩ := setReason_clamps c r u
  exact ⟨v, by rw [hv]⟩

theorem clampRec_of_clamps {s t : State} (h : t.car.clamps = s.car.clamps) (c : Fin 20) : clampRec t c = clampRec s c := by
  rw [clampRec, h, clampRec]

end

/-- Settles O37: the attempts move the count in their order, the outcome is written, and COVER_SEQUENCE follows the
count. -/
theorem drawOutcomes : Obligations.DrawOutcomes := by
  unfold Obligations.DrawOutcomes
  refine ⟨?done, ?failed⟩
  case done =>
    intro s j tag slot l form expected allowed scores h hgo hp hne hlen n id
    have hn : countAttempts s.cover.mismatch l = n := countAttempts_eq _ _
    obtain ⟨last, hl⟩ : ∃ last, l.getLast? = some last := ⟨_, List.getLast?_eq_some_getLast hne⟩
    have hu := takeStatus_draw h hp hl hlen
    have hk := drawCounted_kept .done l s
    cases form with
    | divert =>
      obtain ⟨t, he, hclosed, hkept, hcount, hcover, hcar, hquiet, hraised⟩ :=
        exec_drawEnds h hgo hu hk rfl rfl ⟨s.car.clamps, rfl⟩
      have hclamps : t.car.clamps = s.car.clamps := by rw [hcar]; rfl
      exact ⟨t, he, hclosed, hkept, hcount, by rw [hcover]; exact hn, fun d _ => clampRec_of_clamps hclamps d, nofun,
        nofun, fun _ => ⟨by rw [hcover]; rfl, hclamps⟩, fun h2 => hquiet (.inr (hn.trans_lt h2)),
        fun h2 => hraised hne (hn.trans h2)⟩
    | keep =>
      by_cases hit : last = .hit
      · rw [drawOutcome, if_pos hit] at hu
        obtain ⟨t, he, hclosed, hkept, hcount, hcover, hcar, hquiet, hraised⟩ :=
          exec_drawEnds h hgo hu (hk.next ⟨rfl, rfl, rfl, rfl, rfl, rfl, rfl, rfl⟩ ⟨rfl, rfl, rfl, rfl, rfl, rfl⟩ rfl rfl)
            rfl rfl ⟨s.car.clamps, rfl⟩
        have hclamps : t.car.clamps = s.car.clamps := by rw [hcar]; rfl
        exact ⟨t, he, hclosed, hkept, hcount, by rw [hcover]; exact hn, fun d _ => clampRec_of_clamps hclamps d,
          fun _ _ => ⟨by rw [hcover]; rfl, hclamps⟩, fun _ hno => absurd (by rw [hl, hit]) hno, nofun,
          fun h2 => hquiet (.inr (hn.trans_lt h2)), fun h2 => hraised hne (hn.trans h2)⟩
      · rw [drawOutcome, if_neg hit] at hu
        have hr := setReason_kept j.item.clamp .cover hk
        rw [setReason_eq] at hu hr
        obtain ⟨t, he, hclosed, hkept, hcount, hcover, hcar, hquiet, hraised⟩ :=
          exec_drawEnds h hgo hu hr rfl rfl ⟨_, rfl⟩
        have hrec : ∀ d, clampRec t d = _ := fun d => (clampRec_of_clamps (congrArg Carousel.clamps hcar) d).trans
          (clampRec_mapBook j.item.clamp d _ (drawCounted .done l s))
        exact ⟨t, he, hclosed, hkept, hcount, by rw [hcover]; exact hn, fun d hd => (hrec d).trans (if_neg hd),
          fun _ hh => absurd (Option.some.inj (hl.symm.trans hh)) hit,
          fun _ _ => ⟨by rw [hcover]; rfl, (congrArg Clamp.book (hrec _)).trans (by rw [if_pos rfl]; rfl)⟩, nofun,
          fun h2 => hquiet (.inr (hn.trans_lt h2)), fun h2 => hraised hne (hn.trans h2)⟩
  case failed =>
    intro s j tag slot form expected allowed scores h hgo hp fails
    have hfails : ∀ a l, takeStatus [(.draw, a)] .draw (slotHeard .cover s) = jobFailed l j (slotHeard .cover s) →
        fails a l := by
      intro a l ha
      obtain ⟨n, hn⟩ : ∃ n, n = l.foldl (fun n a => if a = .hit then 0 else min 2 (n + 1)) s.cover.mismatch := ⟨_, rfl⟩
      have hcount' : countAttempts s.cover.mismatch l = n := (countAttempts_eq _ _).trans hn.symm
      have hu := ha.trans (jobFailed_draw h l)
      have hr := setReason_kept j.item.clamp (if l ≠ [] ∧ n = 2 then .cover else .station) (drawCounted_kept .failed l s)
      rw [hcount', setReason_eq] at hu
      rw [setReason_eq] at hr
      obtain ⟨t, he, hclosed, hkept, hcount, hcover, hcar, hquiet, hraised⟩ :=
        exec_drawEnds h hgo hu hr rfl rfl ⟨_, rfl⟩
      have hrec : ∀ d, clampRec t d = _ := fun d => (clampRec_of_clamps (congrArg Carousel.clamps hcar) d).trans
        (clampRec_mapBook j.item.clamp d _ (drawCounted .failed l s))
      have hmis : t.cover = { s.cover with mismatch := n } := by rw [hcover, ← hcount']; rfl
      rw [hn] at hmis
      refine ⟨t, he, hclosed, hkept, hcount, hmis, fun d hd => (hrec d).trans (if_neg hd), ?_, fun h2 => ?_, fun hne h2 => ?_⟩
      · rw [← hn]
        exact (congrArg Clamp.book (hrec _)).trans (by rw [if_pos rfl]; rfl)
      · exact hquiet (h2.imp_right (hcount'.trans hn).trans_lt)
      · exact hraised hne ((hcount'.trans hn).trans h2)
    exact ⟨fun l => hfails _ l (takeStatus_failed h l), fun r hr => hfails _ [] ((takeStatus_done h r).trans
      (jobDone_draw_failed h hp hr _))⟩

end Sys2Proof.Machine

/-! PROOFS. Frames without an answer that are handed over, and what else a fault keeps (R52, R154, R162). -/

namespace Sys2Proof.Machine

/-! ## A frame handed over waits at its requester or has been sent -/

/-- The waiting frames of a requester. -/
def Bus.queueOf (b : Bus) : Requester → List Frame
  | .carousel => b.carQ
  | .trimmer => b.trimQ
  | .cooling => b.coolQ
  | .probe => b.probeQ

/-- What a frame without an answer is on the bus. -/
def contentOf : Frame → Option BusContent
  | .work tag items _ => some (.work tag items)
  | .abortAll => some .abortAll
  | .abortJob st => some (.abortJob (stationNode st) st)
  | .abortTrimmer => some .abortTrimmer
  | .poll | .req _ => none

/-- The frame waits at its requester or has been sent in this step. -/
def Heading (f : Frame) (c : BusContent) (s : State) : Prop :=
  f ∈ s.bus.queueOf (requesterOf f) ∨ BusContent.frame c ∈ s.busOut

section
variable {s t : State} {f : Frame} {c : BusContent}

theorem mem_queueOf_enqueue (f g : Frame) (b : Bus) (r : Requester) (h : f ∈ b.queueOf r) :
    f ∈ (b.enqueue g).queueOf r := by
  unfold Bus.enqueue
  cases requesterOf g <;> cases r <;> simp_all [Bus.queueOf]

theorem mem_queueOf_self (f : Frame) (b : Bus) : f ∈ (b.enqueue f).queueOf (requesterOf f) := by
  unfold Bus.enqueue
  cases requesterOf f <;> simp [Bus.queueOf]

/-- A grant takes away the frame that it grants. -/
theorem grant_queueOf {b b' : Bus} {g : Frame} (h : b.grant = some (g, b')) (f : Frame) (r : Requester)
    (hf : f ∈ b.queueOf r) : f = g ∨ f ∈ b'.queueOf r := by
  unfold Bus.grant at h
  split at h
  · next q e =>
    cases h
    cases r <;> simp_all [Bus.queueOf]
  · obtain ⟨x, -, hx⟩ := List.exists_of_findSome?_eq_some h
    cases x <;> simp only [Bus.takeFrom] at hx <;> split at hx <;> cases hx <;> cases r <;> simp_all [Bus.queueOf]

theorem sendFrame_queueOf (g : Frame) (s : State) (r : Requester) :
    (sendFrame g s).bus.queueOf r = s.bus.queueOf r := by
  cases g with
  | req q =>
    have hl : ∀ p : Bool, (if p then startLimit q.kind s else s).bus = s.bus := fun p => by
      cases p
      · rfl
      · exact startLimit_nodes q.kind s
    cases r <;> simp only [sendFrame, sendRequest, Bus.queueOf, setNode, hl]
  | work tag items again => cases r <;> rfl
  | poll => cases r <;> rfl
  | abortAll => rfl
  | abortJob st => rfl
  | abortTrimmer => rfl

theorem startLimit_busOut (k : ReqKind) (s : State) : (startLimit k s).busOut = s.busOut := by
  unfold startLimit
  split <;> rfl

/-- Sending adds to what has been sent, and a frame without an answer is what it adds. -/
theorem sendFrame_busOut (g : Frame) (s : State) : ∃ x, (sendFrame g s).busOut = s.busOut ++ [BusContent.frame x]
    ∧ ∀ c, contentOf g = some c → x = c := by
  cases g with
  | req q =>
    have hl : ∀ p : Bool, (if p then startLimit q.kind s else s).busOut = s.busOut := fun p => by
      cases p
      · rfl
      · exact startLimit_busOut q.kind s
    have hout : (sendFrame (.req q) s).busOut = s.busOut ++ [BusContent.frame (.request q.node q.kind
        (q.seq.getD ((nodeRec s q.node).seq + 1)) ((nodeRec s q.node).ackPending && !isGroup q.node))] := by
      simp only [sendFrame, sendRequest, setNode, hl]
      cases q.seq <;> rfl
    exact ⟨_, hout, fun c hc => by cases hc⟩
  | work tag items again => exact ⟨_, rfl, fun c hc => Option.some.inj hc⟩
  | poll => exact ⟨_, rfl, nofun⟩
  | abortAll => exact ⟨_, rfl, fun c hc => Option.some.inj hc⟩
  | abortJob st => exact ⟨_, rfl, fun c hc => Option.some.inj hc⟩
  | abortTrimmer => exact ⟨_, rfl, fun c hc => Option.some.inj hc⟩

theorem pump_heading (hc : contentOf f = some c) (n : Nat) {s : State} (h : Heading f c s) : Heading f c (pump n s) := by
  induction n generalizing s with
  | zero => exact h
  | succ n ih =>
    unfold pump
    split
    · next g b hcur hgrant =>
      refine ih ?_
      obtain ⟨x, hout, hx⟩ := sendFrame_busOut g { s with bus := b }
      rcases h with h | h
      · rcases grant_queueOf hgrant f _ h with rfl | h
        · exact .inr (by rw [hout, hx c hc]; simp)
        · exact .inl (by rw [sendFrame_queueOf]; exact h)
      · exact .inr (by rw [hout]; exact List.mem_append_left _ h)
    · exact h

theorem handOver_heading (g : Frame) (hc : contentOf f = some c) (h : Heading f c s) : Heading f c (handOver g s) :=
  pump_heading hc _ (h.imp_left fun h => mem_queueOf_enqueue f g s.bus _ h)

/-- A frame that is handed over waits or is sent at once (R162). -/
theorem handOver_heading_self (hc : contentOf f = some c) (s : State) : Heading f c (handOver f s) :=
  pump_heading hc _ (.inl (mem_queueOf_self f s.bus))

theorem Heading.of_same (h : Heading f c s) (hb : ∀ r, t.bus.queueOf r = s.bus.queueOf r) (ho : t.busOut = s.busOut) :
    Heading f c t := by
  rw [Heading, hb, ho]
  exact h

/-! ## Aborts survive a fault -/

theorem not_req_of_content (hc : contentOf f = some c) (p : Request → Bool) : frameReq p f = false := by
  cases f with
  | req r => cases hc
  | work _ _ _ | poll | abortAll | abortJob _ | abortTrimmer => rfl

theorem giveUp_heading (hc : contentOf f = some c) (p : Request → Bool) (h : Heading f c s) :
    Heading f c (giveUp p s) := by
  refine h.imp_left fun h => ?_
  have hq : (giveUp p s).bus.queueOf (requesterOf f) = (s.bus.queueOf (requesterOf f)).filter fun g => !frameReq p g := by
    cases requesterOf f <;> rfl
  rw [hq, List.mem_filter]
  exact ⟨h, by rw [not_req_of_content hc p]; rfl⟩

theorem slowPolls_heading (h : Heading f c s) : Heading f c (slowPolls s) := by
  unfold slowPolls
  split
  · exact h.of_same (fun r => by cases r <;> rfl) rfl
  · exact h

theorem discardEarly_heading (h : Heading f c s) : Heading f c (discardEarly s) := by
  rw [discardEarly_eq]
  exact h

theorem dropReservation_heading (h : Heading f c s) : Heading f c (dropReservation s) := h

theorem removeEntry_heading (h : Heading f c s) : Heading f c (removeEntry s) := h

theorem Heading.ite {p : Prop} [Decidable p] {u : State} (h : p → Heading f c t) (k : ¬p → Heading f c u) :
    Heading f c (if p then t else u) := by
  split
  · exact h ‹_›
  · exact k ‹_›

/-- What the end of a dwell by a fault makes of the state behind its ABORT (R52). -/
def dwellCut (r : Bool) (e : List CoverEntry) (w : DropWatch) (u : State) : State := { u with
  tickets := { u.tickets with reserved := r }
  cover := { u.cover with entries := e }
  dlv := { u.dlv with dropWatch := w }
  car := { u.car with jobs := u.car.jobs.map Job.faulted }
  bus := { u.bus with carQ := u.bus.carQ.filter fun f => !isWorkOf u.car.tag f } }

theorem abortDwell_eq (s : State) : ∃ r e w, abortDwell s = slowPolls (dwellCut r e w (handOver .abortAll s))
    ∧ (r = true → (handOver .abortAll s).tickets.reserved = true)
    ∧ ((∀ j ∈ (handOver .abortAll s).car.jobs, j.item.station = .apply → j.ended = true) →
      e = (handOver .abortAll s).cover.entries) := by
  obtain ⟨u, hu⟩ : ∃ u, u = handOver .abortAll s := ⟨_, rfl⟩
  unfold abortDwell
  rw [← hu]
  simp only [discardEarly_eq]
  refine ⟨if u.car.jobs.any Job.openLoad then false else u.tickets.reserved,
    if (u.car.jobs.any fun j => j.inFlight && j.item.station == .apply) then u.cover.entries.drop 1 else u.cover.entries,
    if (u.car.jobs.any fun j => !j.ended && j.item.station == .release && !j.releaseDone)
      then (if u.dlv.dropWatch = .early then .none else u.dlv.dropWatch) else u.dlv.dropWatch, ?_, ?_, ?_⟩
  · congr 1
    by_cases h₁ : u.car.jobs.any Job.openLoad = true
      <;> by_cases h₂ : (u.car.jobs.any fun j => j.inFlight && j.item.station == .apply) = true
      <;> by_cases h₃ : (u.car.jobs.any fun j => !j.ended && j.item.station == .release && !j.releaseDone) = true
      <;> simp only [h₁, h₂, h₃, if_true, if_false, Bool.false_eq_true]
      <;> rfl
  · split_ifs
    · nofun
    · exact id
  · intro hall
    refine if_neg fun hc => ?_
    simp only [List.any_eq_true, Bool.and_eq_true, beq_iff_eq] at hc
    obtain ⟨j, hj, hfl, hst⟩ := hc
    rw [not_inFlight_of_ended (hall j hj hst)] at hfl
    cases hfl

theorem abortDwell_heading (hc : contentOf f = some c) (hw : ∀ tag, isWorkOf tag f = false) (h : Heading f c s) :
    Heading f c (abortDwell s) := by
  obtain ⟨r, e, w, ha, -⟩ := abortDwell_eq s
  rw [ha]
  refine slowPolls_heading ((handOver_heading .abortAll hc h).imp_left fun hq => ?_)
  cases hr : requesterOf f with
  | carousel =>
    rw [hr] at hq
    exact List.mem_filter.2 ⟨hq, by rw [hw]; rfl⟩
  | trimmer | cooling | probe => rw [hr] at hq; exact hq

theorem unhome_heading (h : Heading f c s) : Heading f c (unhome s) := h

theorem setCarState_heading (a : CarState) (h : Heading f c s) : Heading f c (setCarState a s) := h

theorem setWorked_heading (w : Bool) (h : Heading f c s) : Heading f c (setWorked w s) := h

theorem carFault_heading (hc : contentOf f = some c) (hw : ∀ tag, isWorkOf tag f = false) (e : Bool) (h : Heading f c s) :
    Heading f c (carFault e s) := by
  unfold carFault
  split
  · have k := setWorked_heading false (abortDwell_heading hc hw h)
    exact .ite (fun _ => unhome_heading k) fun _ => setCarState_heading _ k
  · exact setWorked_heading _ (unhome_heading (giveUp_heading hc isMove h))
  · exact setWorked_heading _ (unhome_heading (giveUp_heading hc isMove h))
  · exact .ite (fun _ => unhome_heading h) fun _ => h
  · exact h

theorem lineFault_heading (hc : contentOf f = some c) (hw : ∀ tag, isWorkOf tag f = false) (k : FaultCause)
    (h : Heading f c s) : Heading f c (lineFault k s) := by
  rcases lineState_cases s with hs | hs | hs
  · rw [lineFault_of_faultable k hs]
    obtain ⟨x, hx⟩ := faultEntered_eq k s
    have hbus : (faultEntered k s).bus = s.bus := by rw [hx]
    exact carFault_heading hc hw _ (h.of_same (fun r => by rw [hbus]) (by rw [hx]))
  · rwa [lineFault_of_still k hs]
  · have hc : Heading f c { s with line := { s.line with cause := some k } } := h
    rw [lineFault_of_faulted k hs]
    exact .ite (fun _ => unhome_heading hc) fun _ => hc

theorem raiseNotice_heading (n : Notice) (x : BitVec 32) (h : Heading f c s) : Heading f c (raiseNotice n x s) := by
  obtain ⟨y, hy⟩ := raiseNotice_host n x s
  rw [hy]
  exact h

/-! ## The reservation and the cover line through a fault -/

/-- The reservation is at most dropped, and the cover line stays when every apply has ended (R94). -/
structure FaultTakes (s t : State) : Prop where
  reserved : t.tickets.reserved = true → s.tickets.reserved = true
  entries  : (∀ j ∈ s.car.jobs, j.item.station = .apply → j.ended = true) → t.cover.entries = s.cover.entries

theorem FaultTakes.of_same (hr : t.tickets = s.tickets) (he : t.cover.entries = s.cover.entries) : FaultTakes s t :=
  ⟨fun h => by rwa [hr] at h, fun _ => he⟩

/-- Every job after a sending comes from one before it. -/
theorem jobSent_origin {l l' : List Job} (h : List.Forall₂ JobSent l l') : ∀ k ∈ l', ∃ j ∈ l, JobSent j k := by
  induction h with
  | nil => exact fun _ h => absurd h List.not_mem_nil
  | cons hab _ ih =>
    intro k hk
    rcases List.mem_cons.1 hk with rfl | hk
    · exact ⟨_, List.mem_cons_self, hab⟩
    · obtain ⟨j, hj, hjk⟩ := ih k hk
      exact ⟨j, List.mem_cons_of_mem _ hj, hjk⟩

/-- Every job before a sending goes on in one after it. -/
theorem jobSent_image {l l' : List Job} (h : List.Forall₂ JobSent l l') : ∀ j ∈ l, ∃ k ∈ l', JobSent j k := by
  induction h with
  | nil => exact fun _ h => absurd h List.not_mem_nil
  | cons hab _ ih =>
    intro j hj
    rcases List.mem_cons.1 hj with rfl | hj
    · exact ⟨_, List.mem_cons_self, hab⟩
    · obtain ⟨k, hk, hjk⟩ := ih j hj
      exact ⟨k, List.mem_cons_of_mem _ hk, hjk⟩

theorem abortDwell_takes (s : State) : FaultTakes s (abortDwell s) := by
  have k := handOver_busWork .abortAll s
  have hslow : ∀ u : State, (slowPolls u).tickets = u.tickets ∧ (slowPolls u).cover = u.cover := fun u => by
    unfold slowPolls
    split <;> exact ⟨rfl, rfl⟩
  obtain ⟨r, e, w, ha, hr, he⟩ := abortDwell_eq s
  rw [ha]
  constructor
  · intro h
    rw [(hslow _).1] at h
    rw [← k.tickets]
    exact hr h
  · intro h
    rw [(hslow _).2]
    refine (he fun j hj hst => ?_).trans k.entries
    obtain ⟨l, m, hcar, hsent⟩ := k.car
    rw [hcar] at hj
    obtain ⟨i, hi, hitem, -, hended, -⟩ := jobSent_origin hsent j hj
    rw [hended]
    exact h i hi (by rw [← hitem]; exact hst)

theorem carFault_takes (e : Bool) (s : State) : FaultTakes s (carFault e s) := by
  unfold carFault
  split
  · have k := abortDwell_takes s
    dsimp only
    split
    · exact ⟨k.reserved, k.entries⟩
    · exact ⟨k.reserved, k.entries⟩
  · exact .of_same rfl rfl
  · exact .of_same rfl rfl
  · split <;> exact .of_same rfl rfl
  · exact .of_same rfl rfl

theorem lineFault_takes (k : FaultCause) (s : State) : FaultTakes s (lineFault k s) := by
  rcases lineState_cases s with hs | hs | hs
  · rw [lineFault_of_faultable k hs]
    have h := carFault_takes (k == .estop) (faultEntered k s)
    obtain ⟨x, hx⟩ := faultEntered_eq k s
    rw [hx] at h ⊢
    exact ⟨h.reserved, h.entries⟩
  · rw [lineFault_of_still k hs]
    exact .of_same rfl rfl
  · rw [lineFault_of_faulted k hs]
    split <;> exact .of_same rfl rfl

end

end Sys2Proof.Machine

/-! PROOFS. O42: a job's overrun (3.6). -/

namespace Sys2Proof.Machine

section
variable {s t u v : State} {st : Station} {j : Job}

/-! ## The end of an overrun job (R51) -/

theorem jobAt_sent {s t : State} (h : BusWork s t) (hj : jobAt s st = some j) (hb : j.status ≠ .built) :
    jobAt t st = some j := by
  obtain ⟨_, _, hc, hsent⟩ := h.car
  rw [jobAt, hc]
  exact jobAt_of_sent hsent hj hb

theorem dwellGoesOn_sent {s t : State} (h : BusWork s t) (hgo : DwellGoesOn s st) : DwellGoesOn t st := by
  obtain ⟨k, hk, hne, hopen⟩ := hgo
  obtain ⟨_, _, hc, hsent⟩ := h.car
  obtain ⟨i, hi, hitem, -, hended, -⟩ := jobSent_image hsent k hk
  exact ⟨i, by rw [hc]; exact hi, by rw [hitem]; exact hne, hended.trans hopen⟩

/-- The overrun job ends ABORTED behind its node's ABORT. -/
def overrunEnded (st : Station) (s : State) : State := endJob st .aborted (abortStation st s)

/-- What the job's end brings beside its count (R67, R94, R125). -/
def overrunTaken (j : Job) (st : Station) (s : State) : State :=
  match st with
  | .load => if j.openLoad then dropReservation (overrunEnded st s) else overrunEnded st s
  | .apply => setReason j.item.clamp .station (removeEntry (overrunEnded st s))
  | .release => setReason j.item.clamp .station (discardEarly (overrunEnded st s))
  | _ => setReason j.item.clamp .station (overrunEnded st s)

theorem jobOverran_eq (hj : j.item.station = st) (s : State) :
    jobOverran j s = stationOverrun st (overrunTaken j st s) := by
  unfold jobOverran
  rw [hj]
  cases st <;> rfl

/-- What the job's end keeps, whatever it brings beside. -/
structure OverrunLeft (st : Station) (j : Job) (s t : State) : Prop where
  kept     : LineKept s t
  line     : t.line = s.line
  state    : t.car.state = s.car.state
  overruns : t.car.overruns = s.car.overruns
  job      : jobAt t st = some { j with status := .aborted, limit := .suspended }
  open_    : ∃ k ∈ t.car.jobs, k.ended = false
  closed   : ∀ k ∈ t.car.jobs, k.item.station = st → k.ended = true
  heading  : present s (stationNode st) = true → Heading (.abortJob st) (.abortJob (stationNode st) st) t

/-- The state before the station's count is raised. -/
structure OverrunTaken (st : Station) (j : Job) (s t : State) : Prop extends OverrunLeft st j s t where
  book     : st ≠ .load → ∀ b, bookIn s j.item.clamp = some b → bookIn t j.item.clamp = some (stationed b)
  reserved : st = .load → (∃ a b, j.item.params = .load a b) → t.tickets.reserved = false
  entries  : st = .apply → t.cover.entries = s.cover.entries.drop 1
  drop     : st = .release → s.dlv.dropWatch = .early → t.dlv.dropWatch = .none

theorem abortStation_heading (h : present s (stationNode st) = true) :
    Heading (.abortJob st) (.abortJob (stationNode st) st) (abortStation st s) := by
  rw [abortStation, if_pos h]
  exact handOver_heading_self rfl s

theorem overrunEnded_left (hj : jobAt s st = some j) (hb : j.status ≠ .built) (hgo : DwellGoesOn s st) :
    OverrunLeft st j s (overrunEnded st s) where
  kept := endJob_kept _ _ (abortStation_kept _ (.refl s))
  line := (abortStation_busWork st s).line
  state := by
    obtain ⟨_, _, hc, -⟩ := (abortStation_busWork st s).car
    show (abortStation st s).car.state = _
    rw [hc]
  overruns := by
    obtain ⟨_, _, hc, -⟩ := (abortStation_busWork st s).car
    show (abortStation st s).car.overruns = _
    rw [hc]
  job := jobAt_endJob .aborted (jobAt_sent (abortStation_busWork st s) hj hb)
  open_ := by
    obtain ⟨k, hk, hne, hopen⟩ := dwellGoesOn_sent (abortStation_busWork st s) hgo
    exact ⟨k, mem_endJob_of_ne _ hk hne, hopen⟩
  closed k hk hst := by
    obtain ⟨i, hi, rfl⟩ := List.mem_map.1 hk
    by_cases h : i.item.station = st
    · simp [h, Job.ended]
    · simp [h] at hst
  heading h := abortStation_heading h

/-- A change of the clamps, the reservation, the cover line or the drop watch beside. -/
theorem OverrunLeft.of_eq (h : OverrunLeft st j s t) (hk : LineKept t u) (hl : u.line = t.line) (hb : u.bus = t.bus)
    (ho : u.busOut = t.busOut) (hc : ∃ v, u.car = { t.car with clamps := v }) : OverrunLeft st j s u := by
  obtain ⟨v, hc⟩ := hc
  exact {
    kept := h.kept.trans hk
    line := hl.trans h.line
    state := by rw [hc]; exact h.state
    overruns := by rw [hc]; exact h.overruns
    job := by rw [jobAt, hc]; exact h.job
    open_ := by rw [hc]; exact h.open_
    closed := by rw [hc]; exact h.closed
    heading := fun hp => (h.heading hp).of_same (fun r => by rw [hb]) ho }

theorem OverrunLeft.setReason (h : OverrunLeft st j s t) (c : Fin 20) : OverrunLeft st j s (setReason c .station t) := by
  obtain ⟨v, hv⟩ := setReason_clamps c .station t
  exact h.of_eq (setReason_kept c .station (.refl t)) (by rw [hv]) (by rw [hv]) (by rw [hv]) ⟨v, by rw [hv]⟩

theorem OverrunLeft.reason_book (h : ∀ b, bookIn s j.item.clamp = some b → bookIn t j.item.clamp = some b) :
    ∀ b, bookIn s j.item.clamp = some b →
      bookIn (Machine.setReason j.item.clamp .station t) j.item.clamp = some (stationed b) := fun b hb => by
  rw [bookIn_setReason, if_pos rfl, h b hb]
  rfl

theorem overrunTaken_taken (hj : jobAt s st = some j) (hb : j.status ≠ .built) (he : j.ended = false)
    (hgo : DwellGoesOn s st) : OverrunTaken st j s (overrunTaken j st s) := by
  have h := overrunEnded_left hj hb hgo
  have hclamps : (overrunEnded st s).car.clamps = s.car.clamps := by
    obtain ⟨_, _, hc, -⟩ := (abortStation_busWork st s).car
    show (abortStation st s).car.clamps = _
    rw [hc]
  have hbook : ∀ b, bookIn s j.item.clamp = some b → bookIn (overrunEnded st s) j.item.clamp = some b := fun b e =>
    (bookIn_of_clamps hclamps _).trans e
  have hrest : ∀ u : State, OverrunLeft st j s u → (∀ b, bookIn s j.item.clamp = some b → bookIn u j.item.clamp = some b) →
      st ≠ .load → (st = .apply → u.cover.entries = s.cover.entries.drop 1) → (st = .release → s.dlv.dropWatch = .early → u.dlv.dropWatch = .none) →
      OverrunTaken st j s (setReason j.item.clamp .station u) := by
    intro u hu hbk hl ha hr
    obtain ⟨v, hv⟩ := setReason_clamps j.item.clamp .station u
    exact { hu.setReason j.item.clamp with
      book := fun _ => OverrunLeft.reason_book hbk
      reserved := fun e => absurd e hl
      entries := fun e => by rw [hv]; exact ha e
      drop := fun e => by rw [hv]; exact hr e }
  cases st with
  | load =>
    have hload : OverrunLeft .load j s (overrunTaken j .load s) := by
      unfold overrunTaken
      dsimp only
      split
      · exact h.of_eq (dropReservation_kept (.refl _)) rfl rfl rfl ⟨_, rfl⟩
      · exact h
    refine { hload with book := fun e => absurd rfl e, reserved := fun _ hp => ?_, entries := nofun, drop := nofun }
    obtain ⟨a, b, hp⟩ := hp
    unfold overrunTaken
    dsimp only
    rw [if_pos (Job.openLoad_of_load hp he)]
    rfl
  | apply =>
    refine hrest (removeEntry (overrunEnded .apply s)) (h.of_eq (removeEntry_kept (.refl _)) rfl rfl rfl ⟨_, rfl⟩) hbook nofun
      (fun _ => ?_) nofun
    exact congrArg (List.drop 1) (abortStation_busWork .apply s).entries
  | release =>
    have hd := discardEarly_eq (overrunEnded .release s)
    refine hrest (discardEarly (overrunEnded .release s)) ?_ (by rw [hd]; exact hbook) nofun nofun fun _ hw => ?_
    · exact h.of_eq (discardEarly_kept (.refl _)) (by rw [hd]) (by rw [hd]) (by rw [hd]) ⟨_, by rw [hd]⟩
    · rw [hd]
      exact if_pos ((congrArg Delivery.dropWatch (abortStation_busWork .release s).dlv).trans hw)
  | mill | spine | side | draw | nip => exact hrest _ h hbook nofun nofun nofun

/-- The count raised, with the fault of the second in a row, keeps what the job's end has left (R51). -/
theorem OverrunTaken.counted (h : OverrunTaken st j s v) {n : Nat} (k : FaultWork (setOverrun st n v) t)
    (ht : FaultTakes (setOverrun st n v) t)
    (hh : Heading (.abortJob st) (.abortJob (stationNode st) st) (setOverrun st n v) →
      Heading (.abortJob st) (.abortJob (stationNode st) st) t) :
    LineKept s t ∧ jobAt t st = some { j with status := .aborted, limit := .suspended }
      ∧ (present s (stationNode st) = true →
        .abortJob st ∈ t.bus.carQ ∨ BusContent.frame (.abortJob (stationNode st) st) ∈ t.busOut)
      ∧ (∀ b, st ≠ .load → bookIn s j.item.clamp = some b → bookIn t j.item.clamp = some (stationed b))
      ∧ (st = .load → (∃ a b, j.item.params = .load a b) → t.tickets.reserved = false)
      ∧ (st = .apply → t.cover.entries = s.cover.entries.drop 1)
      ∧ (st = .release → s.dlv.dropWatch = .early → t.dlv.dropWatch = .none) ∧ overrunCount t st = n := by
  refine ⟨(setOverrun_kept _ _ h.kept).trans k.kept, k.ended _ _ h.job rfl, fun hp => hh (h.heading hp), fun b hl hb => ?_,
    fun hs hp => ?_, fun hs => ?_, fun hs hw => ?_, ?_⟩
  · obtain ⟨b', hb', hkept⟩ := k.kept.clamps.book j.item.clamp (stationed b) (h.book hl b hb)
    rcases hkept with rfl | ⟨hnone, -⟩
    · exact hb'
    · cases hnone
  · exact Bool.eq_false_iff.mpr fun hr => absurd ((h.reserved hs hp).symm.trans (ht.reserved hr)) nofun
  · subst hs
    exact (ht.entries h.closed).trans (h.entries rfl)
  · have hnone : (setOverrun st n v).dlv.dropWatch = .none := h.drop hs hw
    rcases k.dlv with hd | ⟨he, -⟩
    · rw [hd, hnone]
    · rw [hnone] at he
      cases he
  · obtain ⟨_, _, _, _, _, _, hc⟩ := k.car
    rw [overrunCount, hc]
    exact Vector.getElem_set_self _

/-- A dwell that a fault has ended, or that has an open job, is not ended by its last job. -/
theorem dwellCheck_of_stopped (h : s.car.state ≠ .dwelling ∨ ∃ k ∈ s.car.jobs, k.ended = false) : dwellCheck s = s := by
  rcases h with h | h
  · unfold dwellCheck
    exact if_neg (by simp [h])
  · exact dwellCheck_of_open h

theorem due_iff (now start : Time) (len : Nat) : due now start len = true ↔ len ≤ (now - start).toNat :=
  decide_eq_true_iff

theorem jobOverdue_iff (now : Time) (j : Job) : jobOverdue now j = true ↔
    (j.status = .issued ∨ j.status = .busy) ∧ ∃ w, j.limit = .running w ∧ 3000 ≤ (now - w).toNat := by
  unfold jobOverdue
  cases hl : j.limit <;> simp [Job.inFlight, due_iff, Config.overrunLimit]

theorem exec_jobOverrun (hlive : s.pins.inReset = false) (hd : s.car.state = .dwelling) (hj : jobAt s st = some j) :
    exec (.jobOverrun st) s
      = .next (if jobOverdue s.clock j then dwellCheck (jobOverran j (clearOut s)) else clearOut s) := by
  show Host.Outcome.next (live (jobOverrun st) s) = _
  rw [live_next _ s hlive]
  have hj' : jobAt (clearOut s) st = some j := hj
  have hd' : ((clearOut s).car.state == CarState.dwelling) = true := beq_iff_eq.mpr hd
  simp only [jobOverrun, hj', hd', Bool.true_and]
  rfl

end

/-- Settles O42: the job ends behind its ABORT, its count is raised, and the second in a row faults the line. -/
theorem overrunAbortsJob : Obligations.OverrunAbortsJob := by
  unfold Obligations.OverrunAbortsJob
  intro s st j w hlive hd hj hgo out
  refine ⟨fun hno => ?_, fun hout => ?_⟩
  · rw [exec_jobOverrun hlive hd hj, if_neg]
    rw [jobOverdue_iff]
    rintro ⟨hst, x, hx, hx'⟩
    rcases hno with ⟨h₁, h₂⟩ | h
    · exact hst.elim h₁ h₂
    · exact absurd hx' (Nat.not_le.mpr (h x hx))
  obtain ⟨hsent, hlimit, hlate⟩ := hout
  have hover : jobOverdue s.clock j = true := (jobOverdue_iff _ _).2 ⟨hsent, w, hlimit, hlate⟩
  have hbuilt : j.status ≠ .built := fun h => by rw [h] at hsent; rcases hsent with h | h <;> cases h
  have hopen : j.ended = false := by rcases hsent with h | h <;> simp [Job.ended, h]
  have hcleared : LineKept s (clearOut s) :=
    ⟨⟨rfl, rfl, rfl, rfl, rfl, rfl, rfl, rfl⟩, ⟨rfl, rfl, rfl, rfl, rfl, rfl⟩, .ofEq rfl, rfl⟩
  have h := overrunTaken_taken (s := clearOut s) hj hbuilt hopen hgo
  have hcount : overrunCount (overrunTaken j st (clearOut s)) st = overrunCount s st := by
    rw [overrunCount, h.overruns]
    rfl
  rw [exec_jobOverrun hlive hd hj, if_pos hover, jobOverran_eq (station_of_jobAt hj)]
  rcases Nat.eq_zero_or_pos (overrunCount s st) with h0 | h1
  · rw [stationOverrun_first (hcount.trans h0), dwellCheck_of_stopped (s := setOverrun st 1 _) (.inr h.open_)]
    obtain ⟨hk, hat, hab, hb, hr, he, hw, hn⟩ := h.counted (Stopped.refl (setOverrun st 1 _)).faultWork
      (FaultTakes.of_same rfl rfl) id
    exact ⟨_, rfl, hcleared.trans hk, hat, hab, hb, hr, he, hw, fun _ => ⟨hn, h.line, h.state.trans hd⟩,
      fun h1 => absurd h1 (by omega)⟩
  · have hfault := raiseNotice_faulted .stationOverrun (BitVec.ofNat 32 (nodeAddr (stationNode st)))
      (lineFault_faulted .stationOverrun (setOverrun st 2 (overrunTaken j st (clearOut s))))
    have hnotice := noticed_raiseNotice .stationOverrun (BitVec.ofNat 32 (nodeAddr (stationNode st)))
      (lineFault .stationOverrun (setOverrun st 2 (overrunTaken j st (clearOut s))))
    have hdwell := faultNoticed_dwelling (c := .stationOverrun) .stationOverrun
      (BitVec.ofNat 32 (nodeAddr (stationNode st))) (s := setOverrun st 2 (overrunTaken j st (clearOut s)))
      (h.state.trans hd) nofun
    obtain ⟨x, hx⟩ := raiseNotice_host .stationOverrun (BitVec.ofNat 32 (nodeAddr (stationNode st)))
      (lineFault .stationOverrun (setOverrun st 2 (overrunTaken j st (clearOut s))))
    have htakes : FaultTakes (setOverrun st 2 (overrunTaken j st (clearOut s))) (raiseNotice .stationOverrun
        (BitVec.ofNat 32 (nodeAddr (stationNode st)))
        (lineFault .stationOverrun (setOverrun st 2 (overrunTaken j st (clearOut s))))) := by
      have k := lineFault_takes .stationOverrun (setOverrun st 2 (overrunTaken j st (clearOut s)))
      rw [hx]
      exact ⟨k.reserved, k.entries⟩
    obtain ⟨hk, hat, hab, hb, hr, he, hw, hn⟩ := h.counted (faultNoticed_work .stationOverrun .stationOverrun
      (BitVec.ofNat 32 (nodeAddr (stationNode st))) (setOverrun st 2 _)) htakes fun hh =>
        raiseNotice_heading _ _ (lineFault_heading rfl (fun _ => rfl) _ hh)
    rw [stationOverrun_second (by rw [hcount]; exact h1), dwellCheck_of_stopped ?_]
    · exact ⟨_, rfl, hcleared.trans hk, hat, hab, hb, hr, he, hw, fun h0 => absurd h0 (by omega), fun _ =>
        ⟨hn, hfault.congr h.line.symm rfl rfl rfl, hnotice⟩⟩
    · rcases hdwell with hs | hs
      · exact .inl (by rw [hs]; nofun)
      · exact .inr (by rw [hs]; exact h.open_)

end Sys2Proof.Machine

/-! PROOFS. O38: the release, its drop and the drop window (3.6, 7.2). -/

namespace Sys2Proof.Machine

section
variable {s t u v : State} {j : Job} {tag : Byte} {slot : Nat} {c : Fin 20} {b : Book}

/-! ## The drop confirmed (R126) -/

/-- Frames are sent on a free bus, and a POLL round on the bus goes on with its nodes' records. -/
structure Sending (s t : State) : Prop extends BusWork s t where
  poll : ∀ tag slot, s.bus.current = some (.poll tag slot) →
    t.bus.current = some (.poll tag slot) ∧ t.bus.nodes = s.bus.nodes

theorem Sending.refl (s : State) : Sending s s := { BusWork.refl s with poll := fun _ _ h => ⟨h, rfl⟩ }

theorem handOver_sending (f : Frame) (s : State) : Sending s (handOver f s) :=
  { handOver_busWork f s with poll := (handOver_stopped f s).poll }

/-- The head decision moves the gate, and a push that it begins is handed over. -/
theorem headDecision_sending (s : State) : ∃ g c,
    Sending { s with dlv := { s.dlv with gate := g, gateConfirm := c } } (headDecision s) := by
  have hnone : ∃ g c, Sending { s with dlv := { s.dlv with gate := g, gateConfirm := c } } s :=
    ⟨s.dlv.gate, s.dlv.gateConfirm, .refl s⟩
  have hpush : ∀ g k, ∃ g' c, Sending { s with dlv := { s.dlv with gate := g', gateConfirm := c } } (beginPush g k s) :=
    fun g k => ⟨g, .none, handOver_sending _ _⟩
  unfold headDecision
  split
  · split
    · exact hnone
    · split
      · exact hpush _ _
      · split
        · exact hpush _ _
        · exact hnone
  · exact hnone

theorem startHeadTimer_eq (s : State) : ∃ x, startHeadTimer s = { s with dlv := { s.dlv with headTimer := x } } := by
  unfold startHeadTimer
  split <;> exact ⟨_, rfl⟩

/-- The dropped book passes from its clamp to the tail of the cooling queue (R126). -/
def dropMoved (c : Fin 20) (b : Book) (s : State) : State := { setBook c none s with
  dlv := { s.dlv with cooling := s.dlv.cooling ++ [{ b with coolEntry := some s.clock }], dropWatch := .none } }

theorem dropMoved_tables (c : Fin 20) (b : Book) (s : State) : TablesKept s (dropMoved c b s) :=
  ⟨rfl, rfl, rfl, rfl, rfl, rfl, rfl, rfl⟩

/-- The release job that has not ended ends DONE (R126). -/
def dropEnded (s : State) : State :=
  if ∃ j, jobAt s .release = some j ∧ j.ended = false then setOverrun .release 0 (endJob .release .done s) else s

theorem dropEnded_of_open (h : jobAt s .release = some j) (he : j.ended = false) :
    dropEnded s = setOverrun .release 0 (endJob .release .done s) := if_pos ⟨j, h, he⟩

/-- A drop's confirm in a dwell: the move, the job's end, and the head decision of a queue that was empty. -/
theorem dropConfirmed_of_dwelling (hb : bookIn s c = some b) (hd : s.car.state = .dwelling) : ∃ g gc x,
    Sending { dropEnded (dropMoved c b s) with
      dlv := { (dropMoved c b s).dlv with gate := g, gateConfirm := gc, headTimer := x } } (dropConfirmed c s) := by
  obtain ⟨v, hv⟩ : ∃ v, v = dropEnded (dropMoved c b s) := ⟨_, rfl⟩
  have hjob : (match jobAt (dropMoved c b s) .release with
      | some j => if j.ended then dropMoved c b s else setOverrun .release 0 (endJob .release .done (dropMoved c b s))
      | none => dropMoved c b s) = v := by
    rw [hv, dropEnded]
    cases hj : jobAt (dropMoved c b s) .release with
    | none => exact (if_neg (by simp)).symm
    | some j => cases he : j.ended <;> simp [he]
  have hstate : v.car.state = .dwelling := by
    rw [hv, dropEnded]
    split_ifs <;> exact hd
  have hdlv : v.dlv = (dropMoved c b s).dlv := by
    rw [hv, dropEnded]
    split_ifs <;> rfl
  have hre : redecide false v = v := redecide_of_undecided false (.inl (by rw [hstate]; nofun))
  have hdrop : dropConfirmed c s = if s.dlv.cooling.isEmpty then headDecision (startHeadTimer (redecide false v))
      else redecide false v := by
    rw [← hjob]
    unfold dropConfirmed
    simp only [hb]
    rfl
  rw [hdrop, hre, ← hv, ← hdlv]
  split
  · obtain ⟨x, hx⟩ := startHeadTimer_eq v
    obtain ⟨g, gc, hh⟩ := headDecision_sending (startHeadTimer v)
    rw [hx] at hh ⊢
    exact ⟨g, gc, x, hh⟩
  · exact ⟨v.dlv.gate, v.dlv.gateConfirm, v.dlv.headTimer, .refl v⟩

/-! ## RELEASE's DONE (R125) -/

theorem jobAt_updateJob {st : Station} {f : Job → Job} (hf : ∀ k, (f k).item = k.item) (hj : jobAt s st = some j) :
    jobAt (updateJob st f s) st = some (f j) := by
  have hkeeps : (fun k : Job => k.item.station == st) ∘ (fun k : Job => if k.item.station == st then f k else k)
      = fun k : Job => k.item.station == st := by
    funext k
    by_cases hk : k.item.station = st <;> simp [hk, hf]
  unfold jobAt at hj
  simp only [jobAt, updateJob_car_jobs, List.find?_map, hkeeps, hj, Option.map_some, station_of_jobAt hj,
    beq_self_eq_true, if_true]

theorem mem_updateJob_of_ne {st : Station} {f : Job → Job} {k : Job} (h : k ∈ s.car.jobs) (hne : k.item.station ≠ st) :
    k ∈ (updateJob st f s).car.jobs := List.mem_map.mpr ⟨k, h, by simp [hne]⟩

/-- The release job whose DONE has been taken. -/
def releaseTaken (j : Job) : Job := { j with status := .busy, limit := .suspended, releaseDone := true }

/-- RELEASE's DONE is taken: the job's limit stops and the release time is written. -/
def releaseStamped (c : Fin 20) (b : Book) (s : State) : State :=
  setBook c (some { b with releaseTime := some s.clock }) (updateJob .release releaseTaken s)

theorem releaseStamped_tables (c : Fin 20) (b : Book) (s : State) : TablesKept s (releaseStamped c b s) :=
  ⟨rfl, rfl, rfl, rfl, rfl, rfl, rfl, rfl⟩

theorem releaseAnswered_eq (hb : bookIn s c = some b) : releaseAnswered c s = if s.dlv.dropWatch = .early
    then dropConfirmed c (releaseStamped c b s)
    else { releaseStamped c b s with dlv := { s.dlv with dropWatch := .opened c s.clock } } := by
  have hb' : bookIn (updateJob .release releaseTaken s) c = some b := hb
  unfold releaseAnswered
  rw [show (fun j : Job => { j with status := JobStatus.busy, limit := Limit.suspended, releaseDone := true })
    = releaseTaken from rfl]
  simp only [hb']
  cases hw : s.dlv.dropWatch with
  | none | opened _ _ =>
    simp only [show (setBook c (some { b with releaseTime := some (updateJob .release releaseTaken s).clock })
      (updateJob .release releaseTaken s)).dlv.dropWatch = _ from hw]
    rw [if_neg nofun]
    rfl
  | early =>
    simp only [show (setBook c (some { b with releaseTime := some (updateJob .release releaseTaken s).clock })
      (updateJob .release releaseTaken s)).dlv.dropWatch = _ from hw]
    rw [if_pos trivial]
    rfl

theorem takeJobs_release (ht : tag = s.car.tag) (l : List (Station × JobAnswer)) :
    takeJobs tag .release l s = takeStatus l .release s := if_pos (beq_iff_eq.mpr ht)

theorem exec_release (h : AnswersJob s .release j tag slot) {a : JobAnswer}
    (hu : takeStatus [(.release, a)] .release (slotHeard .release s) = u) :
    exec (.slotAnswer .release [(.release, a)] none ⟨false, true⟩) s = .next (slotClosed (dwellCheck u)) := by
  refine (exec_slotAnswer h [(.release, a)] none).trans (congrArg (fun x => Host.Outcome.next (slotClosed (dwellCheck x))) ?_)
  exact (takeJobs_release (s := slotHeard .release s) h.tag _).trans hu

theorem jobDone_release (hj : j.item.station = .release) (r : JobResult) (s : State) :
    jobDone r j s = releaseAnswered j.item.clamp s := by
  simp only [jobDone, hj]

theorem clampRec_releaseStamped (c d : Fin 20) (b : Book) (s : State) : clampRec (releaseStamped c b s) d
    = if d = c then { clampRec s c with book := some { b with releaseTime := some s.clock } } else clampRec s d :=
  clampRec_setClamp c _ _ d

/-- What RELEASE's DONE leaves in every case (R125). -/
structure ReleaseDone (c : Fin 20) (s t : State) : Prop where
  tables  : TablesKept s t
  tickets : t.tickets = s.tickets
  state   : t.car.state = s.car.state
  done    : t.dlv.done = s.dlv.done
  held    : t.trim.held = s.trim.held
  clamps  : ∀ d, d ≠ c → clampRec t d = clampRec s d

/-- An open drop window (R125). -/
theorem exec_releaseOpens (h : AnswersJob s .release j tag slot) (hgo : DwellGoesOn s .release)
    (hb : bookIn s j.item.clamp = some b) (hw : s.dlv.dropWatch ≠ .early) (r : JobResult) :
    exec (.slotAnswer .release [(.release, .done r)] none ⟨false, true⟩) s
      = .next { releaseStamped j.item.clamp b (slotHeard .release s) with
        dlv := { s.dlv with dropWatch := .opened j.item.clamp s.clock }
        bus := { (slotHeard .release s).bus with current := some (.poll tag (slot + 1)) } } := by
  have hb' : bookIn (slotHeard .release s) j.item.clamp = some b := hb
  have hu := (takeStatus_done h r).trans ((jobDone_release (station_of_jobAt h.job) r _).trans
    ((releaseAnswered_eq hb').trans (if_neg hw)))
  obtain ⟨k, hk, hne, hopen⟩ := hgo
  refine (exec_release h hu).trans (congrArg _ ?_)
  refine (congrArg slotClosed (dwellCheck_of_open ⟨k, ?_, hopen⟩)).trans (slotClosed_of_poll ?_)
  · exact mem_updateJob_of_ne (s := slotHeard .release s) hk hne
  · exact h.bus

/-- A drop confirmed early (R125, R126). -/
theorem exec_releaseDrops (h : AnswersJob s .release j tag slot) (hgo : DwellGoesOn s .release)
    (hb : bookIn s j.item.clamp = some b) (hw : s.dlv.dropWatch = .early) (r : JobResult) :
    ∃ t, exec (.slotAnswer .release [(.release, .done r)] none ⟨false, true⟩) s = .next t
      ∧ ReleaseDone j.item.clamp s t ∧ bookIn t j.item.clamp = none ∧ t.dlv.dropWatch = .none
      ∧ t.dlv.cooling = s.dlv.cooling ++ [{ b with releaseTime := some s.clock, coolEntry := some s.clock }]
      ∧ overrunCount t .release = 0
      ∧ jobAt t .release = some { j with status := .done, limit := .suspended, releaseDone := true } := by
  have hb' : bookIn (slotHeard .release s) j.item.clamp = some b := hb
  obtain ⟨m, hm⟩ : ∃ m, m = releaseStamped j.item.clamp b (slotHeard .release s) := ⟨_, rfl⟩
  have hu := (takeStatus_done h r).trans ((jobDone_release (station_of_jobAt h.job) r _).trans
    ((releaseAnswered_eq hb').trans (if_pos hw)))
  rw [← hm] at hu
  have hmb : bookIn m j.item.clamp = some { b with releaseTime := some s.clock } := by
    rw [hm, bookIn_eq, clampRec_releaseStamped, if_pos rfl]
    rfl
  have hmd : m.car.state = .dwelling := by rw [hm]; exact h.dwelling
  obtain ⟨g, gc, x, hstop⟩ := dropConfirmed_of_dwelling hmb hmd
  obtain ⟨p, hp⟩ : ∃ p, p = dropMoved j.item.clamp { b with releaseTime := some s.clock } m := ⟨_, rfl⟩
  have hpj : jobAt p .release = some (releaseTaken j) := by
    rw [hp, hm]
    exact jobAt_updateJob (s := slotHeard .release s) (f := releaseTaken) (fun _ => rfl) h.job
  have hended := dropEnded_of_open hpj rfl
  rw [← hp, hended] at hstop
  have hat : jobAt (dropConfirmed j.item.clamp m) .release
      = some { j with status := .done, limit := .suspended, releaseDone := true } :=
    jobAt_sent hstop.toBusWork (jobAt_endJob (s := p) .done hpj) nofun
  obtain ⟨hpoll, -⟩ := hstop.poll tag slot (by rw [hp, hm]; exact h.bus)
  obtain ⟨l, q, hcar, hsent⟩ := hstop.car
  obtain ⟨m₁, m₂, m₃, htrim⟩ := hstop.trim
  have hopen : ∃ k ∈ (dropConfirmed j.item.clamp m).car.jobs, k.ended = false := by
    obtain ⟨k, hk, hne, hopen⟩ := hgo
    have hk' : k ∈ (setOverrun .release 0 (endJob .release .done p)).car.jobs := by
      rw [hp, hm]
      exact mem_endJob_of_ne (s := dropMoved j.item.clamp _ (releaseStamped j.item.clamp b (slotHeard .release s))) .done
        (mem_updateJob_of_ne (s := slotHeard .release s) hk hne) hne
    obtain ⟨i, hi, -, -, he, -⟩ := jobSent_image hsent k hk'
    exact ⟨i, by rw [hcar]; exact hi, he.trans hopen⟩
  have hclamp : ∀ d, clampRec (dropConfirmed j.item.clamp m) d = clampRec p d := fun d =>
    clampRec_of_clamps (s := p) (by rw [hcar]; rfl) d
  have hrec : ∀ d, clampRec p d = if d = j.item.clamp then { clampRec m j.item.clamp with book := none } else clampRec m d := by
    rw [hp]
    exact fun d => clampRec_setClamp _ _ _ d
  refine ⟨_, (exec_release h hu).trans (congrArg _ ((congrArg slotClosed (dwellCheck_of_open hopen)).trans
    (slotClosed_of_poll hpoll))), ?_, ?_, ?_, ?_, ?_, hat⟩
  · have hkept := hstop.toBusWork
    have hpm : p.dlv.done = s.dlv.done ∧ p.trim = s.trim ∧ p.tickets = s.tickets ∧ p.car.state = s.car.state := by
      rw [hp, hm]
      exact ⟨rfl, rfl, rfl, rfl⟩
    obtain ⟨hdone, htrim', htickets, hstate⟩ := hpm
    have h₀ : TablesKept s p := by
      rw [hp, hm]
      exact ((slotHeard_kept .release s).tables.trans (releaseStamped_tables _ _ _)).trans (dropMoved_tables _ _ _)
    refine ⟨?_, hkept.tickets.trans htickets, ?_, ?_, ?_, fun d hd => ?_⟩
    · exact ⟨hkept.clock.trans h₀.clock, hkept.profiles.trans h₀.profiles, hkept.settings.trans h₀.settings,
        (congrArg GlueUnit.family hkept.glue).trans h₀.family, hkept.scan.trans h₀.scan, hkept.pins.trans h₀.pins,
        hkept.store.trans h₀.store, hkept.pending.trans h₀.pending⟩
    · show (dropConfirmed j.item.clamp m).car.state = _
      rw [hcar]
      exact hstate
    · exact (congrArg Delivery.done hkept.dlv).trans hdone
    · show (dropConfirmed j.item.clamp m).trim.held = _
      rw [htrim]
      exact (show p.trim.held = s.trim.held from congrArg Trimmer.held htrim')
    · refine (hclamp d).trans ((hrec d).trans ((if_neg hd).trans ?_))
      rw [hm]
      exact (clampRec_releaseStamped _ _ _ _).trans (if_neg hd)
  · exact (congrArg Clamp.book ((hclamp _).trans (hrec _))).trans (by rw [if_pos rfl])
  · exact (congrArg Delivery.dropWatch hstop.dlv).trans (by rw [hp]; rfl)
  · exact (congrArg Delivery.cooling hstop.dlv).trans (by rw [hp, hm]; rfl)
  · show (dropConfirmed j.item.clamp m).car.overruns[stationIdx .release] = 0
    rw [hcar]
    exact Vector.getElem_set_self _

/-! ## RELEASE's FAILED (R51, R125) -/

theorem releaseFailed_line (s : State) : (releaseFailed s).line = s.line := by
  rw [releaseFailed_eq]
  rfl

theorem releaseFailed_car (s : State) : (releaseFailed s).car = (endJob .release .failed s).car := by
  rw [releaseFailed_eq]

theorem releaseFailed_open (h : DwellGoesOn s .release) (n : Nat) :
    ∃ k ∈ (setOverrun .release n (releaseFailed s)).car.jobs, k.ended = false := by
  obtain ⟨k, hk, hne, hopen⟩ := h
  refine ⟨k, ?_, hopen⟩
  show k ∈ (releaseFailed s).car.jobs
  rw [releaseFailed_car]
  exact mem_endJob_of_ne .failed hk hne

/-- A failed release after its count: the dwell goes on, or a fault has ended it. -/
theorem exec_releaseFails (h : AnswersJob s .release j tag slot) {n : Nat} {l : List Attempt}
    (hu : stationOverrun .release (releaseFailed (slotHeard .release s)) = u)
    (k : FaultWork (setOverrun .release n (releaseFailed (slotHeard .release s))) u)
    (hd : u.car.state ≠ .dwelling ∨ ∃ k ∈ u.car.jobs, k.ended = false) :
    exec (.slotAnswer .release [(.release, .failed l)] none ⟨false, true⟩) s
        = .next { u with bus := { u.bus with current := some (.poll tag (slot + 1)) } }
      ∧ LineKept s u ∧ jobAt u .release = some { j with status := .failed, limit := .suspended }
      ∧ u.dlv = { s.dlv with dropWatch := if s.dlv.dropWatch = .early then .none else s.dlv.dropWatch }
      ∧ overrunCount u .release = n ∧ u.bus.nodes = (slotHeard .release s).bus.nodes := by
  have hfail : takeStatus [(.release, .failed l)] .release (slotHeard .release s) = u :=
    ((takeStatus_failed h l).trans (jobFailed_release (station_of_jobAt h.job) l _)).trans hu
  have hbus : (setOverrun .release n (releaseFailed (slotHeard .release s))).bus = (slotHeard .release s).bus := by
    rw [releaseFailed_eq]
    rfl
  obtain ⟨hpoll, hnodes⟩ := k.poll tag slot (by rw [hbus]; exact h.bus)
  refine ⟨(exec_release h hfail).trans (congrArg _ ((congrArg slotClosed (dwellCheck_of_stopped hd)).trans
      (slotClosed_of_poll hpoll))), ((slotHeard_kept _ s).trans (releaseFailed_kept n _)).trans k.kept,
    k.ended _ _ (releaseFailed_jobAt (s := slotHeard .release s) h.job n) rfl, ?_, ?_, hnodes.trans (by rw [hbus])⟩
  · rw [k.dlv_of_released, releaseFailed_eq]
    rfl
  · obtain ⟨_, _, _, _, _, _, hc⟩ := k.car
    rw [overrunCount, hc]
    exact Vector.getElem_set_self _

/-! ## The drop window (R127) -/

/-- The record of a lost book is written into the done list, or waits in its clamp for room (R127, R132). -/
theorem dropLost_written (hb : bookIn s c = some b) (hd : s.car.state = .dwelling) : ∃ v, FaultWork v (dropLost c s)
    ∧ LineFaulted s (dropLost c s) .bookLost ∧ Noticed .bookLost b.ticket.id (dropLost c s) ∧ TablesKept s v
    ∧ v.tickets.queue = s.tickets.queue ∧ v.dlv.dropWatch = .none ∧ v.dlv.cooling = s.dlv.cooling
    ∧ v.dlv.loaded = s.dlv.loaded ∧ v.dlv.collected = s.dlv.collected ∧ v.trim.held = s.trim.held
    ∧ (∀ d, d ≠ c → bookIn v d = bookIn s d)
    ∧ (s.dlv.done.length < 32 → bookIn v c = none ∧ v.dlv.waiters = s.dlv.waiters
      ∧ v.dlv.done = s.dlv.done ++ [{ b with
        reason := some (b.reason.getD .fault), outTime := some s.clock, outcome := some .rejected }])
    ∧ (32 ≤ s.dlv.done.length → bookIn v c = some { b with reason := some (b.reason.getD .fault) }
      ∧ v.dlv.done = s.dlv.done ∧ v.dlv.waiters = s.dlv.waiters ++ [.clamp c]) := by
  obtain ⟨m, hm⟩ : ∃ m, m = mapBook c (fun b => { b with reason := some (b.reason.getD .fault) })
      { s with dlv := { s.dlv with dropWatch := .none } } := ⟨_, rfl⟩
  have hmr : setReason c .fault { s with dlv := { s.dlv with dropWatch := .none } } = m := (setReason_eq _ _ _).trans hm.symm
  have hmb : bookIn m c = some { b with reason := some (b.reason.getD .fault) } := by
    rw [hm, bookIn_mapBook_self]
    exact congrArg (Option.map _) hb
  have hmo : ∀ d, d ≠ c → bookIn m d = bookIn s d := fun d hne => by
    rw [hm]
    exact congrArg Clamp.book (clampRec_mapBook_of_ne _ _ hne)
  have hmd : m.dlv = { s.dlv with dropWatch := .none } := by rw [hm]; rfl
  have hms : m.car.state = .dwelling := by rw [hm]; exact hd
  have hmt : TablesKept s m := by rw [hm]; exact ⟨rfl, rfl, rfl, rfl, rfl, rfl, rfl, rfl⟩
  have hml : m.line = s.line := by rw [hm]; rfl
  obtain ⟨v, hv⟩ : ∃ v, v = if doneRoom m then redecide false (writeHolder (.clamp c) m) else writeOrWait (.clamp c) m :=
    ⟨_, rfl⟩
  have hlost : dropLost c s = raiseNotice .bookLost b.ticket.id (lineFault .bookLost v) := by
    unfold dropLost
    simp only [hb, hmr, ← hv]
  have hfault : v.line = m.line → LineFaulted s (dropLost c s) .bookLost := fun h => by
    rw [hlost]
    exact (raiseNotice_faulted _ _ (lineFault_faulted .bookLost v)).congr (hml.symm.trans h.symm) rfl rfl rfl
  refine ⟨v, by rw [hlost]; exact faultNoticed_work _ _ _ v, ?_⟩
  have hnote : Noticed .bookLost b.ticket.id (dropLost c s) := by rw [hlost]; exact noticed_raiseNotice _ _ _
  by_cases hroom : s.dlv.done.length < 32
  · have hr : doneRoom m = true := decide_eq_true (by rw [hmd]; exact hroom)
    obtain ⟨x, hx⟩ := writeDone_host { b with reason := some (b.reason.getD .fault) } .rejected (setBook c none m)
    have hw : v = { setBook c none m with
        dlv := { m.dlv with done := m.dlv.done ++ [Book.asDone { b with reason := some (b.reason.getD .fault) }
          .rejected m.clock] }, host := x } := by
      have hwh : writeHolder (.clamp c) m = writeDone { b with reason := some (b.reason.getD .fault) } .rejected
          (setBook c none m) := by simp only [writeHolder, hmb]
      rw [hv, if_pos hr, hwh, hx]
      exact redecide_of_undecided _ (.inl (by show m.car.state ≠ _; rw [hms]; nofun))
    have hvb : ∀ d, bookIn v d = if d = c then none else bookIn m d := fun d => by
      rw [hw]
      exact bookIn_setBook c none m d
    have hvd : v.dlv = { m.dlv with done := m.dlv.done ++ [Book.asDone { b with reason := some (b.reason.getD .fault) }
          .rejected m.clock] } := by rw [hw]
    rw [hmd, asDone_eq, hmt.clock] at hvd
    refine ⟨hfault (by rw [hw]; rfl), hnote, hmt.trans (by rw [hw]; exact ⟨rfl, rfl, rfl, rfl, rfl, rfl, rfl, rfl⟩),
      by rw [hw, hm]; rfl, by rw [hvd], by rw [hvd], by rw [hvd], by rw [hvd], by rw [hw, hm]; rfl,
      fun d hne => by rw [hvb, if_neg hne, hmo d hne], fun _ => ⟨by rw [hvb, if_pos rfl], by rw [hvd], by rw [hvd]; rfl⟩,
      fun h => absurd hroom (Nat.not_lt.mpr h)⟩
  · have hr : doneRoom m = false := decide_eq_false (by rw [hmd]; exact hroom)
    have hw : v = { m with dlv := { m.dlv with waiters := m.dlv.waiters ++ [.clamp c] } } := by
      rw [hv, hr, writeOrWait, hr]
      rfl
    have hvd : v.dlv = { m.dlv with waiters := m.dlv.waiters ++ [.clamp c] } := by rw [hw]
    rw [hmd] at hvd
    have hvb : ∀ d, bookIn v d = bookIn m d := fun d => by rw [hw]; rfl
    refine ⟨hfault (by rw [hw]), hnote, hmt.trans (by rw [hw]; exact ⟨rfl, rfl, rfl, rfl, rfl, rfl, rfl, rfl⟩),
      by rw [hw, hm]; rfl, by rw [hvd], by rw [hvd], by rw [hvd], by rw [hvd], by rw [hw, hm]; rfl,
      fun d hne => by rw [hvb, hmo d hne], fun h => absurd h hroom,
      fun _ => ⟨by rw [hvb, hmb], by rw [hvd], by rw [hvd]⟩⟩

theorem exec_dropTimeout (hlive : s.pins.inReset = false) :
    exec .dropWindowTimeout s = .next (dropTimeout (clearOut s)) :=
  congrArg Host.Outcome.next (live_next _ s hlive)

theorem clearOut_tables (s : State) : TablesKept s (clearOut s) := ⟨rfl, rfl, rfl, rfl, rfl, rfl, rfl, rfl⟩

/-- A window that has not run out, or that is not open, does nothing (R125). -/
theorem dropTimeout_early (h : ∀ c w, s.dlv.dropWatch = .opened c w → (s.clock - w).toNat < 300) :
    dropTimeout s = s := by
  unfold dropTimeout
  cases hw : s.dlv.dropWatch with
  | opened c w => exact if_neg fun hd => Nat.not_le.mpr (h c w hw) ((due_iff _ _ _).1 hd)
  | _ => rfl

theorem dropTimeout_lost {w : Time} (h : s.dlv.dropWatch = .opened c w) (hd : 300 ≤ (s.clock - w).toNat) :
    dropTimeout s = dropLost c s := by
  unfold dropTimeout
  simp only [h]
  exact if_pos ((due_iff _ _ _).2 hd)

/-- A book that carries a reason is left as it is. -/
theorem LineKept.bookReasoned (h : LineKept s t) {d : Fin 20} {r : RejectReason} (hb : bookIn s d = some b)
    (hr : b.reason = some r) : bookIn t d = some b := by
  obtain ⟨b', hb', hk⟩ := h.clamps.book d b hb
  rcases hk with rfl | ⟨hnone, -⟩
  · exact hb'
  · rw [hr] at hnone
    cases hnone

end

/-- Settles O38: the drop is watched, confirmed at once, or given up with the job; a window run out loses the book. -/
theorem releaseOpensDropWatch : Obligations.ReleaseOpensDropWatch := by
  unfold Obligations.ReleaseOpensDropWatch
  refine ⟨fun s j tag slot r b h hgo hb => ?_, fun s j tag slot l h hgo => ?_, fun s hlive => ⟨fun hno => ?_, ?_⟩⟩
  · by_cases hw : s.dlv.dropWatch = .early
    · obtain ⟨t, he, ht, hnone, hdrop, hcool, hover, hjob⟩ := exec_releaseDrops h hgo hb hw r
      exact ⟨t, he, ht.tables, ht.tickets, ht.state.trans h.dwelling, ht.done, ht.held, ht.clamps,
        fun hno => absurd hw hno, fun _ => ⟨hnone, hdrop, hcool, hover, hjob⟩⟩
    · refine ⟨_, exec_releaseOpens h hgo hb hw r, ?_, rfl, h.dwelling, rfl, rfl, fun d hd => ?_,
        fun _ => ⟨rfl, ?_, ?_⟩, fun hno => absurd hno hw⟩
      · exact ((slotHeard_kept .release s).tables.trans (releaseStamped_tables j.item.clamp b _)).trans
          ⟨rfl, rfl, rfl, rfl, rfl, rfl, rfl, rfl⟩
      · exact (clampRec_releaseStamped (s := slotHeard .release s) _ _ _).trans (if_neg hd)
      · exact congrArg Clamp.book ((clampRec_releaseStamped (s := slotHeard .release s) _ _ _).trans (if_pos rfl))
      · exact jobAt_updateJob (s := slotHeard .release s) (f := releaseTaken) (fun _ => rfl) h.job
  · have hcount : overrunCount (releaseFailed (slotHeard .release s)) .release = overrunCount s .release := by
      rw [overrunCount, releaseFailed_car]
      rfl
    have hdwell : ∀ n, (setOverrun .release n (releaseFailed (slotHeard .release s))).car.state = .dwelling := fun n => by
      show (releaseFailed (slotHeard .release s)).car.state = _
      rw [releaseFailed_car]
      exact h.dwelling
    have hopen := releaseFailed_open (s := slotHeard .release s) hgo
    have hline : (releaseFailed (slotHeard .release s)).line = s.line := releaseFailed_line _
    rcases Nat.eq_zero_or_pos (overrunCount s .release) with h0 | h1
    · obtain ⟨he, hk, hat, hdlv, hn, hnodes⟩ := exec_releaseFails (n := 1) (l := l) h
        (stationOverrun_first (hcount.trans h0)) (Stopped.refl _).faultWork (.inr (hopen 1))
      refine ⟨_, he, slot_kept hk _, hat, hdlv, fun _ => ⟨hn, hline, ?_, ?_⟩, fun h1 => absurd h1 (by omega)⟩
      · show (releaseFailed (slotHeard .release s)).car.clamps = _
        rw [releaseFailed_car]
        rfl
      · exact jobClosed_of_at (s := s) hat (hdwell 1) hnodes rfl
    · obtain ⟨he, hk, hat, hdlv, hn, -⟩ := exec_releaseFails (n := 2) (l := l) h
        (stationOverrun_second (by rw [hcount]; exact h1)) (faultNoticed_work _ _ _ _) (by
          rcases faultNoticed_dwelling (c := .stationOverrun) .stationOverrun
            (BitVec.ofNat 32 (nodeAddr (stationNode .release))) (hdwell 2) nofun with hs | hs
          · exact .inl (by rw [hs]; nofun)
          · exact .inr (by rw [hs]; exact hopen 2))
      exact ⟨_, he, slot_kept hk _, hat, hdlv, fun h0 => absurd h0 (by omega), fun _ => ⟨hn,
        (raiseNotice_faulted .stationOverrun (BitVec.ofNat 32 (nodeAddr (stationNode .release)))
          (lineFault_faulted .stationOverrun (setOverrun .release 2 _))).congr hline.symm rfl rfl rfl,
        noticed_raiseNotice .stationOverrun _ (lineFault .stationOverrun (setOverrun .release 2 _))⟩⟩
  · rw [exec_dropTimeout hlive, dropTimeout_early (s := clearOut s) hno]
  · intro c w b hw hdue hb hd lost
    obtain ⟨v, k, hf, hn, hv, hq, hdrop, hcool, hload, hcoll, hheld, hother, hroom, hfull⟩ :=
      dropLost_written (s := clearOut s) hb hd
    have hdlv : (dropLost c (clearOut s)).dlv = v.dlv := by
      rcases k.dlv with h | ⟨h, -⟩
      · exact h
      · rw [hdrop] at h
        cases h
    obtain ⟨m, x, y, htrim⟩ := k.trim
    rw [exec_dropTimeout hlive, dropTimeout_lost (s := clearOut s) hw hdue]
    refine ⟨_, rfl, ((clearOut_tables s).trans hv).trans k.kept.tables, k.kept.queue.trans hq, by rw [hdlv, hdrop],
      by rw [hdlv, hcool]; rfl, by rw [hdlv, hload]; rfl, by rw [hdlv, hcoll]; rfl, by rw [htrim]; exact hheld,
      hf.congr rfl rfl rfl rfl, hn, fun d hne x hx => ?_, fun hlt => ?_, fun hge => ?_⟩
    · exact k.kept.clamps.book d x ((hother d hne).trans hx)
    · obtain ⟨h₁, h₂, h₃⟩ := hroom hlt
      exact ⟨k.kept.clamps.empty c h₁, by rw [hdlv, h₂]; rfl, by rw [hdlv, h₃]; rfl⟩
    · obtain ⟨h₁, h₂, h₃⟩ := hfull hge
      exact ⟨k.kept.bookReasoned h₁ rfl, by rw [hdlv, h₂]; rfl, by rw [hdlv, h₃]; rfl⟩

end Sys2Proof.Machine

/-! PROOFS. O44: the line's timers and the flashing lamp (6.3 to 6.6, 6.8). -/

namespace Sys2Proof.Machine

section
variable {s t : State}

/-! ## When a timer is due -/

theorem startDue_iff (now : Time) (x : Option Time) (len : Nat) :
    startDue now x len = true ↔ ∃ w, x = some w ∧ len ≤ (now - w).toNat := by
  cases x <;> simp [startDue, due_iff]

theorem timerDue_iff (now : Time) (x : Option (Time × Nat)) :
    timerDue now x = true ↔ ∃ w n, x = some (w, n) ∧ n ≤ (now - w).toNat := by
  cases x with
  | none => simp [timerDue]
  | some x => exact (due_iff _ _ _).trans ⟨fun h => ⟨_, _, rfl, h⟩, fun ⟨_, _, e, h⟩ => by cases e; exact h⟩

theorem wakeCondition_iff : wakeCondition s = true ↔ s.tickets.queue ≠ [] ∧ s.scan.contacts[(0 : Fin 64)].closed = true
    ∧ s.scan.contacts[(0 : Fin 64)].uncertain = false := by
  simp only [wakeCondition, inPresent, contactClosed, Bool.and_eq_true, Bool.not_eq_true', List.isEmpty_eq_false_iff]

/-! ## STANDBY (R116) -/

/-- The line as it enters STANDBY from RUNNING. -/
def standbyLine (s : State) : Line :=
  { s.line with standbyTimer := none, parkTimer := some (s.clock, s.settings.parkDelay * 1000) }

/-- The line in STANDBY before the wake test. -/
def stoodBy (s : State) : State := enterState .standby { s with line := standbyLine s }

theorem stoodBy_line (s : State) : (stoodBy s).line = { standbyLine s with
    state := .standby, halt := false, park := false, lamps := lampsOf .standby s.line.estopLatch
    flashBase := s.clock } := enterState_line _ _

theorem stoodBy_kept (s : State) : LineKept s (stoodBy s) := enterState_kept .standby ((LineKept.refl s).line _)

theorem stoodBy_glue (s : State) : (stoodBy s).glue = glueFollow .standby s.settings s.glue := enterState_glue _ _

theorem stoodBy_host (s : State) : ∃ x, stoodBy s = { s with
    line := (stoodBy s).line, glue := (stoodBy s).glue, host := x } := by
  obtain ⟨x, hx⟩ := raiseState_host .standby _
  rw [stoodBy_line, stoodBy_glue]
  exact ⟨x, hx⟩

theorem wakeCondition_stoodBy (s : State) : wakeCondition (stoodBy s) = wakeCondition s := by
  obtain ⟨x, hx⟩ := stoodBy_host s
  rw [hx]
  rfl

theorem enterStandby_of_asleep (h : wakeCondition s = false) : enterStandby s = stoodBy s :=
  if_neg fun k => absurd ((wakeCondition_stoodBy s).symm.trans k) (by rw [h]; nofun)

theorem enterStandby_of_wake (h : wakeCondition s = true) : enterStandby s = enterWarming (stoodBy s) :=
  if_pos ((wakeCondition_stoodBy s).trans h)

/-- A line in STANDBY moves nothing. -/
theorem tellCarousel_standby (h : s.line.state = .standby) : tellCarousel s = s := by
  unfold tellCarousel carTold tellFuel
  have hm : moving s = false := by simp [moving, h]
  cases hc : s.car.state <;> simp [hc, hm, h]

theorem clearOut_kept (s : State) : LineKept s (clearOut s) :=
  ⟨clearOut_tables s, ⟨rfl, rfl, rfl, rfl, rfl, rfl⟩, .ofEq rfl, rfl⟩

end

/-- Settles O44: each timer acts when it runs and has reached its length, and does nothing otherwise. -/
theorem lineTimersRunOut : Obligations.LineTimersRunOut := by
  unfold Obligations.LineTimersRunOut
  intro s hlive warm stand park flash wakes
  have hcl := clearOut_kept s
  have hwake : wakeCondition (clearOut s) = true ↔ wakes := wakeCondition_iff
  have exec_timer : ∀ f : State → State, live f s = f (clearOut s) := fun f => live_next f s hlive
  have hwarm : (s.line.state == .warming && startDue s.clock s.line.warmTimer Config.warmLimit) = true ↔ warm := by
    rw [Bool.and_eq_true, beq_iff_eq, startDue_iff]
    exact .rfl
  have hstand : (s.line.state == .running && timerDue s.clock s.line.standbyTimer) = true ↔ stand := by
    rw [Bool.and_eq_true, beq_iff_eq, timerDue_iff]
  have hpark : (s.line.state == .standby && timerDue s.clock s.line.parkTimer) = true ↔ park := by
    rw [Bool.and_eq_true, beq_iff_eq, timerDue_iff]
  have hflash : (flashes s.line.state && due s.clock s.line.flashBase Config.flashHalf) = true ↔ flash := by
    rw [Bool.and_eq_true, flashes, Bool.or_eq_true, beq_iff_eq, beq_iff_eq, due_iff]
    exact .rfl
  refine ⟨fun h => ?_, fun h => ?_, fun h => ?_, fun h hw => ?_, fun h hw hcold hhomed => ?_, fun h => ?_, fun h => ?_,
    fun h => ?_, fun h => ?_⟩
  · exact congrArg Host.Outcome.next ((exec_timer _).trans (if_neg fun hd => h (hwarm.1 hd)))
  · have hf := faultNoticed_work .heatTimeout .heatTimeout 3 (clearOut s)
    exact ⟨_, congrArg Host.Outcome.next ((exec_timer _).trans (if_pos (hwarm.2 h))), hcl.trans hf.kept,
      (raiseNotice_faulted .heatTimeout 3 (lineFault_faulted .heatTimeout (clearOut s))).congr rfl rfl rfl rfl,
      noticed_raiseNotice _ _ _⟩
  · exact congrArg Host.Outcome.next ((exec_timer _).trans (if_neg fun hd => h (hstand.1 hd)))
  · have hs : (stoodBy (clearOut s)).line.state = .standby := by rw [stoodBy_line]
    have hx : live standbyTimeout s = stoodBy (clearOut s) := by
      refine (exec_timer _).trans ((if_pos (hstand.2 h)).trans ?_)
      rw [enterStandby_of_asleep (Bool.eq_false_iff.mpr fun k => hw (hwake.1 k)), tellCarousel_standby hs]
    obtain ⟨x, hx'⟩ := stoodBy_host (clearOut s)
    refine ⟨_, congrArg Host.Outcome.next hx, hcl.trans (stoodBy_kept _), hs, ?_⟩
    rw [hx', stoodBy_line, stoodBy_glue]
    exact ⟨rfl, rfl, rfl, rfl, rfl, rfl⟩
  · have hc : (stoodBy (clearOut s)).glue.cond ≠ .atTemp := by rw [stoodBy_glue]; exact hcold
    obtain ⟨x, hx'⟩ := stoodBy_host (clearOut s)
    have hcar : (warmed (stoodBy (clearOut s))).car = s.car := by
      rw [warmed, enterState_car, hx']
      rfl
    have hx : live standbyTimeout s = warmed (stoodBy (clearOut s)) := by
      refine (exec_timer _).trans ((if_pos (hstand.2 h)).trans ?_)
      rw [enterStandby_of_wake (hwake.2 hw), enterWarming_cold hc,
        tellCarousel_warming (by rw [warmed_line]) (by rw [hcar]; exact hhomed)]
    refine ⟨_, congrArg Host.Outcome.next hx, (hcl.trans (stoodBy_kept _)).trans (warmed_kept _), ?_⟩
    rw [warmed_line, warmed_target]
    refine ⟨rfl, ?_, rfl, rfl, ?_⟩ <;> rw [hx'] <;> rfl
  · exact congrArg Host.Outcome.next ((exec_timer _).trans (if_neg fun hd => h (hpark.1 hd)))
  · have hx : live parkTimeout s = enterParked (clearOut s) := (exec_timer _).trans (if_pos (hpark.2 h))
    obtain ⟨x, hx'⟩ := enterParked_host (clearOut s)
    refine ⟨_, congrArg Host.Outcome.next hx, hcl.trans (enterParked_kept (.refl _)), ?_⟩
    rw [hx']
    exact ⟨rfl, rfl, rfl, rfl, rfl, rfl, rfl, rfl, rfl⟩
  · exact congrArg Host.Outcome.next ((exec_timer _).trans (if_neg fun hd => h (hflash.1 hd)))
  · exact congrArg Host.Outcome.next ((exec_timer _).trans (if_pos (hflash.2 h)))

end Sys2Proof.Machine

/-! PROOFS. O45: the e-stop (10.7, 6.7, 8.8). -/

namespace Sys2Proof.Machine

section
variable {s t u v : State}

/-! ## No request of the Trimmer Controller waits -/

/-- No waiting frame is a request of the Trimmer Controller (R138). -/
def TrimQuiet (b : Bus) : Prop := ∀ f ∈ b.frames, frameReq isTrimWork f = false

theorem giveUp_frames (p : Request → Bool) (s : State) :
    (giveUp p s).bus.frames = s.bus.frames.filter fun f => !frameReq p f := by
  simp only [giveUp, Bus.frames, List.filter_append]

theorem giveUp_trimQuiet (s : State) : TrimQuiet (giveUp isTrimWork s).bus := fun f hf => by
  rw [giveUp_frames] at hf
  simpa using (List.mem_filter.1 hf).2

theorem startLimit_trim {k : ReqKind} (h : ∀ n q, isTrimWork ⟨n, k, q⟩ = false) (s : State) :
    (startLimit k s).trim = s.trim := by
  unfold startLimit
  split
  · rfl
  · rfl
  · exact absurd (h .trimmer none) nofun
  · exact absurd (h .trimmer none) nofun
  · rfl

/-- A frame that is no request of the Trimmer Controller leaves the trimmer alone. -/
theorem sendFrame_trim {f : Frame} (h : frameReq isTrimWork f = false) (s : State) : (sendFrame f s).trim = s.trim := by
  cases f with
  | req r =>
    have hr : (if r.seq.isNone then startLimit r.kind s else s).trim = s.trim := by
      split
      · exact startLimit_trim (fun _ _ => h) s
      · rfl
    exact hr
  | work tag items again => rfl
  | poll => rfl
  | abortAll => rfl
  | abortJob st => rfl
  | abortTrimmer => rfl

theorem pump_trim (m : Nat) (h : TrimQuiet s.bus) : (pump m s).trim = s.trim := by
  induction m generalizing s with
  | zero => rfl
  | succ m ih =>
    unfold pump
    split
    · next f b hcur hgrant =>
      have hframes := (grant_granted hgrant).frames
      have hf := sendFrame_trim (h f ((hframes f).2 (.inl rfl))) { s with bus := b }
      refine (ih fun x hx => h x ((hframes x).2 (.inr ?_))).trans hf
      rwa [(sendFrame_bus f { s with bus := b }).1] at hx
    · rfl

theorem handOver_trim {f : Frame} (hf : frameReq isTrimWork f = false) (h : TrimQuiet s.bus) :
    (handOver f s).trim = s.trim :=
  pump_trim _ fun x hx => by
    rcases (enqueue_frames f _ x).1 hx with rfl | hx
    · exact hf
    · exact h x hx

/-! ## The trimmer's fault (R149) -/

theorem trimFault_again (c : TrimCause) (a : Bool) (h : s.trim.state = .faulted) :
    trimFault c a s = { s with trim := { s.trim with cause := some c } } := if_pos (beq_iff_eq.mpr h)

/-- A fault of the trimmer that enters FAULTED: its requests are given up, and the ABORT goes to the bus. -/
theorem trimFault_entered (c : TrimCause) (a : Bool) (h : s.trim.state ≠ .faulted) :
    BusWork (trimFaultState c (giveUp isTrimWork s)) (trimFault c a s)
      ∧ (trimFault c a s).trim = (trimFaultState c s).trim := by
  unfold trimFault
  rw [if_neg (by simpa using h)]
  cases a
  · exact ⟨.refl _, rfl⟩
  · refine ⟨abortTrimmer_busWork _, ?_⟩
    unfold abortTrimmer
    rw [if_pos rfl]
    split
    · exact handOver_trim rfl (giveUp_trimQuiet s)
    · rfl

/-- What a fault of the trimmer leaves alone, the trimmer's own record apart. -/
structure TrimFaultWork (s t : State) : Prop where
  tables  : TablesKept s t
  tickets : t.tickets = s.tickets
  clamps  : t.car.clamps = s.car.clamps
  carState : t.car.state = s.car.state
  phase   : t.car.phaseKnown = s.car.phaseKnown ∧ t.car.phase = s.car.phase
  line    : t.line = s.line
  glue    : t.glue = s.glue
  dlv     : t.dlv = s.dlv
  host    : t.host = s.host
  faulted : t.trim.state = .faulted

theorem BusWork.tables (h : BusWork s t) : TablesKept s t := h.lineKept.tables

theorem trimFault_work (c : TrimCause) (a : Bool) (s : State) : TrimFaultWork s (trimFault c a s) := by
  by_cases h : s.trim.state = .faulted
  · rw [trimFault_again c a h]
    exact ⟨⟨rfl, rfl, rfl, rfl, rfl, rfl, rfl, rfl⟩, rfl, rfl, rfl, ⟨rfl, rfl⟩, rfl, rfl, rfl, rfl, h⟩
  · obtain ⟨hb, ht⟩ := trimFault_entered c a h
    obtain ⟨l, m, hcar, -⟩ := hb.car
    have h₀ : TablesKept s (trimFaultState c (giveUp isTrimWork s)) := ⟨rfl, rfl, rfl, rfl, rfl, rfl, rfl, rfl⟩
    exact ⟨h₀.trans hb.tables, hb.tickets, by rw [hcar]; rfl, by rw [hcar]; rfl, ⟨by rw [hcar]; rfl, by rw [hcar]; rfl⟩,
      hb.line, hb.glue, hb.dlv, hb.host, by rw [ht]; rfl⟩

theorem trimFault_cause (c : TrimCause) (a : Bool) (s : State) : (trimFault c a s).trim.cause = some c := by
  by_cases h : s.trim.state = .faulted
  · rw [trimFault_again c a h]
  · rw [(trimFault_entered c a h).2]
    rfl

theorem trimFaultState_held (c : TrimCause) (s : State) :
    (∀ b, s.trim.held = .inside b →
      (trimFaultState c s).trim.held = .inside { b with reason := some (b.reason.getD .fault) })
    ∧ ((∀ b, s.trim.held ≠ .inside b) → (trimFaultState c s).trim.held = s.trim.held) := by
  cases hh : s.trim.held <;> simp [trimFaultState, hh, withReason_eq]

/-! ## The e-stop and the carousel (R119) -/

/-- The e-stop's fault leaves the carousel UNHOMED (R118, R119). -/
theorem lineFault_estop (h : Faultable s) (hc : s.car.state ≠ .unhomed) :
    (lineFault .estop s).car.state = .unhomed ∧ (lineFault .estop s).car.phaseKnown = false := by
  rw [lineFault_of_faultable _ h]
  obtain ⟨x, hx⟩ := faultEntered_eq .estop s
  have hs : (faultEntered .estop s).car.state = s.car.state := by rw [hx]
  rw [← hs] at hc
  unfold carFault
  split
  · exact ⟨rfl, rfl⟩
  · exact ⟨rfl, rfl⟩
  · exact ⟨rfl, rfl⟩
  · exact ⟨rfl, rfl⟩
  · next h => exact absurd h hc

/-- A carousel standing in FAULTED is unhomed too (R119). -/
theorem lineFault_estop_again (h : s.line.state = .faulted) (hc : s.car.state = .standing) :
    lineFault .estop s = unhome { s with line := { s.line with cause := some .estop } } := by
  rw [lineFault_of_faulted _ h]
  exact if_pos (by simp [hc])

theorem lineFault_phase (c : FaultCause) (s : State) : (lineFault c s).car.phase = s.car.phase := by
  obtain ⟨_, _, _, _, _, _, hc⟩ := (lineFault_work c s).car
  rw [hc]

/-! ## The e-stop -/

/-- The part with the input active, the latch set and TRIM_EN off (R171). -/
def estopTaken (s : State) : State := { s with
  pins := { s.pins with estopActive := true, estopLowAt := s.clock }
  line := { s.line with estopLatch := true, lamps := { s.line.lamps with trim := false } } }

theorem estopOn_eq (s : State) :
    estopOn s = trimFault .estop true (raiseNotice .estop 0 (lineFault .estop (estopTaken s))) := rfl

theorem lineFault_line (c : FaultCause) (h : Faultable s) : (lineFault c s).line = faultedLine c s := by
  rw [lineFault_of_faultable c h, (carFault_stopped _ _).line]
  obtain ⟨x, hx⟩ := faultEntered_eq c s
  rw [hx]

/-- TRIM_EN stays off, and the latch set, through the line's fault. -/
theorem faulted_latch {c : FaultCause} (h : LineFaulted s t c) (hl : s.line.estopLatch = true)
    (ht : s.line.lamps.trim = false) (hk : Faultable s → t.line.estopLatch = s.line.estopLatch) :
    t.line.lamps.trim = false ∧ t.line.estopLatch = true := by
  rcases lineState_cases s with hs | hs | hs
  · rw [h.lamps hs, hk hs, hl]
    exact ⟨rfl, rfl⟩
  · rw [h.still hs]
    exact ⟨ht, hl⟩
  · rw [h.again hs]
    exact ⟨ht, hl⟩

end

/-- Settles O45: the line and the trimmer are faulted, the carousel unhomed; the release changes the input alone. -/
theorem estopFaultsLineAndTrimmer : Obligations.EstopFaultsLineAndTrimmer := by
  unfold Obligations.EstopFaultsLineAndTrimmer
  intro s hlive high
  have hexec : ∀ f : State → State, live f s = f (clearOut s) := fun f => live_next f s hlive
  have hhigh : (s.pins.estopActive && due s.clock s.pins.estopLowAt Config.estopRelease) = true ↔ high := by
    rw [Bool.and_eq_true, due_iff]
    exact .rfl
  refine ⟨fun h => ?_, fun h => ?_, fun h => ?_, fun h => ?_⟩
  · exact congrArg Host.Outcome.next ((hexec _).trans (if_pos (hhigh.2 h)))
  · exact congrArg Host.Outcome.next ((hexec _).trans (if_neg fun k => h (hhigh.1 k)))
  · exact congrArg Host.Outcome.next ((hexec _).trans (if_pos h))
  · obtain ⟨e, he⟩ : ∃ e, e = estopTaken (clearOut s) := ⟨_, rfl⟩
    obtain ⟨n, hn⟩ : ∃ n, n = raiseNotice .estop 0 (lineFault .estop e) := ⟨_, rfl⟩
    have hx : live estopActivated s = trimFault .estop true n := by
      refine (hexec _).trans ((if_neg (by show ¬s.pins.estopActive = true; rw [h]; nofun)).trans ?_)
      rw [estopOn_eq, ← he, ← hn]
    have hwork := faultNoticed_work .estop .estop 0 e
    have hfault := raiseNotice_faulted .estop 0 (lineFault_faulted .estop e)
    rw [← hn] at hwork hfault
    have htrim := trimFault_work .estop true n
    have hecar : e.car = s.car := by rw [he]; rfl
    have hetrim : e.trim = s.trim := by rw [he]; rfl
    have hedlv : e.dlv = s.dlv := by rw [he]; rfl
    have heline : e.line = { s.line with estopLatch := true, lamps := { s.line.lamps with trim := false } } := by rw [he]; rfl
    have hfaultable : Faultable s → Faultable e := fun k => by rw [Faultable, heline]; exact k
    have hncar : n.car = (lineFault .estop e).car := by rw [hn, raiseNotice_car]
    have hnline : n.line = (lineFault .estop e).line := by
      rw [hn]
      obtain ⟨y, hy⟩ := raiseNotice_host .estop 0 (lineFault .estop e)
      rw [hy]
    obtain ⟨hlampTrim, hlatch⟩ := faulted_latch hfault (by rw [heline]) (by rw [heline]) fun k => by
      rw [hnline, lineFault_line _ k]
      rfl
    obtain ⟨m, y, z, hnt⟩ := hwork.trim
    have hstate : n.trim.state = s.trim.state := by rw [hnt, hetrim]
    have hheld : n.trim.held = s.trim.held := by rw [hnt, hetrim]
    have htables : TablesKept { s with pins := { s.pins with estopActive := true, estopLowAt := s.clock } } e := by
      rw [he]
      exact ⟨rfl, rfl, rfl, rfl, rfl, rfl, rfl, rfl⟩
    have hclamps : ClampsKept s (trimFault .estop true n) :=
      (ClampsKept.ofEq (congrArg Carousel.clamps hecar)).trans (hwork.kept.clamps.trans (.ofEq htrim.clamps))
    refine ⟨_, congrArg Host.Outcome.next hx, (htables.trans hwork.kept.tables).trans htrim.tables, hclamps, ?_⟩
    refine ⟨?_, ?_, ?_, ?_, ?_, by rw [htrim.line]; exact hlampTrim, ?_, htrim.faulted, trimFault_cause _ _ _,
      hfault.congr heline.symm htrim.line (by rw [htrim.glue]) htrim.clamps, by rw [htrim.line]; exact hlatch,
      fun hf hu => ?_, fun hf hc => ?_, fun hs => ?_, fun hf => ?_, fun hf => ?_⟩
    · rw [htrim.tickets, hwork.kept.queue, he]
      rfl
    · rw [htrim.dlv, hwork.kept.books.cooling, hedlv]
    · rw [htrim.dlv, hwork.kept.books.done, hedlv]
    · rw [htrim.dlv, hwork.kept.books.loaded, hedlv]
    · rw [htrim.dlv, hwork.kept.books.collected, hedlv]
    · have hnote := noticed_raiseNotice .estop 0 (lineFault .estop e)
      rw [← hn] at hnote
      rw [Noticed, htrim.host]
      exact hnote
    · obtain ⟨h₁, h₂⟩ := lineFault_estop (hfaultable hf) (by rw [hecar]; exact hu)
      rw [htrim.carState, htrim.phase.1, htrim.phase.2, hncar, h₁, h₂, lineFault_phase, hecar]
      exact ⟨rfl, rfl, rfl⟩
    · rw [htrim.carState, htrim.phase.1, hncar, lineFault_estop_again (by rw [heline]; exact hf) (by rw [hecar]; exact hc)]
      exact ⟨rfl, rfl⟩
    · rw [htrim.carState, hncar, lineFault_of_still _ (by rw [heline]; exact hs), hecar]
    · rw [trimFault_again _ _ (hstate.trans hf)]
      exact hheld
    · rw [(trimFault_entered .estop true (by rw [hstate]; exact hf)).2]
      obtain ⟨hin, hout⟩ := trimFaultState_held .estop n
      rw [hheld] at hin hout
      exact ⟨rfl, rfl, rfl, rfl, rfl, rfl, hin, hout⟩

end Sys2Proof.Machine

/-! PROOFS. O43: the pot's temperature and its settling window (4.4, 6.4). -/

namespace Sys2Proof.Machine

section
variable {s t u : State}

/-! ## The report of an out-of-band pot (R110) -/

theorem enterHeld_glue (h : s.glue.target.isWorking = true) :
    ∃ y, (enterHeld s).glue = { s.glue with target := y } := by
  have hfollow : (enterHeld s).glue = glueFollow .held s.settings s.glue := by
    unfold enterHeld
    rw [enterState_glue]
  have hp : potOut s = s.glue.outOfBand := if_pos h
  exact ⟨potTargetOf .held s.settings, by rw [hfollow, glueFollow_working rfl, hp]⟩

theorem lineHold_glue_working (c : HoldCause) (h : s.glue.target.isWorking = true) :
    ∃ y, (lineHold c s).glue = { s.glue with target := y } := by
  unfold lineHold
  split
  · split
    · exact enterHeld_glue h
    · exact ⟨_, rfl⟩
  · split
    · exact enterHeld_glue h
    · exact ⟨_, rfl⟩
  · exact ⟨_, rfl⟩
  · exact ⟨_, rfl⟩

theorem raiseNotice_glue (n : Notice) (x : BitVec 32) (s : State) : (raiseNotice n x s).glue = s.glue := by
  obtain ⟨y, hy⟩ := raiseNotice_host n x s
  rw [hy]

theorem lineOutOfBand_glue_working (h : s.glue.target.isWorking = true) :
    ∃ y, (lineOutOfBand s).glue = { s.glue with target := y } := by
  unfold lineOutOfBand
  simp only
  split
  · rw [raiseNotice_glue]
    exact lineHold_glue_working _ h
  · exact ⟨_, rfl⟩

theorem lineOutOfBand_moved (s : State) : LineMoved s (lineOutOfBand s) :=
  .ite (fun _ => (lineHold_moved _ (.refl s)).host (raiseNotice_host _ _ _)) fun _ => .refl s

theorem lineOutOfBand_running (h : s.line.state = .running) :
    lineOutOfBand s = raiseNotice .glueTemp 3 (lineHold .glueTemp s) :=
  if_pos (by simp [h])

/-- GLUE_TEMP in RUNNING: the notice, the cause, and HELD at once with the carousel at rest (R107, R110). -/
theorem lineOutOfBand_holds (h : s.line.state = .running) : Noticed .glueTemp 3 (lineOutOfBand s)
    ∧ (lineOutOfBand s).line.holds = { s.line.holds with glueTemp := true }
    ∧ (s.car.state = .standing ∨ s.car.state = .unhomed → (lineOutOfBand s).line.state = .held)
    ∧ (s.car.state = .indexing ∨ s.car.state = .homing → (lineOutOfBand s).line.state = .running) := by
  rw [lineOutOfBand_running h]
  obtain ⟨x, hx⟩ := raiseNotice_host .glueTemp 3 (lineHold .glueTemp s)
  refine ⟨noticed_raiseNotice _ _ _, ?_⟩
  rw [hx]
  by_cases hc : s.car.state = .standing ∨ s.car.state = .unhomed
  · rw [lineHold_atOnce _ (.inl h) hc]
    simp only [enterHeld_line]
    refine ⟨rfl, fun _ => trivial, fun hm => ?_⟩
    rcases hc with hc | hc <;> rcases hm with hm | hm <;> rw [hc] at hm <;> cases hm
  · rw [lineHold_pending _ (.inl h) hc]
    exact ⟨rfl, fun hc' => absurd hc' hc, fun _ => h⟩

/-! ## A reading (R76 to R78) -/

/-- The pot's record with a reading, before the band is tested. -/
def potRead (x : Nat) (s : State) : GlueUnit :=
  { potAfterReading s.clock x s.settings.workTemp s.glue with reading := some x }

theorem glueReading_eq (x : Nat) (s : State) : glueReading x s = testBand { s with glue := potRead x s } := rfl

/-- The settling window that a reading in the working band starts and one outside it ends (R77). -/
theorem potRead_cond (x : Nat) (s : State) :
    let near := x ≤ s.settings.workTemp + 3 ∧ s.settings.workTemp ≤ x + 3
    (near → s.glue.cond = .notAtTemp → (potRead x s).cond = .settling ∧ (potRead x s).window = some s.clock)
    ∧ (near → s.glue.cond ≠ .notAtTemp → (potRead x s).cond = s.glue.cond ∧ (potRead x s).window = s.glue.window)
    ∧ (¬near → (potRead x s).cond = .notAtTemp ∧ (potRead x s).window = none) := by
  intro near
  have hband : inWorkingBand x s.settings.workTemp = decide near := rfl
  refine ⟨fun hn hc => ?_, fun hn hc => ?_, fun hn => ?_⟩
  · simp [potRead, potAfterReading, hband, hn, hc]
  · simp [potRead, potAfterReading, hband, hn, hc]
  · simp [potRead, potAfterReading, hband, hn]

theorem potRead_target (x : Nat) (s : State) : (potRead x s).target = s.glue.target
    ∧ (potRead x s).outOfBand = s.glue.outOfBand := by
  unfold potRead potAfterReading
  split_ifs <;> exact ⟨rfl, rfl⟩

/-- The out-of-band condition after a reading (R78). -/
def bandAfter (x : Nat) (s : State) : Bool :=
  if s.glue.target.isWorking = true then decide (s.settings.workTemp + 8 < x ∨ x + 8 < s.settings.workTemp)
  else s.glue.outOfBand

/-- The pot after a reading, with the condition that the test finds. -/
def potTested (x : Nat) (s : State) : State :=
  { s with glue := { potRead x s with outOfBand := bandAfter x s } }

theorem glueReading_tested (x : Nat) (s : State) : glueReading x s =
    if bandAfter x s = true ∧ s.glue.outOfBand = false then lineOutOfBand (potTested x s) else potTested x s := by
  obtain ⟨ht, ho⟩ := potRead_target x s
  rw [glueReading_eq, testBand]
  by_cases hw : s.glue.target.isWorking = true
  · have hb : outOfBandOf (potRead x s).reading s.settings.workTemp = bandAfter x s := by
      rw [bandAfter, if_pos hw]
      exact decide_eq_decide.mpr (by omega)
    rw [if_pos (show (potRead x s).target.isWorking = true by rw [ht]; exact hw)]
    simp only [hb, ho, Bool.and_eq_true, Bool.not_eq_true']
    rfl
  · have hb : bandAfter x s = s.glue.outOfBand := if_neg hw
    rw [if_neg (show ¬(potRead x s).target.isWorking = true by rw [ht]; exact hw), hb,
      if_neg (by rintro ⟨h₁, h₂⟩; rw [h₁] at h₂; cases h₂), potTested, hb, ← ho]

/-- A reading leaves the bus and the carousel alone, and the pot's record but its target as it is found (R76). -/
theorem glueReading_moved (x : Nat) (s : State) : LineMoved (potTested x s) (glueReading x s)
    ∧ ∃ y, (glueReading x s).glue = { (potTested x s).glue with target := y } := by
  rw [glueReading_tested]
  split
  · next h =>
    refine ⟨lineOutOfBand_moved _, lineOutOfBand_glue_working ?_⟩
    show (potRead x s).target.isWorking = true
    rw [(potRead_target x s).1]
    by_contra hw
    have hb : bandAfter x s = s.glue.outOfBand := if_neg hw
    rw [← hb, h.1] at h
    cases h.2
  · exact ⟨.refl _, _, rfl⟩

/-- A node's jobs outside a dwell: none is taken (R154). -/
theorem takeJobs_of_not_dwelling {tag : Byte} {n : NodeId} {l : List (Station × JobAnswer)}
    (h : s.car.state ≠ .dwelling) : takeJobs tag n l s = s := by
  have hnone : ∀ st, takeStatus l st s = s := fun st => by
    unfold takeStatus
    split
    · rfl
    · exact if_pos (by simp [h])
  unfold takeJobs
  split
  · generalize nodeStations n = stations
    induction stations with
    | nil => rfl
    | cons st rest ih => exact (congrArg (fun u => List.foldl _ u rest) (hnone st)).trans ih
  · rfl

/-- GLUE's answer outside a dwell: the reading is taken, and the slot closes. -/
theorem exec_glueAnswers {tag : Byte} {x : Nat} (hlive : s.pins.inReset = false)
    (hb : s.bus.current = some (.poll tag 3)) (hc : s.car.state ≠ .dwelling) :
    exec (.slotAnswer .glue [] (some x) ⟨false, true⟩) s
      = .next (slotClosed (dwellCheck (glueReading x (slotHeard .glue s)))) := by
  show Host.Outcome.next (live (slotAnswered .glue [] (some x) false) s) = _
  rw [live_next _ s hlive, slotAnswered]
  have hb' : (clearOut s).bus.current = some (.poll tag 3) := hb
  have hn : nodeAnswered .glue false (clearOut s) = slotHeard .glue s := nodeAnswered_station .spine s
  simp only [hb', hn]
  rw [takeJobs_of_not_dwelling (s := slotHeard .glue s) hc]
  rfl

/-! ## The settling window's end (R77, R104) -/

/-- The pot AT_TEMP, its window ended. -/
def potSettled (s : State) : State := { s with glue := { s.glue with cond := .atTemp, window := none } }

theorem potSettled_kept (s : State) : LineKept s (potSettled s) :=
  ⟨⟨rfl, rfl, rfl, rfl, rfl, rfl, rfl, rfl⟩, ⟨rfl, rfl, rfl, rfl, rfl, rfl⟩, .ofEq rfl, rfl⟩

theorem glueSettled_warming (h : s.line.state = .warming) :
    glueSettled s = tellCarousel (enterRunning (potSettled s)) := if_pos (beq_iff_eq.mpr h)

theorem glueSettled_still (h₁ : s.line.state ≠ .warming) (h₂ : s.line.state ≠ .held) :
    glueSettled s = potSettled s := by
  refine (if_neg (by simpa using h₁)).trans (if_neg ?_)
  simp [h₂]

/-- The at-temperature condition is not the line's (R77). -/
def SameTemp (s t : State) : Prop := t.glue.cond = s.glue.cond ∧ t.glue.window = s.glue.window

theorem enterState_sameTemp (l : LineState) {u : State} (h : SameTemp s u) : SameTemp s (enterState l u) := by
  rw [SameTemp, enterState_glue]
  exact h

theorem enterRunning_sameTemp (s : State) : SameTemp s (enterRunning s) := by
  have h : SameTemp s (entryTests (enterState .running { s with line := runningLine s })) := by
    obtain ⟨x, hx⟩ := entryTests_host (enterState .running { s with line := runningLine s })
    have k := enterState_sameTemp .running (u := { s with line := runningLine s }) (s := s) ⟨rfl, rfl⟩
    rw [hx]
    exact k
  show SameTemp s (if _ then enterHeld _ else if _ then startStandby _ else _)
  split
  · exact enterState_sameTemp .held h
  · split
    · exact h
    · exact h

theorem lineFault_sameTemp (c : FaultCause) (h : Faultable s) : SameTemp s (lineFault c s) := by
  rw [lineFault_of_faultable c h, SameTemp, (carFault_stopped _ _).glue]
  obtain ⟨x, hx⟩ := faultEntered_eq c s
  rw [hx]
  exact ⟨rfl, rfl⟩

/-- What a line that has been told leaves of WARMING's end, with DRIVE in touch or without. -/
theorem WentOrLost.counts (h : WentOrLost s t) (hm : MovesOn s) (hw : s.line.warmTimer = none) : LineKept s t
    ∧ SameTemp s t ∧ t.line.warmTimer = none ∧ t.car.diverts = s.car.diverts ∧ t.cover.mismatch = s.cover.mismatch := by
  have hwent : ∀ {u}, WentOn s u → LineKept s u ∧ SameTemp s u ∧ u.line.warmTimer = none
      ∧ u.car.diverts = s.car.diverts ∧ u.cover.mismatch = s.cover.mismatch := fun {u} k => by
    obtain ⟨x, hx, -⟩ := k.line
    exact ⟨k.kept, ⟨by rw [k.glue], by rw [k.glue]⟩, by rw [hx]; exact hw, k.diverts, k.mismatch⟩
  rcases h with k | ⟨-, u, k, rfl⟩
  · exact hwent k
  · obtain ⟨h₁, h₂, -, h₄, h₅⟩ := hwent k
    have hf : Faultable u := by
      rcases (hm.went k).moving with e | e <;> simp [Faultable, e]
    have hwork := lineFault_work .nodeLost u
    have htemp := lineFault_sameTemp .nodeLost hf
    obtain ⟨_, _, _, _, _, _, hc⟩ := hwork.car
    exact ⟨h₁.trans hwork.kept, ⟨htemp.1.trans h₂.1, htemp.2.trans h₂.2⟩, by rw [lineFault_line _ hf]; rfl,
      by rw [hc]; exact h₄, hwork.mismatch.trans h₅⟩

theorem enterRunning_homing (hc : s.car.state = .homing) : (enterRunning s).line.state = .running
    ∧ (enterRunning s).line.warmTimer = none ∧ (enterRunning s).line.holds.guardOpen = anyGuardOpen s
    ∧ (enterRunning s).line.holds.coverEmpty = coverEmptyClosed s ∧ (enterRunning s).car = { s.car with diverts := 0 }
    ∧ (enterRunning s).cover.mismatch = 0 := by
  obtain ⟨v, ⟨hl, hcar, hm⟩, he⟩ := enterRunning_eq s
  have hcv : v.car.state = .homing := by rw [hcar]; exact hc
  have hev : enterRunning s = v := by rw [he]; simp [holdsAtOnce, hcv]
  rw [hev, hl, hcar]
  exact ⟨rfl, rfl, rfl, rfl, rfl, hm⟩

/-- A carousel that moves is not told anything. -/
theorem tellCarousel_homing (hc : s.car.state = .homing) : tellCarousel s = s := by
  unfold tellCarousel carTold tellFuel
  simp only [hc]

/-- What entering RUNNING leaves in every case. -/
theorem enterRunning_counts (s : State) : (enterRunning s).line.warmTimer = none ∧ (enterRunning s).car.diverts = 0
    ∧ (enterRunning s).cover.mismatch = 0 ∧ (enterRunning s).car.state = s.car.state := by
  obtain ⟨v, ⟨hl, hcar, hm⟩, he⟩ := enterRunning_eq s
  have hv : v.line.warmTimer = none ∧ v.car.diverts = 0 ∧ v.cover.mismatch = 0 ∧ v.car.state = s.car.state := by
    rw [hl, hcar]
    exact ⟨rfl, rfl, hm, rfl⟩
  rw [he]
  split
  · rw [enterHeld_line, enterHeld_car]
    refine ⟨hv.1, hv.2.1, ?_, hv.2.2.2⟩
    unfold enterHeld
    rw [enterState_mismatch]
    exact hv.2.2.1
  · split
    · exact hv
    · exact hv

/-- RUNNING entered with an empty carousel that stands starts the standby timer (R106). -/
theorem enterRunning_empty (h : EntryClear s) (hc : s.car.state = .standing) (hl : anyLoaded s = false) :
    (enterRunning s).line.standbyTimer = some (s.clock, s.settings.standbyDelay * 1000) := by
  have hkept := enterRunning_kept (.refl s)
  obtain ⟨v, ⟨hline, hcar, -⟩, he⟩ := enterRunning_eq s
  obtain ⟨hg, hcov, hp⟩ := entryClear_iff.1 h
  have hany : v.line.holds.any = false := by rw [hline, hg, hcov, hp]; rfl
  have hstand : (v.car.state == .standing) = true := by rw [hcar]; exact beq_iff_eq.mpr hc
  have hempty : anyLoaded v = false := (anyLoaded_of_clamps (s := s) (by rw [hcar]; rfl)).trans hl
  have hv : enterRunning s = startStandby v := by
    rw [he, hany, hstand, hempty]
    rfl
  rw [← hkept.tables.clock, ← hkept.tables.settings, hv]
  rfl

/-- An empty carousel that has worked and has nothing to load stands, and the standby timer runs (R54, R106). -/
theorem tellCarousel_empty (hr : s.line.state = .running) (hh : s.line.holds.any = false)
    (hc : s.car.state = .standing) (hw : s.car.worked = true) (hl : anyLoaded s = false) (hq : s.tickets.queue = []) :
    tellCarousel s = s := by
  have hm : moving s = true := by simp [moving, hr]
  have hs : setCarState .standing s = s := by rw [setCarState, ← hc]
  have hfresh : freshLoadCondition s = false := by simp [freshLoadCondition, hq]
  have hstand : ∀ again, carStood again false true s = s := fun again => by
    simp [carStood, hr, hh, hfresh]
  have hload : ∀ c, loadedAt s c = false := fun c =>
    Bool.eq_false_iff.mpr fun h => absurd (anyLoaded_iff.2 ⟨c, h⟩) (by rw [hl]; nofun)
  have hwork : indexWork s = false := by simp [indexWork, hl, hq]
  unfold tellCarousel carTold tellFuel
  simp only [hc, hm, hw, if_true]
  unfold carDecide
  simp only [hs, hm, hh, hr, beq_self_eq_true, hstand, hload, hwork]
  cases clampAt s 11 <;> rfl

end

/-- Settles O43: the reading and the band outside a dwell, and the settling window's end by line state. -/
theorem potFollowsReadings : Obligations.PotFollowsReadings := by
  unfold Obligations.PotFollowsReadings
  intro s hlive
  refine ⟨?reading, ?window⟩
  case reading =>
    intro tag x hb hc work near oob news u
    obtain ⟨h, hh⟩ : ∃ h, h = slotHeard .glue s := ⟨_, rfl⟩
    obtain ⟨g, hg⟩ : ∃ g, g = glueReading x h := ⟨_, rfl⟩
    obtain ⟨hmoved, y, hglue⟩ := glueReading_moved x h
    rw [← hg] at hmoved hglue
    have hcar : h.car.state = s.car.state := by rw [hh]; rfl
    have hpoll : g.bus.current = some (.poll tag 3) := by rw [hmoved.bus, hh]; exact hb
    have hband : bandAfter x h = oob := by rw [hh]; rfl
    have hold : h.glue.outOfBand = s.glue.outOfBand := by rw [hh]; rfl
    have hx : exec (.slotAnswer .glue [] (some x) ⟨false, true⟩) s
        = .next { g with bus := { g.bus with current := some (.poll tag 4) } } := by
      rw [exec_glueAnswers hlive hb hc, ← hh, ← hg,
        dwellCheck_of_stopped (.inl (by rw [hmoved.carState]; exact fun k => hc (hcar.symm.trans k))),
        slotClosed_of_poll hpoll]
    have hkept : LineKept s g := by
      rw [hg, glueReading_eq, hh]
      exact testBand_kept ((slotHeard_kept .glue s).next ⟨rfl, rfl, rfl, (potAfterReading_family _ _ _ _), rfl, rfl, rfl, rfl⟩
        ⟨rfl, rfl, rfl, rfl, rfl, rfl⟩ rfl rfl)
    obtain ⟨hnear, hnear', hfar⟩ := potRead_cond x h
    have hcond : (near → s.glue.cond = .notAtTemp → g.glue.cond = .settling ∧ g.glue.window = some s.clock)
        ∧ (near → s.glue.cond ≠ .notAtTemp → g.glue.cond = s.glue.cond ∧ g.glue.window = s.glue.window)
        ∧ (¬near → g.glue.cond = .notAtTemp ∧ g.glue.window = none) := by
      rw [hglue]
      rw [hh] at hnear hnear' hfar ⊢
      exact ⟨hnear, hnear', hfar⟩
    refine ⟨_, hx, slot_kept hkept _, by rw [hglue]; rfl, hcond.1, hcond.2.1, hcond.2.2, ?_, rfl, fun hno => ?_, fun hn hr => ?_⟩
    · rw [hglue, ← hband]
      rfl
    · have hgt : g = potTested x h := by
        rw [hg, glueReading_tested, if_neg (by rw [hband, hold]; exact hno)]
      refine ⟨?_, ?_⟩
      · rw [hgt, hh]
        rfl
      · rw [hgt]
        exact (potRead_target x h).1.trans (by rw [hh]; rfl)
    · have hgt : g = lineOutOfBand (potTested x h) := by
        rw [hg, glueReading_tested, if_pos (by rw [hband, hold]; exact hn)]
      obtain ⟨h₁, h₂, h₃, h₄⟩ := lineOutOfBand_holds (s := potTested x h) (by rw [hh]; exact hr)
      rw [← hgt] at h₁ h₂ h₃ h₄
      refine ⟨h₁, h₂.trans (by rw [hh]; rfl), fun k => h₃ ?_, fun k => h₄ ?_⟩
      · rw [hh]
        exact k
      · rw [hh]
        exact k
  case window =>
    intro out
    have hexec : exec .glueSettlingWindow s = .next (glueWindow (clearOut s)) :=
      congrArg Host.Outcome.next (live_next glueWindow s hlive)
    have hdue : (s.glue.cond == .settling && startDue s.clock s.glue.window Config.potWindow) = true ↔ out := by
      rw [Bool.and_eq_true, beq_iff_eq, startDue_iff]
      exact .rfl
    have hsettled : out → exec .glueSettlingWindow s = .next (glueSettled (clearOut s)) := fun h =>
      hexec.trans (congrArg _ (if_pos (hdue.2 h)))
    have hkept : LineKept s (potSettled (clearOut s)) := (clearOut_kept s).trans (potSettled_kept _)
    refine ⟨fun h => hexec.trans (congrArg _ (if_neg fun k => h (hdue.1 k))), fun h h₁ h₂ => ?_, fun h hw hm => ?_,
      fun h hw hr => ?_⟩
    · rw [hsettled h, glueSettled_still (s := clearOut s) h₁ h₂]
      rfl
    · obtain ⟨e₁, e₂, e₃, e₄, e₅, e₆⟩ := enterRunning_homing (s := potSettled (clearOut s)) hm
      have ht := tellCarousel_homing (s := enterRunning (potSettled (clearOut s))) (by rw [e₅]; exact hm)
      refine ⟨_, (hsettled h).trans (congrArg _ ((glueSettled_warming (s := clearOut s) hw).trans ht)),
        enterRunning_kept hkept, (enterRunning_sameTemp _).1, e₁, e₂, e₃, e₄, by rw [e₅]; exact hm, by rw [e₅], e₆⟩
    · obtain ⟨w, hw'⟩ : ∃ w, w = potSettled (clearOut s) := ⟨_, rfl⟩
      have hx := (hsettled h).trans (congrArg Host.Outcome.next (glueSettled_warming (s := clearOut s) hw))
      rw [← hw'] at hx hkept
      have hclear : EntryClear w ↔ EntryClear s := by
        rw [hw']
        exact ⟨fun h => ⟨h.guards, h.covers, h.band, h.heat⟩, fun h => ⟨h.guards, h.covers, h.band, h.heat⟩⟩
      have hwcar : w.car = s.car := by rw [hw']; rfl
      have htemp : SameTemp w (enterRunning w) := enterRunning_sameTemp w
      have hcond : w.glue.cond = .atTemp ∧ w.glue.window = none := by rw [hw']; exact ⟨rfl, rfl⟩
      obtain ⟨c₁, c₂, c₃, c₄⟩ := enterRunning_counts w
      by_cases hc : EntryClear s
      · have hm := enterRunning_movesOn (hclear.2 hc)
        obtain ⟨k₁, k₂, k₃, k₄, k₅⟩ := (carTold_went tellFuel hm).counts hm c₁
        refine ⟨_, hx, (enterRunning_kept hkept).trans k₁, k₂.1.trans (htemp.1.trans hcond.1),
          k₂.2.trans (htemp.2.trans hcond.2), k₃, k₄.trans c₂, k₅.trans c₃, fun k => absurd hc k, fun _ hd => ?_⟩
        have hdw : present w .drive = true := by rw [hw']; exact hd
        obtain ⟨y, hline⟩ := (enterRunning_runsOn (hclear.2 hc) hdw).line
        have hmoving : moving (enterRunning w) = true := by rcases hm.moving with e | e <;> simp [moving, e]
        refine ⟨by rw [hline], by rw [hline]; rfl, fun hu => ?_, fun hs hwork hl hq => ?_⟩
        · have k := tellCarousel_homes (s := enterRunning w) (by rw [c₄, hwcar]; exact hu)
            (enterRunning_goesOn (hclear.2 hc) hdw).drive (.inl hmoving)
          obtain ⟨_, _, kcar⟩ := k.car
          exact ⟨by rw [kcar], k.asked⟩
        · have hmoved := enterRunning_moved (.refl w)
          have hwl : anyLoaded w = false := (anyLoaded_of_clamps (by rw [hwcar])).trans hl
          rw [tellCarousel_empty (s := enterRunning w) (hm.moving.resolve_right fun e => ?_) hm.holds
            (by rw [c₄, hwcar]; exact hs) (by rw [hmoved.worked, hwcar]; exact hwork)
            ((anyLoaded_of_clamps hmoved.clamps).trans hwl) (by rw [(enterRunning_kept (.refl w)).queue, hw']; exact hq)]
          · refine ⟨by rw [c₄, hwcar]; exact hs, ?_⟩
            rw [enterRunning_empty (hclear.2 hc) (by rw [hwcar]; exact hs) hwl, hw']
            rfl
          · obtain ⟨z, hz, -⟩ := enterRunning_clear (hclear.2 hc)
            rw [hz] at e
            cases e
      · obtain ⟨e₁, e₂, e₃⟩ := enterRunning_held (mt hclear.1 hc) (by rw [hwcar]; exact hr)
        rw [tellCarousel_held e₁] at hx
        refine ⟨_, hx, enterRunning_kept hkept, htemp.1.trans hcond.1, htemp.2.trans hcond.2, c₁, c₂, c₃,
          fun _ => ⟨e₁, e₂, by rw [c₄, hwcar], ?_, ?_⟩, fun k => absurd k hc⟩
        · rw [e₃, hw']
          rfl
        · rw [e₃, hw']
          rfl

end Sys2Proof.Machine

/-! PROOFS. The Delivery Unit, the trimmer and the contacts' owners keep the tables, the settings, the contacts and the
pins: one lemma per operation. -/

namespace Sys2Proof.Machine

section
variable {s t : State}

theorem TablesKept.refl (s : State) : TablesKept s s := ⟨rfl, rfl, rfl, rfl, rfl, rfl, rfl, rfl⟩

theorem TablesKept.ite {p : Prop} [Decidable p] {u : State} (h : p → TablesKept s t) (k : ¬p → TablesKept s u) :
    TablesKept s (if p then t else u) := by
  split
  · exact h ‹_›
  · exact k ‹_›

theorem TablesKept.dlv (h : TablesKept s t) (d : Delivery) : TablesKept s { t with dlv := d } :=
  h.trans ⟨rfl, rfl, rfl, rfl, rfl, rfl, rfl, rfl⟩

theorem TablesKept.trim (h : TablesKept s t) (x : Trimmer) : TablesKept s { t with trim := x } :=
  h.trans ⟨rfl, rfl, rfl, rfl, rfl, rfl, rfl, rfl⟩

theorem LineKept.thenTables {u : State} (h : LineKept t u) (k : TablesKept s t) : TablesKept s u := k.trans h.tables

/-! ## The gate and the done list -/

theorem beginPush_tables (g : Gate) (k : ReqKind) (h : TablesKept s t) : TablesKept s (beginPush g k t) :=
  (h.dlv _).trans (handRequest_busWork _ _ _).tables

theorem headDecision_tables (h : TablesKept s t) : TablesKept s (headDecision t) :=
  (headDecision_kept (.refl t)).thenTables h

theorem startHeadTimer_tables (h : TablesKept s t) : TablesKept s (startHeadTimer t) := by
  obtain ⟨x, hx⟩ := startHeadTimer_eq t
  rw [hx]
  exact h.dlv _

theorem roomReport_tables (h : TablesKept s t) : TablesKept s (roomReport t) := by
  unfold roomReport
  split
  · exact .ite (fun _ => (handOver_kept _ (updateJob_kept _ _ (.refl t))).thenTables h) fun _ => h
  · exact h

theorem removeHead_tables (h : TablesKept s t) : TablesKept s (removeHead t) := by
  have k := startHeadTimer_tables (h.dlv { t.dlv with cooling := t.dlv.cooling.drop 1 })
  exact .ite (fun _ => roomReport_tables k) fun _ => k

theorem writeDone_tables (b : Book) (o : BookOutcome) (h : TablesKept s t) : TablesKept s (writeDone b o t) := by
  obtain ⟨x, hx⟩ := writeDone_host b o t
  rw [hx]
  exact h.trans ⟨rfl, rfl, rfl, rfl, rfl, rfl, rfl, rfl⟩

theorem setBook_tables (c : Fin 20) (b : Option Book) (h : TablesKept s t) : TablesKept s (setBook c b t) :=
  h.trans ⟨rfl, rfl, rfl, rfl, rfl, rfl, rfl, rfl⟩

theorem writeHolder_tables (x : Holder) (h : TablesKept s t) : TablesKept s (writeHolder x t) := by
  unfold writeHolder
  split
  · split
    · exact writeDone_tables _ _ (setBook_tables _ _ h)
    · exact h
  · split
    · exact (writeDone_tables _ _ (removeHead_tables h)).dlv _
    · exact h
  · split
    · have k := fun b => writeDone_tables b (exitOutcome t.trim.dest) (h.trim { t.trim with held := .none })
      exact .ite (fun _ => (k _).trim _) fun _ => k _
    · exact h

theorem writeOrWait_tables (x : Holder) (h : TablesKept s t) : TablesKept s (writeOrWait x t) :=
  .ite (fun _ => writeHolder_tables x h) fun _ => h.dlv _

theorem pushLost_tables (h : TablesKept s t) : TablesKept s (pushLost t) := by
  have k := (giveUp_kept (fun r => isPush r.kind) (.refl t)).thenTables h
  unfold pushLost
  simp only
  split
  · exact k.dlv _
  · refine headDecision_tables ((raiseNotice_kept _ _ (lineFault_kept _ (.refl _))).thenTables (TablesKept.dlv ?_ _))
    exact writeOrWait_tables _ ((k.dlv _).dlv _)

/-! ## The trimmer -/

theorem trimFault_tables (c : TrimCause) (a : Bool) (h : TablesKept s t) : TablesKept s (trimFault c a t) :=
  h.trans (trimFault_work c a t).tables

theorem trimRequest_tables (k : ReqKind) (h : TablesKept s t) : TablesKept s (trimRequest k t) :=
  .ite (fun _ => h.trans (handRequest_busWork _ _ t).tables) fun _ => trimFault_tables _ _ h

theorem trimStep_tables (x : TrimState) (k : StepKind) (h : TablesKept s t) : TablesKept s (trimStep x k t) :=
  trimRequest_tables _ (h.trim _)

theorem giveUp_tables (p : Request → Bool) (h : TablesKept s t) : TablesKept s (giveUp p t) :=
  (giveUp_kept p (.refl t)).thenTables h

theorem modifyHeld_tables (f : Book → Book) (h : TablesKept s t) : TablesKept s (modifyHeld f t) := h.trim _

theorem beginClamping_tables (h : TablesKept s t) : TablesKept s (beginClamping t) :=
  trimStep_tables _ _ (modifyHeld_tables _ ((giveUp_tables _ h).trim _))

theorem positionDecision_tables (h : TablesKept s t) : TablesKept s (positionDecision t) := by
  unfold positionDecision
  split
  · exact h
  · exact .ite (fun _ => trimRequest_tables _ (h.trim _)) fun _ => beginClamping_tables (h.trim _)

theorem trimTake_tables (b : Book) (h : TablesKept s t) : TablesKept s (trimTake b t) :=
  .ite (fun _ => h.trim _) fun _ => .ite (fun _ => h.trim _) fun _ => positionDecision_tables (h.trim _)

theorem beginEject_tables (h : TablesKept s t) : TablesKept s (beginEject t) :=
  .ite (fun _ => (h.trim _).trim _) fun _ => trimStep_tables _ _ (h.trim _)

theorem raiseNotice_tables (n : Notice) (x : BitVec 32) (h : TablesKept s t) : TablesKept s (raiseNotice n x t) :=
  (raiseNotice_kept n x (.refl t)).thenTables h

theorem stepFailed_tables (b : Bool) (h : TablesKept s t) : TablesKept s (stepFailed b t) := by
  have k := giveUp_tables isTrimWork (h.trim { t.trim with stepTimer := none, settleTimer := .stopped })
  have habort : ∀ u, TablesKept s u → TablesKept s (if b then abortTrimmer u else u) := fun u hu =>
    .ite (fun _ => (abortTrimmer_kept (.refl u)).thenTables hu) fun _ => hu
  have hnote : ∀ u, TablesKept s u → TablesKept s (raiseNotice .trimmerFault (heldId t)
      (modifyHeld (fun b => b.withReason .trim) { u with trim := { u.trim with pendingFault := some .trimmerFault } })) :=
    fun u hu => raiseNotice_tables _ _ (modifyHeld_tables _ (hu.trim _))
  have n := hnote _ (habort _ k)
  exact .ite (fun _ => trimFault_tables _ _ n) fun _ => beginEject_tables (n.trim _)

theorem afterTrimmer_tables (h : TablesKept s t) : TablesKept s (afterTrimmer t) :=
  .ite (fun _ => headDecision_tables h) fun _ => h

theorem exitConfirmed_tables (h : TablesKept s t) : TablesKept s (exitConfirmed t) :=
  afterTrimmer_tables (writeOrWait_tables _ (h.trim _))

theorem nextStep_tables (h : TablesKept s t) : TablesKept s (nextStep t) := by
  unfold nextStep
  split
  · exact trimStep_tables _ _ h
  · exact trimStep_tables _ _ h
  · exact trimStep_tables _ _ (h.trim _)
  · exact h

theorem settleTimedOut_tables (h : TablesKept s t) : TablesKept s (settleTimedOut t) := by
  have k := modifyHeld_tables (fun b => b.withReason .trim) (giveUp_tables isTrimWork (h.trim { t.trim with
    settleTimer := .stopped, settleCount := min 2 (t.trim.settleCount + 1) }))
  unfold settleTimedOut
  exact beginEject_tables (TablesKept.trim (.ite (fun _ => raiseNotice_tables _ _ (k.trim _)) fun _ => k) _)

theorem guardResumed_tables (h : TablesKept s t) : TablesKept s (guardResumed t) := by
  have k := h.trim { t.trim with guardPause := false }
  unfold guardResumed
  simp only
  split
  · exact positionDecision_tables k
  · exact .ite (fun _ => beginClamping_tables k) fun _ => .ite (fun _ => settleTimedOut_tables k) fun _ => k
  · exact .ite (fun _ => nextStep_tables k) fun _ => k
  · exact .ite (fun _ => nextStep_tables k) fun _ => k
  · exact .ite (fun _ => nextStep_tables k) fun _ => k
  · exact .ite (fun _ => trimStep_tables _ _ k) fun _ => k
  · exact k

/-! ## Confirms -/

theorem pushConfirmed_tables (h : TablesKept s t) : TablesKept s (pushConfirmed t) := by
  unfold pushConfirmed
  split
  · exact headDecision_tables (writeOrWait_tables _ (h.dlv _))
  · split
    · exact headDecision_tables (trimTake_tables _ (removeHead_tables (h.dlv _)))
    · exact h.dlv _
  · exact h

theorem pushContact_tables (g : Gate) (h : TablesKept s t) : TablesKept s (pushContact g t) := by
  unfold pushContact
  refine .ite (fun _ => ?_) fun _ => h
  split
  · exact pushConfirmed_tables h
  · exact h.dlv _

theorem endRelease_tables (h : TablesKept s t) : TablesKept s (setOverrun .release 0 (endJob .release .done t)) :=
  (setOverrun_kept _ _ (endJob_kept _ _ (.refl t))).thenTables h

theorem dropConfirmed_tables (c : Fin 20) (h : TablesKept s t) : TablesKept s (dropConfirmed c t) := by
  unfold dropConfirmed
  split
  · exact h.dlv _
  · next b _ =>
    have k : TablesKept s (dropMoved c b t) := h.trans (dropMoved_tables c b t)
    have hjob : TablesKept s (redecide false (match jobAt (dropMoved c b t) .release with
        | some j => if j.ended then dropMoved c b t else setOverrun .release 0 (endJob .release .done (dropMoved c b t))
        | none => dropMoved c b t)) := by
      refine (redecide_kept false (.refl _)).thenTables ?_
      split
      · exact .ite (fun _ => k) fun _ => endRelease_tables k
      · exact k
    exact .ite (fun _ => headDecision_tables (startHeadTimer_tables hjob)) fun _ => hjob

theorem dropContact_tables (h : TablesKept s t) : TablesKept s (dropContact t) := by
  unfold dropContact
  split
  · exact (dwellCheck_kept (.refl _)).thenTables (dropConfirmed_tables _ h)
  · exact .ite (fun _ => h.dlv _) fun _ => h

/-! ## Contacts -/

theorem exitContact_tables (e : Exit) (h : TablesKept s t) : TablesKept s (exitContact e t) := by
  unfold exitContact
  refine .ite (fun _ => ?_) fun _ => h
  split
  · exact exitConfirmed_tables h
  · exact .ite (fun _ => h.trim _) fun _ => h

theorem drawLimit_tables (l : Limit) (h : TablesKept s t) : TablesKept s (drawLimit l t) :=
  (updateJob_kept _ _ (.refl t)).thenTables h

theorem lineHold_tables (c : HoldCause) (h : TablesKept s t) : TablesKept s (lineHold c t) :=
  (lineHold_kept c (.refl t)).thenTables h

theorem guardOpened_tables (i : Fin 64) (h : TablesKept s t) : TablesKept s (guardOpened i t) :=
  .ite (fun _ => raiseNotice_tables _ _ (lineHold_tables _ h)) fun _ => h

theorem drainReleaseTest_tables (h : TablesKept s t) : TablesKept s (drainReleaseTest t) :=
  (drainReleaseTest_kept (.refl t)).thenTables h

theorem contactChange_tables (i : Nat) (c : Bool) (h : TablesKept s t) : TablesKept s (contactChange i c t) := by
  unfold contactChange
  split
  · exact (wakeTest_kept (freshTest_kept (.refl t))).thenTables h
  · exact dropContact_tables h
  · exact pushContact_tables _ h
  · exact exitContact_tables _ h
  · exact pushContact_tables _ h
  · exact exitContact_tables _ h
  · exact raiseNotice_tables _ _ h
  · exact drawLimit_tables _ (raiseNotice_tables _ _ (lineHold_tables _ h))
  · exact drainReleaseTest_tables (drawLimit_tables _ h)
  · exact raiseNotice_tables _ _ ((lineFault_kept _ (.refl t)).thenTables h)
  · exact guardResumed_tables h
  · exact h.trim _
  · exact raiseNotice_tables _ _ (lineHold_tables _ h)
  · exact raiseNotice_tables _ _ (trimFault_tables _ _ h)
  · exact .ite (fun _ => .ite (fun _ => drainReleaseTest_tables h) fun _ => guardOpened_tables _ h) fun _ => h

theorem takeChanges_tables (l : List (Fin 64 × Bool)) (h : TablesKept s t) : TablesKept s (takeChanges l t) := by
  unfold takeChanges
  induction l generalizing t with
  | nil => exact h
  | cons e l ih => exact ih (contactChange_tables _ _ h)

theorem ghostNotices_tables (v w : Vector Contact 64) (h : TablesKept s t) : TablesKept s (ghostNotices v w t) := by
  unfold ghostNotices
  generalize guards.filter _ = l
  induction l generalizing t with
  | nil => exact h
  | cons i l ih => exact ih (raiseNotice_tables _ _ h)

end

end Sys2Proof.Machine

/-! PROOFS. O46: a scan's pass (10.1 to 10.3). -/

namespace Sys2Proof.Machine

section
variable {first : Bool} {r : BitVec 64} {v : Vector Contact 64} {i k : Fin 64}

/-! ## What the pass leaves of one contact -/

theorem scanPass_get_of_not_mem {l : List (Fin 64)} (h : k ∉ l) : (scanPass first r l v)[k] = v[k] := by
  unfold scanPass
  induction l generalizing v with
  | nil => rfl
  | cons i l ih =>
    rw [List.mem_cons, not_or] at h
    exact (ih h.2).trans (get_set_ne _ h.1)

theorem scanPass_append (a b : List (Fin 64)) :
    scanPass first r (a ++ b) v = scanPass first r b (scanPass first r a v) := List.foldl_append

/-- The contacts before one in the pass. -/
def before (i : Fin 64) : List (Fin 64) := (List.finRange 64).take i

/-- The contacts after one in the pass. -/
def after (i : Fin 64) : List (Fin 64) := (List.finRange 64).drop (i + 1)

theorem finRange_split (i : Fin 64) : List.finRange 64 = before i ++ i :: after i := by
  have h : i.val < (List.finRange 64).length := by rw [List.length_finRange]; exact i.isLt
  have hi : (List.finRange 64)[i.val] = i := by simp
  rw [before, after]
  conv_lhs => rw [← List.take_append_drop i.val (List.finRange 64), List.drop_eq_getElem_cons h, hi]

theorem mem_before : k ∈ before i ↔ k < i := by
  rw [before, List.mem_take_iff_getElem]
  constructor
  · rintro ⟨j, hj, e⟩
    rw [List.getElem_finRange] at e
    have : k.val = j := by rw [← e]; rfl
    rw [Fin.lt_def, this]
    omega
  · intro h
    exact ⟨k.val, by rw [List.length_finRange]; omega, by simp⟩

theorem mem_after : k ∈ after i ↔ i < k := by
  rw [after, List.mem_drop_iff_getElem]
  constructor
  · rintro ⟨j, hj, e⟩
    rw [List.getElem_finRange] at e
    have : k.val = i.val + 1 + j := by rw [← e]; rfl
    rw [Fin.lt_def, this]
    omega
  · intro h
    exact ⟨k.val - (i.val + 1), by rw [List.length_finRange]; omega,
      Fin.ext (by simp only [List.getElem_finRange, Fin.val_cast]; omega)⟩

/-- The table against which a contact is judged: the earlier ones as the pass has left them (R165). -/
theorem scanPass_before_get : (scanPass first r (before i) v)[k]
    = if k < i then (scanPass first r (List.finRange 64) v)[k] else v[k] := by
  split
  · next h =>
    have hne : k ∉ i :: after i := by
      rw [List.mem_cons, mem_after]
      omega
    rw [finRange_split i, scanPass_append, scanPass_get_of_not_mem hne]
  · next h => exact scanPass_get_of_not_mem (mt mem_before.1 h)

theorem scanPass_get (i : Fin 64) :
    (scanPass first r (List.finRange 64) v)[i] = judged first r (scanPass first r (before i) v) i := by
  have hafter : i ∉ after i := fun h => absurd (mem_after.1 h) (lt_irrefl i)
  conv_lhs => rw [finRange_split i, scanPass_append]
  exact (scanPass_get_of_not_mem hafter).trans (get_set_eq _ _ _)

theorem ghosted_iff : ghosted v i = true ↔ ∃ c d, c ≠ driveOf i ∧ d ≠ senseOf i ∧ certainClosed v (crossing (driveOf i) d) = true
    ∧ certainClosed v (crossing c (senseOf i)) = true ∧ certainClosed v (crossing c d) = true := by
  simp [ghosted, ghostCorner, and_assoc]

/-- A certain contact is debounced with its reading (R166, R168). -/
theorem debounced_cases (first b : Bool) (k : Contact) : (debounced first b k).uncertain = false
    ∧ (first = true → (debounced first b k).closed = b ∧ (debounced first b k).count = 0)
    ∧ (first = false → (b = k.closed → (debounced first b k).closed = k.closed ∧ (debounced first b k).count = 0)
      ∧ (b ≠ k.closed → k.count < 2 →
        (debounced first b k).closed = k.closed ∧ (debounced first b k).count = k.count + 1)
      ∧ (b ≠ k.closed → 2 ≤ k.count → (debounced first b k).closed = b ∧ (debounced first b k).count = 0)) := by
  refine ⟨debounced_certain _ _ _, fun h => ?_, fun h => ⟨fun e => ?_, fun e hc => ?_, fun e hc => ?_⟩⟩
  · simp [debounced, h]
  · simp [debounced, h, e]
  · have hlt : k.count + 1 < 3 := by omega
    simp [debounced, h, e, hlt]
  · have hge : ¬k.count + 1 < 3 := by omega
    simp [debounced, h, e, hge]

theorem debounced_reading (first b : Bool) (k : Contact) : (debounced first b k).reading = some b := by
  unfold debounced
  split_ifs <;> rfl

end

/-! ## The scan -/

section
variable {s : State} {r : BitVec 64}

/-- The part with the pass made, before the owners take the changes (R165). -/
def passed (r : BitVec 64) (s : State) : State := { s with scan :=
  ⟨scanPass s.scan.firstScan r (List.finRange 64) s.scan.contacts, false, s.scan.scanBase + BitVec.ofNat 32 Config.scanGap⟩ }

theorem exec_scanEnd (hlive : s.pins.inReset = false) : exec (.scanEnd r) s = .next (scanEnded r (clearOut s)) :=
  congrArg Host.Outcome.next (live_next _ s hlive)

theorem scanEnded_due (h : 2 ≤ (s.clock - s.scan.scanBase).toNat) : scanEnded r s
    = takeChanges (handedChanges s.scan.firstScan s.scan.contacts (passed r s).scan.contacts)
      (ghostNotices s.scan.contacts (passed r s).scan.contacts (passed r s)) :=
  if_pos ((due_iff _ _ _).2 h)

theorem scanEnded_early (h : (s.clock - s.scan.scanBase).toNat < 2) : scanEnded r s = s :=
  if_neg fun k => Nat.not_le.mpr h ((due_iff _ _ _).1 k)

theorem scanEnded_scan (h : 2 ≤ (s.clock - s.scan.scanBase).toNat) : (scanEnded r s).scan = (passed r s).scan := by
  rw [scanEnded_due h]
  exact (takeChanges_tables _ (ghostNotices_tables _ _ (.refl _))).scan

/-- With no change for an owner and no new ghost at a guard the pass is all that happens. -/
theorem scanEnded_quiet (h : 2 ≤ (s.clock - s.scan.scanBase).toNat) (hf : s.scan.firstScan = false)
    (ho : ∀ i ∈ owned, (passed r s).scan.contacts[i].closed = s.scan.contacts[i].closed)
    (hg : ∀ i ∈ guards, (passed r s).scan.contacts[i].uncertain = true → s.scan.contacts[i].uncertain = true) :
    scanEnded r s = passed r s := by
  rw [scanEnded_due h]
  have hchanges : handedChanges s.scan.firstScan s.scan.contacts (passed r s).scan.contacts = [] := by
    rw [handedChanges, List.map_eq_nil_iff, List.filter_eq_nil_iff]
    intro i hi
    rw [ho i hi, hf]
    simp
  have hghosts : (guards.filter fun i => (passed r s).scan.contacts[i].uncertain && !s.scan.contacts[i].uncertain) = [] := by
    rw [List.filter_eq_nil_iff]
    intro i hi k
    rw [Bool.and_eq_true, Bool.not_eq_true'] at k
    exact absurd (hg i hi k.1) (by rw [k.2]; nofun)
  rw [hchanges, ghostNotices, hghosts]
  rfl

end

/-- Settles O46: each contact as the pass judges it, and nothing else with no change for an owner. -/
theorem scanDebouncesContacts : Obligations.ScanDebouncesContacts := by
  unfold Obligations.ScanDebouncesContacts
  intro r s hlive
  refine ⟨fun h => ?_, fun h => ?_⟩
  · rw [exec_scanEnd hlive, scanEnded_early (s := clearOut s) h]
  have hscan := scanEnded_scan (s := clearOut s) (r := r) h
  refine ⟨_, exec_scanEnd hlive, by rw [hscan]; rfl, by rw [hscan]; rfl, fun i => ?_, fun hf ho hg => ?_⟩
  · intro old new reads shut ghost
    obtain ⟨w, hw⟩ : ∃ w, w = scanPass s.scan.firstScan r (before i) s.scan.contacts := ⟨_, rfl⟩
    have hnew : new = judged s.scan.firstScan r w i := by
      show (scanEnded r (clearOut s)).scan.contacts[i] = _
      rw [hscan, hw]
      exact scanPass_get i
    have hwget : ∀ k : Fin 64, certainClosed w k = shut k := fun k => by
      show (w[k].closed && !w[k].uncertain) = if k < i then _ else _
      rw [hw, scanPass_before_get]
      split
      · rw [hscan]
        rfl
      · rfl
    have hold : w[i] = old := by
      rw [hw]
      exact scanPass_get_of_not_mem fun hm => absurd (mem_before.1 hm) (lt_irrefl i)
    have hghost : ghosted w i = true ↔ ghost := by
      rw [ghosted_iff]
      simp only [hwget]
      exact .rfl
    rw [judged] at hnew
    refine ⟨?_, fun hg => ?_, fun hg => ?_⟩
    · rw [hnew]
      split
      · rfl
      · exact debounced_reading _ _ _
    · rw [hnew, if_pos (hghost.2 hg), ← hold]
      exact ⟨rfl, rfl, rfl⟩
    · rw [hnew, if_neg (mt hghost.1 hg), ← hold]
      exact debounced_cases _ _ _
  · rw [hscan] at ho hg ⊢
    exact scanEnded_quiet (s := clearOut s) h hf ho hg

end Sys2Proof.Machine

/-! PROOFS. Answers to addressed requests (9.2, 9.4), and O41: how a move of the carousel ends (3.7, 3.9). -/

namespace Sys2Proof.Machine

section
variable {s t u : State} {n : NodeId} {k : ReqKind} {q : Byte} {fits : ReqKind → Bool} {act : ReqKind → State → State}

/-! ## The end of a transaction on a bus for which nothing waits -/

theorem waiting_of_quiet {b : Bus} (h : NothingWaits b) : b.waiting = 0 := by
  simp [Bus.waiting, h.carousel, h.trimmer, h.cooling, h.probe]

theorem endTransaction_quiet (h : NothingWaits s.bus) :
    endTransaction s = { s with bus := { s.bus with current := none } } := by
  have hw : ({ s.bus with current := none } : Bus).waiting = 0 := waiting_of_quiet ⟨h.carousel, h.trimmer, h.cooling, h.probe⟩
  unfold endTransaction busPump
  rw [hw]
  rfl

theorem endTransaction_heard (h : NothingWaits s.bus) : endTransaction (slotHeard n s) = heard n s :=
  endTransaction_quiet (s := slotHeard n s) ⟨h.carousel, h.trimmer, h.cooling, h.probe⟩

/-! ## An answer taken (R153, R156, R160) -/

theorem nodeAnswered_present (h : present s n = true) : nodeAnswered n false (clearOut s) = slotHeard n s := by
  have hp : present (clearOut s) n = true := h
  simp only [nodeAnswered, hp, Bool.not_true, Bool.false_and, Bool.false_eq_true, if_false]
  rfl

theorem nodeAnswered_marked (h : present s n = true) (ha : (nodeRec s n).ackPending = false) :
    nodeAnswered n true (clearOut s) = restartWork n (restartMarked n s) := by
  have hp : present (clearOut s) n = true := h
  simp only [nodeAnswered, hp, Bool.not_true, Bool.false_and, Bool.false_eq_true, if_false, if_true]
  exact takeRestart_setNode (r := { nodeRec s n with state := .present, misses := 0, lastAnswer := s.clock }) ha _

theorem AnswersRequest.inWindow (h : AnswersRequest s n k q) (hf : fits k = true) : ∃ w,
    (clearOut s).bus.current = some (.request ⟨n, k, some q⟩ false w)
      ∧ (n == n && fits k && some q == some q && windowOpen s.clock w) = true := by
  obtain ⟨w, hb, hw⟩ := h.bus
  have hopen : windowOpen s.clock w = true := decide_eq_true hw
  exact ⟨w, hb, by simp [hf, hopen]⟩

/-- A final answer goes to the owner of the request. -/
theorem takeAnswer_final (h : AnswersRequest s n k q) (hf : fits k = true) {busy : Bool} (hbusy : busy = false) :
    takeAnswer n fits q busy false act (clearOut s) = endTransaction (act k (slotHeard n s)) := by
  obtain ⟨w, hb, hg⟩ := h.inWindow hf
  have hg' : (n == n && fits k && some q == some q && windowOpen (clearOut s).clock w) = true := hg
  unfold takeAnswer
  simp only [hb, hg', if_true, nodeAnswered_present h.present, hbusy]
  rfl

/-- A BUSY makes the request wait its 5 ms. -/
theorem takeAnswer_busy (h : AnswersRequest s n k q) (hf : fits k = true) :
    takeAnswer n fits q true false act (clearOut s) = { heard n s with bus := { (heard n s).bus with
      busyWait := s.bus.busyWait ++ [(⟨n, k, some q⟩, s.clock)] } } := by
  obtain ⟨w, hb, hg⟩ := h.inWindow hf
  have hg' : (n == n && fits k && some q == some q && windowOpen (clearOut s).clock w) = true := hg
  have hq := h.quiet
  unfold takeAnswer
  simp only [hb, hg', if_true, nodeAnswered_present h.present]
  exact endTransaction_quiet (s := { slotHeard n s with bus := { (slotHeard n s).bus with
    busyWait := s.bus.busyWait ++ [(⟨n, k, some q⟩, s.clock)] } }) ⟨hq.carousel, hq.trimmer, hq.cooling, hq.probe⟩

/-- A new restart mark ends the node's work, whatever the answer says. -/
theorem takeAnswer_restart (h : AnswersRequest s n k q) (hf : fits k = true) (ha : (nodeRec s n).ackPending = false)
    (busy : Bool) :
    takeAnswer n fits q busy true act (clearOut s) = endTransaction (restartWork n (restartMarked n s)) := by
  obtain ⟨w, hb, hg⟩ := h.inWindow hf
  have hg' : (n == n && fits k && some q == some q && windowOpen (clearOut s).clock w) = true := hg
  have ha' : (nodeRec (clearOut s) n).ackPending = false := ha
  unfold takeAnswer
  simp only [hb, hg', if_true, nodeAnswered_marked h.present ha, ha']
  rfl

/-- An answer with another number, or after the reply window, counts as none (R153). -/
theorem takeAnswer_none (busy r : Bool) (h : ∀ r g w, s.bus.current = some (.request r g w) →
    r.seq ≠ some q ∨ 2 < (s.clock - w).toNat) : takeAnswer n fits q busy r act s = s := by
  unfold takeAnswer
  split
  · next r' g w e =>
    refine if_neg fun k => ?_
    simp only [Bool.and_eq_true, beq_iff_eq, windowOpen, elapsed, Config.replyWindow] at k
    rcases h r' g w e with h | h
    · exact h k.1.2
    · exact absurd (of_decide_eq_true k.2) (Nat.not_le.mpr h)
  · rfl

theorem exec_indexAnswer (hlive : s.pins.inReset = false) (a : Answer) (r : Bool) :
    exec (.indexAnswer q a ⟨r, true⟩) s = .next (takeAnswer .drive (· == .index) q (a == .busy) r
      (fun _ => indexAnswered a) (clearOut s)) := by
  show Host.Outcome.next (live (received true _) s) = _
  rw [live_next _ s hlive, received_true]

theorem exec_homeAnswer (hlive : s.pins.inReset = false) (a : HomeAnswer) (r : Bool) :
    exec (.homeAnswer q a ⟨r, true⟩) s = .next (takeAnswer .drive (· == .home) q (a == .busy) r
      (fun _ => homeAnswered a) (clearOut s)) := by
  show Host.Outcome.next (live (received true _) s) = _
  rw [live_next _ s hlive, received_true]

theorem exec_nodeStatusAnswer (hlive : s.pins.inReset = false) (r : Bool) :
    exec (.nodeStatusAnswer n q ⟨r, true⟩) s = .next (takeAnswer n (· == .nodeStatus) q false r
      (fun _ s => s) (clearOut s)) := by
  show Host.Outcome.next (live (received true _) s) = _
  rw [live_next _ s hlive, received_true]

/-! ## A move fails (R56, R60) -/

/-- The line's fault leaves an UNHOMED carousel and the bus as they are but for the books' reasons. -/
theorem lineFault_of_unhomed (c : FaultCause) (h : s.car.state = .unhomed) :
    (lineFault c s).bus = s.bus ∧ ∃ v, (lineFault c s).car = { s.car with clamps := v } := by
  rcases lineState_cases s with hs | hs | hs
  · obtain ⟨x, hx⟩ := faultEntered_eq c s
    have hcar : carFault (c == .estop) (faultEntered c s) = faultEntered c s := by
      unfold carFault
      rw [show (faultEntered c s).car.state = .unhomed by rw [hx]; exact h]
    rw [lineFault_of_faultable c hs, hcar, hx]
    exact ⟨rfl, _, rfl⟩
  · rw [lineFault_of_still c hs]
    exact ⟨rfl, _, rfl⟩
  · rw [lineFault_of_faulted c hs, if_neg (by simp [h])]
    exact ⟨rfl, _, rfl⟩

/-- What a move that fails leaves. -/
structure MoveFailed (s t : State) : Prop where
  kept    : LineKept s t
  state   : t.car.state = .unhomed
  known   : t.car.phaseKnown = false
  phase   : t.car.phase = s.car.phase
  timer   : t.car.moveTimer = none
  notice  : Noticed .indexTimeout 7 t
  faulted : LineFaulted s t .indexTimeout

/-- The carousel with its move interrupted, before the line takes it. -/
def moveStopped (s : State) : State := setWorked false (unhome (giveUp isMove s))

theorem moveFailed_eq (s : State) :
    moveFailed s = raiseNotice .indexTimeout 7 (lineFault .indexTimeout (moveStopped s)) := rfl

theorem moveFailed_failed (s : State) : MoveFailed s (moveFailed s) ∧ (moveFailed s).bus = (giveUp isMove s).bus := by
  obtain ⟨hbus, v, hcar⟩ := lineFault_of_unhomed .indexTimeout (s := moveStopped s) rfl
  obtain ⟨x, hx⟩ := raiseNotice_host .indexTimeout 7 (lineFault .indexTimeout (moveStopped s))
  have hc := raiseNotice_car .indexTimeout 7 (lineFault .indexTimeout (moveStopped s))
  rw [← moveFailed_eq, hcar] at hc
  refine ⟨⟨moveFailed_kept (.refl s), by rw [hc]; rfl, by rw [hc]; rfl, by rw [hc]; rfl, by rw [hc]; rfl,
    noticed_raiseNotice _ _ _, ?_⟩, ?_⟩
  · exact (raiseNotice_faulted .indexTimeout 7 (lineFault_faulted .indexTimeout (moveStopped s))).congr rfl rfl rfl rfl
  · rw [moveFailed_eq, hx]
    exact hbus

/-- The failed move with the transaction ended on a bus for which nothing waits. -/
theorem moveFailed_ended (hq : NothingWaits s.bus) : MoveFailed s (endTransaction (moveFailed s)) := by
  obtain ⟨h, hbus⟩ := moveFailed_failed s
  have hquiet : NothingWaits (moveFailed s).bus := by
    rw [hbus]
    exact ⟨by simp [giveUp, hq.carousel], by simp [giveUp, hq.trimmer], by simp [giveUp, hq.cooling], by simp [giveUp, hq.probe]⟩
  rw [endTransaction_quiet hquiet]
  exact ⟨slot_kept h.kept _, h.state, h.known, h.phase, h.timer, h.notice, h.faulted.congr rfl rfl rfl rfl⟩

theorem MoveFailed.from {s' : State} (h : MoveFailed s' t) (hk : LineKept s s') (hp : s'.car.phase = s.car.phase)
    (hl : s'.line = s.line) : MoveFailed s t :=
  ⟨hk.trans h.kept, h.state, h.known, h.phase.trans hp, h.timer, h.notice, h.faulted.congr hl.symm rfl rfl rfl⟩

theorem restartMarked_kept (n : NodeId) (s : State) : LineKept s (restartMarked n s) :=
  ⟨⟨rfl, rfl, rfl, rfl, rfl, rfl, rfl, rfl⟩, ⟨rfl, rfl, rfl, rfl, rfl, rfl⟩, .ofEq rfl, rfl⟩

/-- The carousel as HOME's DONE leaves it, before it is told of the line state (R59, R83). -/
def homedAt (p : Fin 20) (s : State) : State := { s with
  car := { s.car with state := .standing, worked := false, moveTimer := none, phase := some p, phaseKnown := true }
  cover := if s.car.phase == some p then s.cover else { s.cover with drawMark := false } }

end

/-- Settles O41: how HOME and INDEX end by their answers, a restart of DRIVE, their limit, or an answer too late. -/
theorem movesEnd : Obligations.MovesEnd := by
  unfold Obligations.MovesEnd
  intro s q restarted fails
  have hfails : ∀ {c : Instr} {t}, exec c s = .next t → MoveFailed s t → fails c := fun he h =>
    ⟨_, he, h.kept, h.state, h.known, h.phase, h.timer, h.notice, h.faulted⟩
  have hheard : NothingWaits s.bus → MoveFailed s (endTransaction (moveFailed (slotHeard .drive s))) := fun hq =>
    (moveFailed_ended (s := slotHeard .drive s) ⟨hq.carousel, hq.trimmer, hq.cooling, hq.probe⟩).from
      (slotHeard_kept .drive s) rfl rfl
  have hmarked : ∀ {k}, AnswersRequest s .drive k q → s.car.state = .indexing ∨ s.car.state = .homing →
      MoveFailed s (endTransaction (restartWork .drive (restartMarked .drive s))) := fun h hc => by
    have hq := h.quiet
    have hmove : restartWork .drive (restartMarked .drive s) = moveFailed (restartMarked .drive s) :=
      if_pos (show (s.car.state == .indexing || s.car.state == .homing) = true by rcases hc with hc | hc <;> simp [hc])
    rw [hmove]
    exact (moveFailed_ended (s := restartMarked .drive s) ⟨hq.carousel, hq.trimmer, hq.cooling, hq.probe⟩).from
      (restartMarked_kept .drive s) rfl rfl
  have hdue : startDue s.clock s.car.moveTimer Config.moveLimit = true
      ↔ ∃ w, s.car.moveTimer = some w ∧ 1500 ≤ (s.clock - w).toNat := startDue_iff _ _ _
  refine ⟨fun h hc => ⟨fun p hw => ?_, ?_, ?_⟩, fun h hc => ⟨?_, ?_⟩, fun k h ha hc => ⟨?_, ?_, ?_⟩, fun hlive => ?_⟩
  · have hq := h.quiet
    have hd : homeAnswered (.done p) (slotHeard .drive s) = homeDone p (slotHeard .drive s) := if_pos (beq_iff_eq.mpr hc)
    have ht : homeDone p (slotHeard .drive s) = homedAt p (slotHeard .drive s) := tellCarousel_warming hw nofun
    rw [exec_homeAnswer h.live, takeAnswer_final h rfl (busy := HomeAnswer.done p == .busy) rfl, hd, ht,
      endTransaction_quiet (s := homedAt p (slotHeard .drive s)) ⟨hq.carousel, hq.trimmer, hq.cooling, hq.probe⟩]
    simp only [homedAt, beq_iff_eq]
    rfl
  · refine hfails ((exec_homeAnswer h.live _ _).trans (congrArg _ (takeAnswer_final h rfl rfl))) ?_
    rw [homeAnswered, if_pos (show ((slotHeard .drive s).car.state == .homing) = true from beq_iff_eq.mpr hc)]
    exact hheard h.quiet
  · exact (exec_homeAnswer h.live _ _).trans (congrArg _ (takeAnswer_busy h rfl))
  · refine hfails ((exec_indexAnswer h.live _ _).trans (congrArg _ (takeAnswer_final h rfl rfl))) ?_
    rw [indexAnswered, if_pos (show ((slotHeard .drive s).car.state == .indexing) = true from beq_iff_eq.mpr hc)]
    exact hheard h.quiet
  · exact (exec_indexAnswer h.live _ _).trans (congrArg _ (takeAnswer_busy h rfl))
  · rintro rfl a
    exact hfails ((exec_indexAnswer h.live _ _).trans (congrArg _ (takeAnswer_restart h rfl ha _))) (hmarked h hc)
  · rintro rfl a
    exact hfails ((exec_homeAnswer h.live _ _).trans (congrArg _ (takeAnswer_restart h rfl ha _))) (hmarked h hc)
  · rintro rfl
    exact hfails ((exec_nodeStatusAnswer h.live _).trans (congrArg _ (takeAnswer_restart h rfl ha _))) (hmarked h hc)
  · intro out
    have hcleared : MoveFailed s (moveFailed (clearOut s)) := (moveFailed_failed (clearOut s)).1.from (clearOut_kept s) rfl rfl
    have hindex : exec .indexTimeout s = .next (indexTimeout (clearOut s)) :=
      congrArg Host.Outcome.next (live_next indexTimeout s hlive)
    have hhome : exec .homingTimeout s = .next (homingTimeout (clearOut s)) :=
      congrArg Host.Outcome.next (live_next homingTimeout s hlive)
    have hi : (s.car.state == .indexing && startDue s.clock s.car.moveTimer Config.moveLimit) = true
        ↔ s.car.state = .indexing ∧ out := by rw [Bool.and_eq_true, beq_iff_eq, hdue]
    have hh : (s.car.state == .homing && startDue s.clock s.car.moveTimer Config.moveLimit) = true
        ↔ s.car.state = .homing ∧ out := by rw [Bool.and_eq_true, beq_iff_eq, hdue]
    refine ⟨fun hc ho => ?_, fun hc ho => ?_, fun h => ?_, fun h => ?_, fun h => ⟨?_, ?_⟩⟩
    · exact hfails (hindex.trans (congrArg _ (if_pos (hi.2 ⟨hc, ho⟩)))) hcleared
    · exact hfails (hhome.trans (congrArg _ (if_pos (hh.2 ⟨hc, ho⟩)))) hcleared
    · exact hindex.trans (congrArg _ (if_neg fun k => h.elim (· (hi.1 k).1) (· (hi.1 k).2)))
    · exact hhome.trans (congrArg _ (if_neg fun k => h.elim (· (hh.1 k).1) (· (hh.1 k).2)))
    · exact (exec_indexAnswer hlive _ _).trans (congrArg _ (takeAnswer_none (s := clearOut s) _ _ h))
    · exact (exec_homeAnswer hlive _ _).trans (congrArg _ (takeAnswer_none (s := clearOut s) _ _ h))

end Sys2Proof.Machine

/-! PROOFS. A frame sent at once on a free bus (9.2, 9.5), and O50: the nodes kept in touch (9.1, 9.4). -/

namespace Sys2Proof.Machine

section
variable {s t u : State} {n : NodeId} {k : ReqKind} {q : Byte} {b : Bus} {f : Frame}

theorem LineKept.bus (h : LineKept s t) (b : Bus) : LineKept s { t with bus := b } :=
  h.next ⟨rfl, rfl, rfl, rfl, rfl, rfl, rfl, rfl⟩ ⟨rfl, rfl, rfl, rfl, rfl, rfl⟩ rfl rfl

theorem present_of_nodes (h : t.bus.nodes = s.bus.nodes) (n : NodeId) : present t n = present s n := by
  unfold present nodeRec
  rw [h]

/-! ## One frame on a free bus for which nothing else waits -/

theorem grant_of_quiet (h : NothingWaits b) : b.grant = none := by
  unfold Bus.grant
  rw [h.carousel]
  cases b.lastServed <;> simp [rotationAfter, Bus.takeFrom, h.trimmer, h.cooling, h.probe]

theorem pump_of_quiet (m : Nat) (h : NothingWaits s.bus) : pump m s = s := by
  cases m with
  | zero => rfl
  | succ m =>
    unfold pump
    rw [grant_of_quiet h]
    cases s.bus.current <;> rfl

theorem enqueue_of_quiet (h : NothingWaits b) (f : Frame) : b.enqueue f = b.requeue f := by
  unfold Bus.enqueue Bus.requeue
  rw [h.carousel, h.trimmer, h.cooling, h.probe]
  rfl

theorem grant_requeue (h : NothingWaits b) (f : Frame) :
    ∃ l, (b.requeue f).grant = some (f, { b with lastServed := l }) := by
  obtain ⟨hc, ht, ho, hp⟩ := h
  obtain ⟨nodes, carQ, trimQ, coolQ, probeQ, last⟩ := b
  subst hc ht ho hp
  unfold Bus.requeue
  cases requesterOf f with
  | carousel => exact ⟨_, rfl⟩
  | trimmer => exact ⟨.trimmer, by cases last <;> rfl⟩
  | cooling => exact ⟨.cooling, by cases last <;> rfl⟩
  | probe => exact ⟨.probe, by cases last <;> rfl⟩

theorem waiting_requeue (h : NothingWaits b) (f : Frame) : (b.requeue f).waiting = 1 := by
  unfold Bus.requeue Bus.waiting
  cases requesterOf f <;> simp [h.carousel, h.trimmer, h.cooling, h.probe]

theorem requeue_current (f : Frame) (b : Bus) : (b.requeue f).current = b.current := by
  unfold Bus.requeue
  split <;> rfl

theorem sendFrame_quiet (f : Frame) (h : NothingWaits s.bus) : NothingWaits (sendFrame f s).bus :=
  ⟨(sendFrame_queueOf f s .carousel).trans h.carousel, (sendFrame_queueOf f s .trimmer).trans h.trimmer,
    (sendFrame_queueOf f s .cooling).trans h.cooling, (sendFrame_queueOf f s .probe).trans h.probe⟩

/-- The one waiting frame is granted and sent (R162). -/
theorem busPump_requeue (h : NothingWaits s.bus) (hc : s.bus.current = none) (f : Frame) : ∃ l,
    busPump { s with bus := s.bus.requeue f } = sendFrame f { s with bus := { s.bus with lastServed := l } } := by
  obtain ⟨l, hg⟩ := grant_requeue h f
  refine ⟨l, ?_⟩
  have hc' : (s.bus.requeue f).current = none := (requeue_current f _).trans hc
  unfold busPump
  simp only [waiting_requeue h f]
  unfold pump
  simp only [hc', hg]
  exact pump_of_quiet _ (sendFrame_quiet f ⟨h.carousel, h.trimmer, h.cooling, h.probe⟩)

/-- A frame handed over is sent at once. -/
theorem handOver_free (h : NothingWaits s.bus) (hc : s.bus.current = none) (f : Frame) : ∃ l,
    handOver f s = sendFrame f { s with bus := { s.bus with lastServed := l } } := by
  unfold handOver
  rw [enqueue_of_quiet h f]
  exact busPump_requeue h hc f

/-! ## A request sent (R153, R156) -/

theorem sendRequest_sentNow (hg : isGroup n = false) (hb : s.busOut = []) (l : Rotation) :
    SentNow s (sendFrame (.req ⟨n, k, none⟩) { s with bus := { s.bus with lastServed := l } }) n k := by
  have hout : ∀ u : State, (startLimit k u).busOut = u.busOut ∧ (startLimit k u).clock = u.clock := fun u => by
    unfold startLimit
    split <;> exact ⟨rfl, rfl⟩
  obtain ⟨ho, hk⟩ := hout { s with bus := { s.bus with lastServed := l } }
  refine ⟨?_, ?_⟩
  · show some (Transaction.request ⟨n, k, some ((nodeRec s n).seq + 1)⟩ false
      (startLimit k { s with bus := { s.bus with lastServed := l } }).clock) = _
    rw [hk]
  · show (startLimit k { s with bus := { s.bus with lastServed := l } }).busOut
      ++ [BusContent.frame (.request n k ((nodeRec s n).seq + 1) ((nodeRec s n).ackPending && !isGroup n))] = _
    rw [ho, hg, hb, Bool.not_false, Bool.and_true]
    rfl

/-- A request sent again keeps its number and starts no limit (R156, R157). -/
theorem sendRequest_again (n : NodeId) (k : ReqKind) (q : Byte) (s : State) : ∃ ack p,
    sendFrame (.req ⟨n, k, some q⟩) s = { s with
      bus := { s.bus with
        nodes := s.bus.nodes.set (nodeIdx n).val { nodeRec s n with ackPending := p }
        current := some (.request ⟨n, k, some q⟩ false s.clock) }
      busOut := s.busOut ++ [BusContent.frame (.request n k q ack)] } := ⟨_, _, rfl⟩

/-! ## Marks already pending (R160) -/

/-- A restart mark on a pending acknowledgement is not taken again. -/
theorem nodeAnswered_pending (h : present s n = true) (ha : (nodeRec s n).ackPending = true) :
    nodeAnswered n true (clearOut s) = slotHeard n s := by
  have hp : present (clearOut s) n = true := h
  simp only [nodeAnswered, hp, Bool.not_true, Bool.false_and, Bool.false_eq_true, if_false, if_true]
  have hrec : nodeRec (slotHeard n s) n = { nodeRec s n with state := .present, misses := 0, lastAnswer := s.clock } :=
    (nodeRec_setNode _ _ _ _).trans (if_pos rfl)
  show takeRestart n (slotHeard n s) = _
  unfold takeRestart
  rw [hrec]
  exact if_pos ha

theorem takeAnswer_pending {fits : ReqKind → Bool} {act : ReqKind → State → State} (h : AnswersRequest s n k q)
    (hf : fits k = true) (ha : (nodeRec s n).ackPending = true) {busy : Bool} (hbusy : busy = false) :
    takeAnswer n fits q busy true act (clearOut s) = endTransaction (act k (slotHeard n s)) := by
  obtain ⟨w, hb, hg⟩ := h.inWindow hf
  have hg' : (n == n && fits k && some q == some q && windowOpen (clearOut s).clock w) = true := hg
  have ha' : (nodeRec (clearOut s) n).ackPending = true := ha
  unfold takeAnswer
  simp only [hb, hg', if_true, nodeAnswered_pending h.present ha, ha', hbusy]
  rfl

/-- A restart of a node of 7 to 9 with no work under way clears the axes' flags at most (R150, R160). -/
theorem restartWork_idle (hg : isGroup n = false) (hc : s.car.state = .standing) (hp : pushing s = false)
    (ht : s.trim.state = .idle) : ∃ x, x.held = s.trim.held ∧ restartWork n s = { s with trim := x } := by
  have hsame : ∃ x, x.held = s.trim.held ∧ s = { s with trim := x } := ⟨s.trim, rfl, rfl⟩
  cases n with
  | drive =>
    have h : restartWork .drive s = s := if_neg (by simp [hc])
    rw [h]
    exact hsame
  | cooling =>
    have h : restartWork .cooling s = s := by
      unfold restartWork
      simp only [hp, Bool.false_eq_true, if_false]
      split <;> rfl
    rw [h]
    exact hsame
  | trimmer =>
    refine ⟨(clearFlags s).trim, rfl, ?_⟩
    have h : (clearFlags s).trim.state = .idle := ht
    unfold restartWork trimRestarted
    simp only [h]
    rfl
  | loader | mill | glue | cover | nip | release => cases hg

/-! ## PROBE (R37, R159) -/

/-- A node other than COOLING is heard, PRESENT or not. -/
theorem nodeAnswered_other (h : n ≠ .cooling ∨ present s n = true) : nodeAnswered n false (clearOut s) = slotHeard n s := by
  rcases h with h | h
  · have hn : (n == NodeId.cooling) = false := beq_eq_false_iff_ne.mpr h
    simp only [nodeAnswered, hn, Bool.and_false, Bool.false_eq_true, if_false]
    rfl
  · exact nodeAnswered_present h

theorem exec_probeAnswer (hlive : s.pins.inReset = false) (p : Option (Fin 20)) {w : Time}
    (hb : s.bus.current = some (.request ⟨n, k, some q⟩ false w)) (hw : (s.clock - w).toNat ≤ 2) (hk : isProbe k = true)
    (hn : n ≠ .cooling ∨ present s n = true) :
    exec (.probeAnswer n q p ⟨false, true⟩) s = .next (endTransaction (probeAnswered n p k (slotHeard n s))) := by
  have hopen : windowOpen (clearOut s).clock w = true := decide_eq_true hw
  have hb' : (clearOut s).bus.current = some (.request ⟨n, k, some q⟩ false w) := hb
  show Host.Outcome.next (live (received true (probeAnswer n q p false)) s) = _
  rw [live_next _ s hlive, received_true]
  unfold probeAnswer
  simp only [hb', hk, hopen, nodeAnswered_other hn, beq_self_eq_true, Bool.and_self, if_true, Bool.false_eq_true, if_false]

theorem exec_probeAnswer_none (hlive : s.pins.inReset = false) (p : Option (Fin 20)) (m : Bool)
    (h : ∀ r g w, s.bus.current = some (.request r g w) → 2 < (s.clock - w).toNat) :
    exec (.probeAnswer n q p ⟨m, true⟩) s = .next (clearOut s) := by
  show Host.Outcome.next (live (received true (probeAnswer n q p m)) s) = _
  rw [live_next _ s hlive, received_true]
  refine congrArg _ ?_
  unfold probeAnswer
  split
  · next r g w e =>
    refine if_neg fun k => ?_
    rw [Bool.and_eq_true] at k
    exact absurd (of_decide_eq_true k.2) (Nat.not_le.mpr (h r g w e))
  · rfl

/-- One start-up probe fewer (R159). -/
def probeCounted (s : State) : State := { s with bus := { s.bus with probesLeft := s.bus.probesLeft - 1 } }

theorem probeEnded_more (h : 2 ≤ s.bus.probesLeft) : probeEnded s = probeCounted s :=
  if_neg (by omega)

theorem probeEnded_last (h : s.bus.probesLeft = 1) : probeEnded s
    = startUpCheck { probeCounted s with line := { s.line with probesDone := true } } :=
  if_pos (by omega)

theorem probeAnswered_startup (n : NodeId) (s : State) : probeAnswered n none (.probe true) s = probeEnded s := by
  unfold probeAnswered
  cases n <;> rfl

theorem endTransaction_counted (hq : NothingWaits s.bus) : endTransaction (probeCounted s)
    = { probeCounted s with bus := { (probeCounted s).bus with current := none } } :=
  endTransaction_quiet (s := probeCounted s) ⟨hq.carousel, hq.trimmer, hq.cooling, hq.probe⟩

/-! ## Repeats (R156) -/

theorem find_repeat_none {l : List (Request × Time)} {now : Time}
    (h : ∀ e ∈ l, e.1.node ≠ n ∨ (now - e.2).toNat < 5) : l.find? (repeatDue now n) = none := by
  rw [List.find?_eq_none]
  intro e he k
  rw [repeatDue, Bool.and_eq_true, beq_iff_eq, due_iff] at k
  rcases h e he with h | h
  · exact h k.1
  · exact absurd k.2 (Nat.not_le.mpr h)

theorem requestRepeat_eq {r : Request} {w : Time} {rest : List (Request × Time)} (h : s.bus.busyWait = (r, w) :: rest)
    (hn : r.node = n) (hw : 5 ≤ (s.clock - w).toNat) : requestRepeat n s
    = busPump { s with bus := { s.bus with busyWait := rest }.requeue (.req r) } := by
  have hd : repeatDue s.clock n (r, w) = true := by
    rw [repeatDue, Bool.and_eq_true, beq_iff_eq, due_iff]
    exact ⟨hn, hw⟩
  have he : ((r, w) :: rest).erase (r, w) = rest := List.erase_cons_head _ _
  unfold requestRepeat
  rw [h, List.find?_cons_of_pos hd]
  simp only [he]

/-! ## NODE_STATUS (R161) -/

theorem statusDue_iff : (!isGroup n && present s n && due s.clock (nodeRec s n).lastAnswer Config.statusGap
      && !holdsRequest s.bus n) = true ↔ isGroup n = false ∧ present s n = true
        ∧ 100 ≤ (s.clock - (nodeRec s n).lastAnswer).toNat ∧ holdsRequest s.bus n = false := by
  simp only [Bool.and_eq_true, Bool.not_eq_true', due_iff, Config.statusGap, and_assoc]

/-! ## The answers of COOLING and TRIMMER -/

theorem exec_pushAnswer (hlive : s.pins.inReset = false) (a : Answer) (r : Bool) :
    exec (.pushAnswer q a ⟨r, true⟩) s = .next (takeAnswer .cooling isPush q (a == .busy) r
      (fun _ => pushAnswered a) (clearOut s)) := by
  show Host.Outcome.next (live (received true _) s) = _
  rw [live_next _ s hlive, received_true]

theorem exec_setAxesAnswer (hlive : s.pins.inReset = false) (a : Answer) (r : Bool) :
    exec (.setAxesAnswer q a ⟨r, true⟩) s = .next (takeAnswer .trimmer isSetAxes q (a == .busy) r
      (fun _ => setAxesAnswered a) (clearOut s)) := by
  show Host.Outcome.next (live (received true _) s) = _
  rw [live_next _ s hlive, received_true]

theorem exec_readAxesAnswer (hlive : s.pins.inReset = false) (a : AxesAnswer) (r : Bool) :
    exec (.readAxesAnswer q a ⟨r, true⟩) s = .next (takeAnswer .trimmer (· == .readAxes) q (a == .busy) r
      (fun _ => readAxesAnswered a) (clearOut s)) := by
  show Host.Outcome.next (live (received true _) s) = _
  rw [live_next _ s hlive, received_true]

theorem exec_stepAnswer (hlive : s.pins.inReset = false) (a : Answer) (r : Bool) :
    exec (.stepAnswer q a ⟨r, true⟩) s = .next (takeAnswer .trimmer isStep q (a == .busy) r
      (fun _ => stepAnswered a) (clearOut s)) := by
  show Host.Outcome.next (live (received true _) s) = _
  rw [live_next _ s hlive, received_true]

/-! ## The recovery probes (R159) -/

/-- Only PROBEs wait at the probe requester. -/
def ProbesOnly (b : Bus) : Prop := ∀ f ∈ b.probeQ, ∃ m p r, f = .req ⟨m, .probe p, r⟩

theorem takeFrom_left {b' : Bus} {r : Rotation} (h : b.takeFrom r = some (f, b')) :
    (∀ x ∈ b'.probeQ, x ∈ b.probeQ) ∧ b'.probeBase = b.probeBase := by
  cases r with
  | trimmer =>
    simp only [Bus.takeFrom] at h
    split at h
    · cases h; exact ⟨fun _ hx => hx, rfl⟩
    · cases h
  | cooling =>
    simp only [Bus.takeFrom] at h
    split at h
    · cases h; exact ⟨fun _ hx => hx, rfl⟩
    · cases h
  | probe =>
    simp only [Bus.takeFrom] at h
    split at h
    · next q e => cases h; exact ⟨fun x hx => by rw [e]; exact List.mem_cons_of_mem _ hx, rfl⟩
    · cases h

theorem grant_left {b' : Bus} (h : b.grant = some (f, b')) :
    (∀ x ∈ b'.probeQ, x ∈ b.probeQ) ∧ b'.probeBase = b.probeBase := by
  unfold Bus.grant at h
  split at h
  · cases h
    exact ⟨fun _ hx => hx, rfl⟩
  · obtain ⟨r, -, hr⟩ := List.exists_of_findSome?_eq_some h
    exact takeFrom_left hr

theorem startLimit_bus (k : ReqKind) (p : Bool) (s : State) : (if p then startLimit k s else s).bus = s.bus := by
  cases p
  · rfl
  · exact startLimit_nodes k s

theorem sendFrame_probeBase (f : Frame) (s : State) : (sendFrame f s).bus.probeBase = s.bus.probeBase := by
  cases f with
  | req r => simp only [sendFrame, sendRequest, setNode, startLimit_bus]
  | work tag items again => rfl
  | poll => rfl
  | abortAll => rfl
  | abortJob st => rfl
  | abortTrimmer => rfl

/-- Sending takes frames away and leaves the cadence of the probes. -/
theorem pump_left (m : Nat) (s : State) :
    (∀ x ∈ (pump m s).bus.probeQ, x ∈ s.bus.probeQ) ∧ (pump m s).bus.probeBase = s.bus.probeBase := by
  induction m generalizing s with
  | zero => exact ⟨fun _ hx => hx, rfl⟩
  | succ m ih =>
    unfold pump
    split
    · next f b hcur hgrant =>
      obtain ⟨hsub, hbase⟩ := grant_left hgrant
      obtain ⟨hsub', hbase'⟩ := ih (sendFrame f { s with bus := b })
      have hq : (sendFrame f { s with bus := b }).bus.probeQ = b.probeQ := sendFrame_queueOf f _ .probe
      exact ⟨fun x hx => hsub x (hq ▸ hsub' x hx), hbase'.trans ((sendFrame_probeBase f _).trans hbase)⟩
    · exact ⟨fun _ hx => hx, rfl⟩

/-- What handing over probes leaves. -/
structure Probed (s t : State) : Prop where
  kept    : LineKept s t
  base    : t.bus.probeBase = s.bus.probeBase
  present : ∀ n, Machine.present t n = Machine.present s n
  only    : ProbesOnly s.bus → ProbesOnly t.bus
  asked   : ∀ n k, Asked s.bus n k → Asked t.bus n k

theorem Probed.refl (s : State) : Probed s s := ⟨.refl s, rfl, fun _ => rfl, id, fun _ _ => id⟩

theorem Probed.trans (h : Probed s t) (k : Probed t u) : Probed s u :=
  ⟨h.kept.trans k.kept, k.base.trans h.base, fun n => (k.present n).trans (h.present n), k.only ∘ h.only,
    fun n x => k.asked n x ∘ h.asked n x⟩

theorem probeRequest_probed (n : NodeId) (s : State) : Probed s (handRequest n (.probe false) s) := by
  have k := handRequest_busWork n (.probe false) s
  obtain ⟨hsub, hbase⟩ := pump_left (s.bus.enqueue (.req ⟨n, .probe false, none⟩)).waiting
    { s with bus := s.bus.enqueue (.req ⟨n, .probe false, none⟩) }
  refine ⟨k.lineKept, hbase, k.present, fun h x hx => ?_, fun m y h => handOver_asked _ h⟩
  have hx' : x ∈ s.bus.probeQ ++ [.req ⟨n, .probe false, none⟩] := hsub x hx
  rcases List.mem_append.1 hx' with hx' | hx'
  · exact h x hx'
  · exact ⟨n, false, none, List.mem_singleton.1 hx'⟩

theorem probeNode_probed (s : State) (n : NodeId) : Probed s (probeNode s n) := by
  unfold probeNode
  split
  · exact .refl s
  · exact probeRequest_probed n s

/-- A node that is not PRESENT has a PROBE waiting or sent after its turn. -/
theorem probeNode_asked (hp : present s n = false) (ho : ProbesOnly s.bus) :
    ∃ b, Asked (probeNode s n).bus n (.probe b) := by
  unfold probeNode
  split
  · next h =>
    rw [hp, Bool.false_or, List.any_eq_true] at h
    obtain ⟨f, hf, hn⟩ := h
    obtain ⟨m, p, r, rfl⟩ := ho f hf
    have hm : m = n := by simpa [frameReq] using hn
    subst hm
    exact ⟨p, .inl ⟨_, mem_frames.2 (.inr (.inr (.inr hf))), r, rfl⟩⟩
  · exact ⟨false, handRequest_asked n _ s⟩

theorem foldl_probeNode (l : List NodeId) (s : State) : Probed s (l.foldl probeNode s) := by
  induction l generalizing s with
  | nil => exact .refl s
  | cons a l ih => exact (probeNode_probed s a).trans (ih _)

theorem foldl_probeNode_asked {l : List NodeId} (hl : n ∈ l) (hp : present s n = false) (ho : ProbesOnly s.bus) :
    ∃ b, Asked (l.foldl probeNode s).bus n (.probe b) := by
  obtain ⟨a, c, rfl⟩ := List.append_of_mem hl
  have ha := foldl_probeNode a s
  obtain ⟨b, hb⟩ := probeNode_asked ((ha.present n).trans hp) (ha.only ho)
  rw [List.foldl_append, List.foldl_cons]
  exact ⟨b, (foldl_probeNode c _).asked _ _ hb⟩

theorem foldl_probeNode_present (l : List NodeId) (h : ∀ m, present s m = true) : l.foldl probeNode s = s := by
  induction l with
  | nil => rfl
  | cons a l ih =>
    have ha : probeNode s a = s := if_pos (by rw [h a]; rfl)
    rw [List.foldl_cons, ha, ih]

theorem mem_allNodes (n : NodeId) : n ∈ allNodes := by cases n <;> decide

end

/-- Settles O50: answers, restart marks, repeats, NODE_STATUS and the probes. -/
theorem nodesKeptInTouch : Obligations.NodesKeptInTouch := by
  unfold Obligations.NodesKeptInTouch
  intro s n q hlive asked silent second none_
  have hexec : ∀ f : State → State, live f s = f (clearOut s) := fun f => live_next f s hlive
  refine ⟨fun h => ?_, fun h ha => ?_, fun h ha hg hc hp ht => ?_, fun hq ⟨w, hb, hw⟩ hn => ?_,
    fun hq ⟨w, hb, hw⟩ hn hl => ⟨fun hd => ?_, fun hd hu p => ?_⟩, fun hq ⟨w, hb, hw⟩ hn hl hs hld => ?_, ?_⟩
  · exact (exec_nodeStatusAnswer hlive _).trans (congrArg _ ((takeAnswer_final h rfl rfl).trans (endTransaction_heard h.quiet)))
  · exact (exec_nodeStatusAnswer hlive _).trans
      (congrArg _ ((takeAnswer_pending h rfl ha rfl).trans (endTransaction_heard h.quiet)))
  · have hq := h.quiet
    obtain ⟨x, hheld, hw⟩ := restartWork_idle (s := restartMarked n s) hg hc hp ht
    have hx : exec (.nodeStatusAnswer n q ⟨true, true⟩) s
        = .next { restartMarked n s with trim := x, bus := { (restartMarked n s).bus with current := none } } := by
      refine (exec_nodeStatusAnswer hlive _).trans (congrArg _ ((takeAnswer_restart h rfl ha _).trans ?_))
      rw [hw]
      exact endTransaction_quiet (s := { restartMarked n s with trim := x }) ⟨hq.carousel, hq.trimmer, hq.cooling, hq.probe⟩
    exact ⟨_, hx, ⟨⟨rfl, rfl, rfl, rfl, rfl, rfl, rfl, rfl⟩, ⟨rfl, rfl, rfl, rfl, rfl, hheld⟩, .ofEq rfl, rfl⟩, rfl,
      (nodeRec_setNode _ _ _ _).trans (if_pos rfl)⟩
  · exact (exec_probeAnswer hlive none hb hw rfl hn).trans (congrArg _ (endTransaction_heard hq))
  · rw [exec_probeAnswer hlive none hb hw rfl (.inl hn), probeAnswered_startup,
      probeEnded_more (s := slotHeard n s) hl, endTransaction_counted (s := slotHeard n s)
        ⟨hq.carousel, hq.trimmer, hq.cooling, hq.probe⟩]
    rfl
  · subst hd
    have hp : probeAnswered .drive (some p) (.probe true) (slotHeard .drive s)
        = probeEnded (phaseFromProbe p (slotHeard .drive s)) := rfl
    have hphase : phaseFromProbe p (slotHeard .drive s) = { slotHeard .drive s with
        car := { s.car with phase := some p, phaseKnown := true, state := .standing, worked := false } } :=
      if_pos (show ((slotHeard .drive s).car.state == .unhomed) = true from beq_iff_eq.mpr hu)
    obtain ⟨v, hv⟩ : ∃ v, v = { slotHeard .drive s with
        car := { s.car with phase := some p, phaseKnown := true, state := .standing, worked := false } } := ⟨_, rfl⟩
    have hbus : v.bus = (slotHeard .drive s).bus := by rw [hv]
    rw [exec_probeAnswer hlive (some p) hb hw rfl (.inl hn), hp, hphase, ← hv, probeEnded_more (by rw [hbus]; exact hl),
      endTransaction_counted (by rw [hbus]; exact ⟨hq.carousel, hq.trimmer, hq.cooling, hq.probe⟩), hv]
    rfl
  · subst hn
    obtain ⟨v, hv⟩ : ∃ v, v = { probeCounted (slotHeard .trimmer s) with line := { s.line with probesDone := true } } :=
      ⟨_, rfl⟩
    have hstart : startUpCheck v = { enterParked v with bus := { (enterParked v).bus with
        pollOn := true, pollBase := (enterParked v).clock, lastPoll := (enterParked v).clock
        probeBase := (enterParked v).clock } } := by
      rw [startUpCheck_eq (by rw [hv]; exact hs) (by rw [hv]; exact hld), hv]
      rfl
    have hx : exec (.probeAnswer .trimmer q none ⟨false, true⟩) s = .next (endTransaction (startUpCheck v)) := by
      rw [exec_probeAnswer hlive none hb hw rfl (.inl (by decide)), probeAnswered_startup,
        probeEnded_last (s := slotHeard .trimmer s) hl, hv]
      rfl
    obtain ⟨x, hparked⟩ := enterParked_host v
    have hclock : v.clock = s.clock := by rw [hv]; rfl
    have hkept : LineKept s (enterParked v) := enterParked_kept (by
      rw [hv]
      exact (slotHeard_kept .trimmer s).trans
        ⟨⟨rfl, rfl, rfl, rfl, rfl, rfl, rfl, rfl⟩, ⟨rfl, rfl, rfl, rfl, rfl, rfl⟩, .ofEq rfl, rfl⟩)
    have hquiet : NothingWaits (startUpCheck v).bus := by
      rw [hstart, hparked, hv]
      exact ⟨hq.carousel, hq.trimmer, hq.cooling, hq.probe⟩
    rw [endTransaction_quiet hquiet, hstart] at hx
    refine ⟨_, hx, hkept.bus _, ?_⟩
    rw [hparked, hv]
    exact ⟨rfl, rfl, rfl, rfl, by simp [present, nodeRec, slotHeard, setNode, probeCounted], rfl⟩
  · refine ⟨fun k w rest hb hw hc hq => ?_, fun hnone => ?_, fun r g w hb hw a e m p => ?_,
      fun hs hc hq => ?_, fun hs => ?_, fun hs => ?_, fun hs => ?_⟩
    · obtain ⟨l, hl⟩ := busPump_requeue (s := { clearOut s with bus := { s.bus with busyWait := rest } })
        ⟨hq.carousel, hq.trimmer, hq.cooling, hq.probe⟩ hc (.req ⟨n, k, some q⟩)
      obtain ⟨ack, p, hp⟩ := sendRequest_again n k q { clearOut s with bus := { s.bus with busyWait := rest, lastServed := l } }
      have hx : exec (.requestRepeatDue n) s = .next (sendFrame (.req ⟨n, k, some q⟩)
          { clearOut s with bus := { s.bus with busyWait := rest, lastServed := l } }) :=
        congrArg Host.Outcome.next ((hexec (requestRepeat n)).trans ((requestRepeat_eq (s := clearOut s) hb rfl hw).trans hl))
      rw [hp] at hx
      exact ⟨_, hx, ⟨⟨rfl, rfl, rfl, rfl, rfl, rfl, rfl, rfl⟩, ⟨rfl, rfl, rfl, rfl, rfl, rfl⟩, .ofEq rfl, rfl⟩, rfl, rfl,
        (show (nodeRec (setNode n { nodeRec s n with ackPending := p } s) n).seq = _ by rw [nodeRec_setNode, if_pos rfl]), ack, rfl⟩
    · refine (congrArg Host.Outcome.next (hexec (requestRepeat n))).trans (congrArg _ ?_)
      unfold requestRepeat
      rw [find_repeat_none (l := (clearOut s).bus.busyWait) (now := (clearOut s).clock) hnone]
    · have hlate : ∀ r' g' w', s.bus.current = some (.request r' g' w') → 2 < (s.clock - w').toNat := fun r' g' w' e => by
        rw [hb] at e
        cases e
        exact hw
      have hnone : ∀ r' g' w', s.bus.current = some (.request r' g' w') → r'.seq ≠ some q ∨ 2 < (s.clock - w').toNat :=
        fun r' g' w' e => .inr (hlate r' g' w' e)
      have hunheard : ∀ {nd fits act busy}, Host.Outcome.next (takeAnswer nd fits q busy m act (clearOut s))
          = (Host.Outcome.next (clearOut s) : Host.Outcome State Fault Refusal) := fun {nd fits act busy} =>
        congrArg _ (takeAnswer_none (s := clearOut s) _ _ hnone)
      exact ⟨(exec_nodeStatusAnswer hlive _).trans hunheard, exec_probeAnswer_none hlive p m hlate,
        (exec_pushAnswer hlive _ _).trans hunheard, (exec_setAxesAnswer hlive _ _).trans hunheard,
        (exec_readAxesAnswer hlive _ _).trans hunheard, (exec_stepAnswer hlive _ _).trans hunheard⟩
    · have hx : exec (.nodeStatusDue n) s = .next (handRequest n .nodeStatus (clearOut s)) :=
        congrArg Host.Outcome.next ((hexec (statusDue n)).trans (if_pos (statusDue_iff.2 hs)))
      have hkept := handRequest_kept n .nodeStatus (clearOut_kept s)
      obtain ⟨l, hl⟩ := handOver_free (s := clearOut s) hq hc (.req ⟨n, .nodeStatus, none⟩)
      have hsent := sendRequest_sentNow (s := clearOut s) (n := n) (k := .nodeStatus) hs.1 rfl l
      rw [← hl] at hsent
      exact ⟨_, hx, hkept, hsent⟩
    · exact congrArg Host.Outcome.next ((hexec (statusDue n)).trans (if_neg (mt statusDue_iff.1 hs)))
    · have hstarting : ((clearOut s).line.state != .starting && due (clearOut s).clock (clearOut s).bus.probeBase
          Config.probeGap) = true := by
        rw [Bool.and_eq_true, bne_iff_ne, due_iff]
        exact hs
      obtain ⟨v, hv⟩ : ∃ v, v = { clearOut s with bus := { s.bus with probeBase := s.bus.probeBase + 1000 } } := ⟨_, rfl⟩
      have hx : exec .recoveryProbeDue s = .next (allNodes.foldl probeNode v) := by
        rw [hv]
        exact congrArg Host.Outcome.next ((hexec recoveryProbes).trans (if_pos hstarting))
      have h := foldl_probeNode allNodes v
      have hkept : LineKept s v := by rw [hv]; exact (clearOut_kept s).bus _
      have hpres : ∀ m, present v m = present s m := fun m =>
        present_of_nodes (by rw [hv]) m
      refine ⟨_, hx, hkept.trans h.kept, h.base.trans (by rw [hv]), fun hp ho => ?_, fun hall => ?_⟩
      · exact foldl_probeNode_asked (mem_allNodes n) ((hpres n).trans hp) (by rw [hv]; exact ho)
      · have hv' : ∀ m, present v m = true := fun m => by rw [hpres m]; exact hall m
        exact (foldl_probeNode_present _ hv').trans hv
    · refine congrArg Host.Outcome.next ((hexec recoveryProbes).trans (if_neg fun k => hs ?_))
      rw [Bool.and_eq_true, bne_iff_ne, due_iff] at k
      exact k

end Sys2Proof.Machine

/-! PROOFS. O49: misses and the loss of a node (9.2 to 9.4). -/

namespace Sys2Proof.Machine

section
variable {s t u v : State} {n m : NodeId} {k : ReqKind} {q : Byte} {b : Bus} {f : Frame} {x : BitVec 32}

/-! ## A notice through a fault of the line -/

theorem noticed_of_host {i : Notice} (h : Noticed i x s) (hh : t.host = s.host) : Noticed i x t := by
  rw [Noticed, hh]
  exact h

theorem lineFault_noticed {i : Notice} (c : FaultCause) (h : Noticed i x s) : Noticed i x (lineFault c s) := by
  rcases lineState_cases s with hs | hs | hs
  · rw [lineFault_of_faultable c hs]
    have hbooks : ∀ l : Line, (faultBooks { s with line := l }).host = s.host := fun _ => by simp only [faultBooks]
    have he : Noticed i x (faultEntered c s) := by
      unfold faultEntered
      exact enterState_noticed .faulted (noticed_of_host h (hbooks _))
    exact noticed_of_host he (carFault_stopped _ _).host
  · rw [lineFault_of_still c hs]
    exact h
  · rw [lineFault_of_faulted c hs]
    split_ifs <;> exact noticed_of_host h rfl

/-! ## A node that is gone -/

/-- The request on the bus has been given up by its owner (R156). -/
def GivenUp (b : Bus) : Prop := ∃ r w, b.current = some (.request r true w)

/-- The node is LOST, no request for it waits, and (with `g`) the request on the bus is given up (R156, R158). -/
structure Gone (g : Prop) (n : NodeId) (t : State) : Prop where
  state  : (nodeRec t n).state = .lost
  misses : (nodeRec t n).misses = 3
  frames : ∀ f ∈ t.bus.frames, ∀ q, f = .req q → q.node ≠ n
  given  : g → GivenUp t.bus

theorem Gone.absent {g : Prop} (h : Gone g n t) : present t n = false := by
  unfold present
  rw [h.state]
  rfl

/-- A change of the bus that keeps the node table and adds no request. -/
theorem Gone.frames_sub {g : Prop} (h : Gone g n s) (hn : t.bus.nodes = s.bus.nodes)
    (hf : ∀ f ∈ t.bus.frames, f ∈ s.bus.frames) (hc : g → GivenUp s.bus → GivenUp t.bus) : Gone g n t := by
  obtain ⟨h₁, h₂, h₃, h₄⟩ := h
  unfold nodeRec at h₁ h₂
  exact ⟨by unfold nodeRec; rw [hn]; exact h₁, by unfold nodeRec; rw [hn]; exact h₂, fun f hx => h₃ f (hf f hx),
    fun k => hc k (h₄ k)⟩

theorem Gone.of_bus {g : Prop} (h : Gone g n s) (hb : t.bus = s.bus) : Gone g n t :=
  h.frames_sub (by rw [hb]) (fun f hf => by rwa [hb] at hf) fun _ k => by rwa [hb]

theorem sendFrame_nodeState (f : Frame) (s : State) (n : NodeId) :
    (nodeRec (sendFrame f s) n).state = (nodeRec s n).state := by
  cases f with
  | req r =>
    have hl := startLimit_bus r.kind r.seq.isNone s
    have hrec : ∀ m, nodeRec (if r.seq.isNone then startLimit r.kind s else s) m = nodeRec s m := fun m => by
      unfold nodeRec
      rw [hl]
    show (nodeRec (setNode r.node _ (if r.seq.isNone then startLimit r.kind s else s)) n).state = _
    rw [nodeRec_setNode, hrec]
    split
    · next e => rw [e]
    · rfl
  | poll =>
    exact (clearAcks_kept s.bus.nodes (nodeIdx n)).1
  | work tag items again => rfl
  | abortAll => rfl
  | abortJob st => rfl
  | abortTrimmer => rfl

theorem pump_gone {g : Prop} (i : Nat) (h : Gone g n s) : Gone g n (pump i s) := by
  induction i generalizing s with
  | zero => exact h
  | succ i ih =>
    unfold pump
    split
    · next f b hcur hgrant =>
      refine ih ?_
      have hframes := (grant_granted hgrant).frames
      have hfree : g → ∀ v : State, GivenUp v.bus := fun k => by
        obtain ⟨r, w, hc⟩ := h.given k
        rw [hcur] at hc
        cases hc
      have hb : Gone g n { s with bus := b } :=
        h.frames_sub (grant_nodes hgrant).1 (fun x hx => (hframes x).2 (.inr hx)) fun k _ => hfree k _
      refine ⟨(sendFrame_nodeState f _ n).trans hb.state,
        ((sendFrame_busWork f { s with bus := b }).misses n).trans hb.misses,
        fun x hx => hb.frames x ?_, fun k => hfree k _⟩
      rwa [(sendFrame_bus f { s with bus := b }).1] at hx
    · exact h

section
variable {g : Prop}

theorem handOver_gone (h : Gone g n s) (hf : ∀ q, f = .req q → q.node ≠ n) : Gone g n (handOver f s) := by
  refine pump_gone _ ⟨?_, ?_, fun x hx => ?_, fun k => ?_⟩
  · show ((s.bus.enqueue f).nodes[nodeIdx n]).state = _
    rw [enqueue_nodes]
    exact h.state
  · show ((s.bus.enqueue f).nodes[nodeIdx n]).misses = _
    rw [enqueue_nodes]
    exact h.misses
  · rcases (enqueue_frames f _ x).1 hx with rfl | hx
    · exact hf
    · exact h.frames x hx
  · obtain ⟨r, w, hc⟩ := h.given k
    exact ⟨r, w, (enqueue_current f _).trans hc⟩

theorem endTransaction_gone (h : Gone g n s) : Gone False n (endTransaction s) :=
  pump_gone _ ⟨h.state, h.misses, h.frames, nofun⟩

theorem giveUp_gone (p : Request → Bool) (h : Gone g n s) : Gone g n (giveUp p s) :=
  h.frames_sub rfl (fun f hf => by
    rw [giveUp_frames] at hf
    exact (List.mem_filter.1 hf).1) fun _ ⟨r, w, hc⟩ => ⟨r, w, by simp [giveUp, hc]⟩

theorem slowPolls_gone (h : Gone g n s) : Gone g n (slowPolls s) := by
  unfold slowPolls
  split
  · exact h.frames_sub rfl (fun _ hx => hx) fun _ k => k
  · exact h

theorem abortDwell_gone (h : Gone g n s) : Gone g n (abortDwell s) := by
  obtain ⟨r, e, w, ha, -, -⟩ := abortDwell_eq s
  rw [ha]
  refine slowPolls_gone ((handOver_gone (f := .abortAll) h nofun).frames_sub rfl (fun f hf => ?_) fun _ k => k)
  rw [mem_frames] at hf ⊢
  exact hf.imp_left fun hc => (List.mem_filter.1 hc).1

theorem carFault_gone (e : Bool) (h : Gone g n s) : Gone g n (carFault e s) := by
  unfold carFault
  split
  · have k := (abortDwell_gone h).of_bus (t := setWorked false (abortDwell s)) rfl
    simp only
    split
    · exact k.of_bus rfl
    · exact k.of_bus rfl
  · exact (giveUp_gone isMove h).of_bus rfl
  · exact (giveUp_gone isMove h).of_bus rfl
  · split
    · exact h.of_bus rfl
    · exact h
  · exact h

theorem lineFault_gone (c : FaultCause) (h : Gone g n s) : Gone g n (lineFault c s) := by
  rcases lineState_cases s with hs | hs | hs
  · rw [lineFault_of_faultable c hs]
    obtain ⟨x, hx⟩ := faultEntered_eq c s
    exact carFault_gone _ (h.of_bus (by rw [hx]))
  · rw [lineFault_of_still c hs]
    exact h
  · rw [lineFault_of_faulted c hs]
    split_ifs <;> exact h.of_bus rfl

theorem raiseNotice_gone (i : Notice) (x : BitVec 32) (h : Gone g n s) : Gone g n (raiseNotice i x s) := by
  obtain ⟨y, hy⟩ := raiseNotice_host i x s
  exact h.of_bus (by rw [hy])

theorem trimFault_gone (c : TrimCause) (a : Bool) (h : Gone g n s) : Gone g n (trimFault c a s) := by
  unfold trimFault
  split
  · exact h.of_bus rfl
  · have k : Gone g n (trimFaultState c (giveUp isTrimWork s)) := (giveUp_gone isTrimWork h).of_bus rfl
    simp only
    split
    · unfold abortTrimmer
      split
      · exact handOver_gone k nofun
      · exact k
    · exact k

end

/-! ## The head of the cooling queue lost (R131) -/

/-- A head that leaves moves the jobs and sends frames at most (R124). -/
theorem roomGiven_work (s : State) : ∃ l, BusWork { s with car := { s.car with jobs := l } } (roomGiven s) := by
  have hnone : ∃ l, BusWork { s with car := { s.car with jobs := l } } s := ⟨s.car.jobs, .refl s⟩
  unfold roomGiven roomReport
  split
  · split
    · split
      · exact ⟨_, handOver_busWork _ _⟩
      · exact hnone
    · exact hnone
  · exact hnone

theorem roomGiven_gone {g : Prop} (h : Gone g n s) : Gone g n (roomGiven s) := by
  unfold roomGiven roomReport
  split
  · split
    · split
      · exact handOver_gone (h.of_bus rfl) nofun
      · exact h
    · exact h
  · exact h

/-- Bus work under another delivery record and another host link. -/
theorem BusWork.keptWith {a c : State} (h : BusWork a c) (d : Delivery) (y : HostLink) :
    LineKept { a with dlv := d } { c with dlv := d, host := y } := by
  obtain ⟨l, m, hc, -⟩ := h.car
  obtain ⟨_, _, _, ht⟩ := h.trim
  exact ⟨⟨h.clock, h.profiles, h.settings, by rw [h.glue], h.scan, h.pins, h.store, h.pending⟩,
    ⟨rfl, rfl, rfl, rfl, rfl, by rw [ht]⟩, .ofEq (by rw [hc]), by rw [h.tickets]⟩

/-- The part with the push given up and the head's reason recorded. -/
def headMarked (b : Book) (rest : List Book) (s : State) : State := { giveUp (fun r => isPush r.kind) s with
  dlv := { s.dlv with
    gate := .waitingRoom, gateConfirm := .none
    cooling := { b with reason := some (b.reason.getD .fault) } :: rest } }

/-- The part with the lost head's record written or waiting, before the line takes the fault. -/
structure HeadLost (b : Book) (rest : List Book) (s v : State) : Prop where
  kept      : LineKept { s with dlv := v.dlv } v
  line      : v.line = s.line
  bus       : v.bus = (headMarked b rest s).bus ∨ v.bus = (roomGiven (headMarked b rest s)).bus
  trim      : ∃ a c d, v.trim = { s.trim with moveTime := a, settleTimer := c, stepTimer := d }
  stop      : v.dlv.gateStop = true
  confirm   : v.dlv.gateConfirm = .none
  loaded    : v.dlv.loaded = s.dlv.loaded
  collected : v.dlv.collected = s.dlv.collected
  room      : s.dlv.done.length < 32 → v.dlv.gate = .idle ∧ v.dlv.cooling = rest ∧ v.dlv.waiters = s.dlv.waiters
    ∧ v.dlv.done = s.dlv.done ++ [{ b with
      reason := some (b.reason.getD .fault), outTime := some s.clock, outcome := some .rejected }]
  full      : 32 ≤ s.dlv.done.length → v.dlv.gate = .waitingRoom
    ∧ v.dlv.cooling = { b with reason := some (b.reason.getD .fault) } :: rest ∧ v.dlv.done = s.dlv.done
    ∧ v.dlv.waiters = s.dlv.waiters ++ [.cooling]

theorem headMarked_kept (b : Book) (rest : List Book) (s : State) (d : Delivery) (l : List Job) :
    LineKept { s with dlv := d } { headMarked b rest s with dlv := d, car := { s.car with jobs := l } } :=
  ⟨⟨rfl, rfl, rfl, rfl, rfl, rfl, rfl, rfl⟩, ⟨rfl, rfl, rfl, rfl, rfl, rfl⟩, .ofEq rfl, rfl⟩

/-- The head's record is written, the room report made (R124, R132). -/
theorem writeHolder_cooling {b : Book} {rest : List Book} (hq : s.dlv.cooling = b :: rest) : ∃ x y, writeHolder .cooling s = { roomGiven s with
    dlv := { s.dlv with
      cooling := rest, headTimer := x, gate := .idle
      done := s.dlv.done ++ [{ b with outTime := some s.clock, outcome := some .rejected }] }
    host := y } := by
  obtain ⟨x, hx⟩ := removeHead_eq (s := s) (d := s.dlv) rfl
  obtain ⟨y, hy⟩ := writeDone_host b .rejected (removeHead s)
  obtain ⟨l, hb⟩ := roomGiven_work s
  refine ⟨x, y, ?_⟩
  unfold writeHolder
  simp only [hq, hy]
  rw [show removeHead s = _ from hx, asDone_eq]
  simp only [hb.clock, ite_self, hq]
  rfl

theorem headMarked_lost (b : Book) (rest : List Book) (s : State) : HeadLost b rest s
    { writeOrWait .cooling (headMarked b rest s) with
      dlv := { (writeOrWait .cooling (headMarked b rest s)).dlv with gateStop := true } } := by
  obtain ⟨m, hm⟩ : ∃ m, m = headMarked b rest s := ⟨_, rfl⟩
  rw [← hm]
  have hmd : m.dlv = { s.dlv with
      gate := .waitingRoom, gateConfirm := .none
      cooling := { b with reason := some (b.reason.getD .fault) } :: rest } := by rw [hm]; rfl
  have hline : m.line = s.line := by rw [hm]; rfl
  have htrim : m.trim = s.trim := by rw [hm]; rfl
  by_cases hroom : s.dlv.done.length < 32
  · have hr : doneRoom m = true := decide_eq_true (by rw [hmd]; exact hroom)
    obtain ⟨l, hb⟩ := roomGiven_work m
    have hcool : m.dlv.cooling = { b with reason := some (b.reason.getD .fault) } :: rest := by rw [hmd]
    have hclock : m.clock = s.clock := by rw [hm]; rfl
    obtain ⟨x, y, hx⟩ := writeHolder_cooling hcool
    have hw : writeOrWait .cooling m = { roomGiven m with
        dlv := { m.dlv with
          cooling := rest, headTimer := x, gate := .idle
          done := m.dlv.done ++ [{ b with
            reason := some (b.reason.getD .fault), outTime := some s.clock, outcome := some .rejected }] }
        host := y } := by
      rw [writeOrWait, if_pos hr, hx, hclock]
    rw [hw]
    obtain ⟨a, c, d, ht⟩ := hb.trim
    refine ⟨?_, hb.line.trans hline, .inr (by rw [← hm]), ⟨a, c, d, ht.trans (by rw [htrim])⟩, rfl,
      by rw [hmd], by rw [hmd], by rw [hmd],
      fun _ => ⟨rfl, rfl, by rw [hmd], by rw [hmd]⟩, fun h => absurd hroom (Nat.not_lt.mpr h)⟩
    rw [hm] at hb ⊢
    exact (headMarked_kept b rest s _ l).trans (hb.keptWith _ _)
  · have hr : doneRoom m = false := decide_eq_false (by rw [hmd]; exact hroom)
    have hw : writeOrWait .cooling m = { m with dlv := { m.dlv with waiters := m.dlv.waiters ++ [.cooling] } } := by
      rw [writeOrWait, hr]
      rfl
    rw [hw]
    refine ⟨?_, hline, .inl (by rw [← hm]), ⟨s.trim.moveTime, s.trim.settleTimer, s.trim.stepTimer, htrim⟩, rfl,
      by rw [hmd], by rw [hmd],
      by rw [hmd], fun h => absurd h hroom, fun _ => ⟨by rw [hmd], by rw [hmd], by rw [hmd], by rw [hmd]⟩⟩
    rw [hm]
    exact headMarked_kept b rest s _ s.car.jobs

theorem headDecision_of_stopped (h : s.dlv.gateStop = true ∨ present s .cooling = false) : headDecision s = s := by
  have ha : pushAllowed s = false := by rcases h with h | h <;> simp [pushAllowed, h]
  unfold headDecision
  split
  · exact if_pos (by rw [ha]; rfl)
  · rfl

theorem FaultWork.gateStop (h : FaultWork s t) : t.dlv.gateStop = s.dlv.gateStop := by
  rcases h.dlv with h | ⟨-, h⟩ <;> rw [h]

theorem pushLost_empty (hq : s.dlv.cooling = []) : pushLost s = { giveUp (fun r => isPush r.kind) s with
    dlv := { s.dlv with gate := .idle, gateConfirm := .none, gateStop := true } } := by
  have hq' : (giveUp (fun r => isPush r.kind) s).dlv.cooling = [] := hq
  unfold pushLost
  simp only
  split
  · rfl
  · next hsome => exact absurd (hq'.symm.trans hsome) (by simp)

theorem pushLost_lost {rest : List Book} {b : Book} (hq : s.dlv.cooling = b :: rest) : ∃ v, HeadLost b rest s v
    ∧ pushLost s = raiseNotice .bookLost b.ticket.id (lineFault .bookLost v) := by
  refine ⟨_, headMarked_lost b rest s, ?_⟩
  obtain ⟨v, hv⟩ : ∃ v, v = { writeOrWait .cooling (headMarked b rest s) with
      dlv := { (writeOrWait .cooling (headMarked b rest s)).dlv with gateStop := true } } := ⟨_, rfl⟩
  have hstop : (raiseNotice .bookLost b.ticket.id (lineFault .bookLost v)).dlv.gateStop = true :=
    (faultNoticed_work _ _ _ v).gateStop.trans (by rw [hv])
  have hq' : (giveUp (fun r => isPush r.kind) s).dlv.cooling = b :: rest := hq
  have hmark : modifyHead (fun b => b.withReason .fault) { giveUp (fun r => isPush r.kind) s with
      dlv := { (giveUp (fun r => isPush r.kind) s).dlv with gate := .waitingRoom, gateConfirm := .none } }
      = headMarked b rest s := by
    simp only [modifyHead, hq', withReason_eq]
    rfl
  rw [← hv]
  unfold pushLost
  simp only
  split
  · next hnone => exact absurd (hq'.symm.trans hnone) (by simp)
  · next b' _ hsome =>
    obtain ⟨rfl, -⟩ : b = b' ∧ _ := List.cons.inj (hq'.symm.trans hsome)
    rw [hmark, ← hv]
    exact headDecision_of_stopped (.inl hstop)

theorem HeadLost.gone {g : Prop} {rest : List Book} {b : Book} (h : HeadLost b rest s v) (k : Gone g n s) :
    Gone g n v := by
  have hm : Gone g n (headMarked b rest s) := (giveUp_gone _ k).of_bus rfl
  rcases h.bus with h | h
  · exact hm.of_bus h
  · exact (roomGiven_gone hm).of_bus h

theorem pushLost_gone {g : Prop} (h : Gone g n s) : Gone g n (pushLost s) := by
  cases hq : s.dlv.cooling with
  | nil =>
    rw [pushLost_empty hq]
    exact (giveUp_gone _ h).of_bus rfl
  | cons b rest =>
    obtain ⟨v, hv, he⟩ := pushLost_lost hq
    rw [he]
    exact raiseNotice_gone _ _ (lineFault_gone _ (hv.gone h))

theorem pushLost_trim (s : State) :
    ∃ a c d, (pushLost s).trim = { s.trim with moveTime := a, settleTimer := c, stepTimer := d } := by
  cases hq : s.dlv.cooling with
  | nil => exact ⟨_, _, _, by rw [pushLost_empty hq]; rfl⟩
  | cons b rest =>
    obtain ⟨v, hv, he⟩ := pushLost_lost hq
    obtain ⟨_, _, _, ht⟩ := (faultNoticed_work .bookLost .bookLost b.ticket.id v).trim
    obtain ⟨_, _, _, hv⟩ := hv.trim
    exact ⟨_, _, _, by rw [he, ht, hv]⟩

/-! ## The owners of a lost node (R118, R149) -/

theorem lineFault_idle (c : FaultCause) (s : State) : (lineFault c s).line.state ≠ .running
    ∧ (lineFault c s).line.state ≠ .draining ∧ (lineFault c s).line.state ≠ .held := by
  have h := lineFault_faulted c s
  rcases lineState_cases s with hs | hs | hs
  · simp [h.state hs]
  · rw [h.still hs]
    rcases hs with hs | hs <;> simp [hs]
  · simp [h.again hs, hs]

theorem lineFault_unhomed (c : FaultCause) (hf : Faultable s) (h : s.car.state = .indexing ∨ s.car.state = .homing) :
    (lineFault c s).car.state = .unhomed := by
  obtain ⟨x, hx⟩ := faultEntered_eq c s
  have hs : (faultEntered c s).car.state = s.car.state := by rw [hx]
  rw [lineFault_of_faultable c hf]
  unfold carFault
  rcases h with h | h <;> rw [hs, h] <;> rfl

/-- GLUE's loss touches the pot's record alone (R76, R78). -/
theorem glueLost_of_idle
    (h : s.line.state ≠ .running ∧ s.line.state ≠ .draining ∧ s.line.state ≠ .held) : ∃ o, glueLost s = { s with
      glue := { s.glue with reading := none, window := none, cond := .notAtTemp, outOfBand := o } } := by
  have hsame : ∀ g, lineOutOfBand { s with glue := g } = { s with glue := g } := fun g => if_neg (by simp [h])
  unfold glueLost testBand
  split
  · simp only [hsame, ite_self]
    exact ⟨_, rfl⟩
  · exact ⟨_, rfl⟩

/-! ## The loss of a node (R158) -/

/-- The node is LOST and its requests and repeats are given up; the owners are not yet told. -/
def silenced (n : NodeId) (s : State) : State :=
  let s := setNode n { nodeRec s n with state := .lost, misses := 3 } s
  let s := giveUp (fun r => r.node == n) s
  { s with bus := { s.bus with carQ := s.bus.carQ.filter fun f => !isRepeatFor n f } }

/-- The bus carries a request for the node. -/
def OnBus (n : NodeId) (b : Bus) : Prop := ∃ r g w, b.current = some (.request r g w) ∧ r.node = n

theorem silenced_gone (n : NodeId) (s : State) : Gone (OnBus n s.bus) n (silenced n s) where
  state := by
    show (nodeRec (setNode n { nodeRec s n with state := .lost, misses := 3 } s) n).state = _
    rw [nodeRec_setNode, if_pos rfl]
  misses := by
    show (nodeRec (setNode n { nodeRec s n with state := .lost, misses := 3 } s) n).misses = _
    rw [nodeRec_setNode, if_pos rfl]
  frames f hf q hq hn := by
    have hg : f ∈ (giveUp (fun r => r.node == n) (setNode n { nodeRec s n with state := .lost, misses := 3 } s)).bus.frames := by
      rw [mem_frames] at hf ⊢
      exact hf.imp_left fun hc => (List.mem_filter.1 hc).1
    rw [giveUp_frames, hq] at hg
    simp [frameReq, hn] at hg
  given := fun ⟨r, g, w, hc, hn⟩ => ⟨r, w, by simp [silenced, giveUp, setNode, hc, hn]⟩

/-- The node is LOST and the notice is raised; the owners are not yet told. -/
def lossRaised (n : NodeId) (s : State) : State := raiseNotice .nodeLost (BitVec.ofNat 32 (nodeAddr n)) (silenced n s)

theorem lossRaised_eq (n : NodeId) (s : State) :
    ∃ b y, lossRaised n s = { s with bus := b, host := y }
      ∧ (∀ tag slot, s.bus.current = some (.poll tag slot) → b.current = s.bus.current) := by
  obtain ⟨y, hy⟩ := raiseNotice_host .nodeLost (BitVec.ofNat 32 (nodeAddr n)) (silenced n s)
  exact ⟨_, y, hy, fun _ _ h => by simp [silenced, giveUp, setNode, h]⟩

theorem lossRaised_gone (n : NodeId) (s : State) : Gone (OnBus n s.bus) n (lossRaised n s) :=
  raiseNotice_gone _ _ (silenced_gone n s)

theorem nodeLost_eq (n : NodeId) (s : State) : nodeLost n s = lossReported n (lossRaised n s) := rfl

theorem nodeLost_gone (n : NodeId) (s : State) : Gone (OnBus n s.bus) n (nodeLost n s) := by
  have h := lossRaised_gone n s
  rw [nodeLost_eq]
  cases n with
  | cooling =>
    unfold lossReported
    simp only
    split
    · exact pushLost_gone (trimFault_gone _ _ h)
    · exact trimFault_gone _ _ h
  | trimmer => exact trimFault_gone _ _ h
  | glue =>
    obtain ⟨o, ho⟩ := glueLost_of_idle (lineFault_idle .nodeLost (lossRaised .glue s))
    exact Gone.of_bus (lineFault_gone _ h) (by unfold lossReported; rw [ho])
  | drive | loader | mill | cover | nip | release => exact lineFault_gone _ h

theorem nodeLost_tables (n : NodeId) (s : State) : TablesKept s (nodeLost n s) := by
  obtain ⟨b, y, hy, -⟩ := lossRaised_eq n s
  have h : TablesKept s (lossRaised n s) := by
    rw [hy]
    exact ⟨rfl, rfl, rfl, rfl, rfl, rfl, rfl, rfl⟩
  have hline : TablesKept s (lineFault .nodeLost (lossRaised n s)) := (lineFault_kept _ (.refl _)).thenTables h
  rw [nodeLost_eq]
  cases n with
  | cooling => exact .ite (fun _ => pushLost_tables (trimFault_tables _ _ h)) fun _ => trimFault_tables _ _ h
  | trimmer => exact trimFault_tables _ _ h
  | glue =>
    obtain ⟨o, ho⟩ := glueLost_of_idle (lineFault_idle .nodeLost (lossRaised .glue s))
    unfold lossReported
    rw [ho]
    exact hline.trans ⟨rfl, rfl, rfl, rfl, rfl, rfl, rfl, rfl⟩
  | drive | loader | mill | cover | nip | release => exact hline

/-- The loss of one of the nodes 1 to 7, as the line takes it (R118, R158). -/
structure LineLost (n : NodeId) (s t : State) : Prop where
  kept    : LineKept s t
  faulted : LineFaulted s t .nodeLost
  noticed : Noticed .nodeLost (BitVec.ofNat 32 (nodeAddr n)) t
  poll    : ∀ tag slot, s.bus.current = some (.poll tag slot) → t.bus.current = some (.poll tag slot)
  unhomed : Faultable s → s.car.state = .indexing ∨ s.car.state = .homing → t.car.state = .unhomed

theorem lineFault_lost (n : NodeId) (s : State) : LineLost n s (lineFault .nodeLost (lossRaised n s)) := by
  have hnoticed : Noticed .nodeLost (BitVec.ofNat 32 (nodeAddr n)) (lossRaised n s) := noticed_raiseNotice _ _ _
  obtain ⟨b, y, hy, hpoll⟩ := lossRaised_eq n s
  have hcar : (lossRaised n s).car = s.car := by rw [hy]
  have hkept : LineKept s (lossRaised n s) := by
    rw [hy]
    exact (LineKept.refl s).next ⟨rfl, rfl, rfl, rfl, rfl, rfl, rfl, rfl⟩ ⟨rfl, rfl, rfl, rfl, rfl, rfl⟩ rfl rfl
  exact {
    kept := lineFault_kept _ hkept
    faulted := (lineFault_faulted .nodeLost (lossRaised n s)).congr (by rw [hy]) rfl rfl rfl
    noticed := lineFault_noticed _ hnoticed
    poll := fun tag slot h => ((lineFault_work _ _).poll tag slot (by rw [hy]; exact (hpoll tag slot h).trans h)).1
    unhomed := fun hf hm => lineFault_unhomed _ (by rw [Faultable, hy]; exact hf) (by rw [hcar]; exact hm) }

theorem nodeLost_line (hc : n ≠ .cooling) (ht : n ≠ .trimmer) (s : State) : LineLost n s (nodeLost n s) := by
  have h := lineFault_lost n s
  rw [nodeLost_eq]
  cases n with
  | cooling => exact absurd rfl hc
  | trimmer => exact absurd rfl ht
  | glue =>
    obtain ⟨o, ho⟩ := glueLost_of_idle (lineFault_idle .nodeLost (lossRaised .glue s))
    unfold lossReported
    rw [ho]
    exact ⟨h.kept.trans ⟨⟨rfl, rfl, rfl, rfl, rfl, rfl, rfl, rfl⟩, ⟨rfl, rfl, rfl, rfl, rfl, rfl⟩, .ofEq rfl, rfl⟩,
      h.faulted.congr rfl rfl rfl rfl, noticed_of_host h.noticed rfl, h.poll, h.unhomed⟩
  | drive | loader | mill | cover | nip | release => exact h

theorem nodeLost_glue (s : State) : (nodeLost .glue s).glue.reading = none
    ∧ (nodeLost .glue s).glue.cond = .notAtTemp ∧ (nodeLost .glue s).glue.window = none := by
  obtain ⟨o, ho⟩ := glueLost_of_idle (lineFault_idle .nodeLost (lossRaised .glue s))
  rw [nodeLost_eq]
  unfold lossReported
  rw [ho]
  exact ⟨rfl, rfl, rfl⟩

theorem nodeLost_trimmer (s : State) : (nodeLost .trimmer s).trim.state = .faulted
    ∧ (nodeLost .trimmer s).trim.cause = some .nodeLost ∧ (nodeLost .trimmer s).line = s.line
    ∧ Noticed .nodeLost 9 (nodeLost .trimmer s) := by
  have hw := trimFault_work .nodeLost false (lossRaised .trimmer s)
  have hnoticed : Noticed .nodeLost 9 (lossRaised .trimmer s) := noticed_raiseNotice _ _ _
  obtain ⟨b, y, hy, -⟩ := lossRaised_eq .trimmer s
  exact ⟨hw.faulted, trimFault_cause _ _ _, hw.line.trans (by rw [hy]), noticed_of_host hnoticed hw.host⟩

/-- COOLING's loss faults the trimmer; a push in flight loses its head (R131). -/
theorem nodeLost_cooling (s : State) :
    ((nodeLost .cooling s).trim.state = .faulted ∧ (nodeLost .cooling s).trim.cause = some .nodeLost)
    ∧ (pushing s = true → s.dlv.cooling ≠ [] → (nodeLost .cooling s).dlv.gateStop = true
      ∧ LineFaulted s (nodeLost .cooling s) .bookLost)
    ∧ (pushing s = false → (nodeLost .cooling s).line = s.line ∧ (nodeLost .cooling s).dlv = s.dlv
      ∧ Noticed .nodeLost 8 (nodeLost .cooling s)) := by
  have hw := trimFault_work .nodeLost true (lossRaised .cooling s)
  have hcause := trimFault_cause .nodeLost true (lossRaised .cooling s)
  have hnoticed : Noticed .nodeLost 8 (lossRaised .cooling s) := noticed_raiseNotice _ _ _
  obtain ⟨b, y, hy, -⟩ := lossRaised_eq .cooling s
  obtain ⟨u, hu⟩ : ∃ u, u = trimFault .nodeLost true (lossRaised .cooling s) := ⟨_, rfl⟩
  have hlost : nodeLost .cooling s = if pushing u then pushLost u else u := by rw [hu]; rfl
  rw [← hu] at hw hcause
  have hdlv : u.dlv = s.dlv := hw.dlv.trans (by rw [hy])
  have hline : u.line = s.line := hw.line.trans (by rw [hy])
  have hpush : pushing u = pushing s := by rw [pushing, hdlv, ← pushing]
  rw [hlost, hpush]
  refine ⟨?_, fun hp hq => ?_, fun hp => ?_⟩
  · split
    · obtain ⟨_, _, _, ht⟩ := pushLost_trim u
      rw [ht]
      exact ⟨hw.faulted, hcause⟩
    · exact ⟨hw.faulted, hcause⟩
  · rw [if_pos hp]
    obtain ⟨b, rest, hq⟩ := List.exists_cons_of_ne_nil hq
    obtain ⟨v, hv, he⟩ := pushLost_lost (s := u) ((congrArg _ hdlv).trans hq)
    have hf := lineFault_faulted .bookLost v
    obtain ⟨y, hy⟩ := raiseNotice_host .bookLost b.ticket.id (lineFault .bookLost v)
    rw [he]
    exact ⟨(faultNoticed_work _ _ _ v).gateStop.trans hv.stop,
      hf.congr (hline.symm.trans hv.line.symm) (by rw [hy]) (by rw [hy]) (by rw [hy])⟩
  · rw [if_neg (by rw [hp]; decide)]
    exact ⟨hline, hdlv, noticed_of_host hnoticed hw.host⟩

/-! ## Misses (R157) -/

theorem nodeMiss_absent (h : present s n = false) : nodeMiss n s = s := by
  unfold nodeMiss
  exact if_neg (by rw [show ((nodeRec s n).state == .present) = false from h]; decide)

theorem nodeMiss_counted (h : present s n = true) (hm : (nodeRec s n).misses < 2) :
    nodeMiss n s = setNode n { nodeRec s n with misses := (nodeRec s n).misses + 1 } s := by
  unfold nodeMiss
  exact (if_pos h).trans (if_pos (by omega))

theorem nodeMiss_third (h : present s n = true) (hm : 2 ≤ (nodeRec s n).misses) : nodeMiss n s = nodeLost n s := by
  unfold nodeMiss
  exact (if_pos h).trans (if_neg (by omega))

theorem slotMissed_of_poll {tag : BitVec 8} {slot : Nat} (h : s.bus.current = some (.poll tag slot))
    (hn : slotNode slot = some n) : slotMissed s = slotClosed (nodeMiss n s) := by
  unfold slotMissed
  rw [h]
  simp only [hn]

theorem slotMissed_of_none (h : ∀ tag slot, s.bus.current ≠ some (.poll tag slot)) : slotMissed s = s := by
  unfold slotMissed
  split
  · next hc => exact absurd hc (h _ _)
  · rfl

/-- The slot of a lost node closes as any other (R153). -/
theorem Gone.slotClosed {g : Prop} {tag : BitVec 8} {slot : Nat} (h : Gone g n s)
    (hc : s.bus.current = some (.poll tag slot)) : Gone False n (slotClosed s) := by
  rw [slotClosed_of_poll hc]
  exact ⟨h.state, h.misses, h.frames, nofun⟩

/-! ## Reply windows (R153) -/

theorem offerAgain_of_given (h : GivenUp s.bus) : offerAgain s = s := by
  obtain ⟨r, w, hc⟩ := h
  unfold offerAgain
  rw [hc]

theorem windowClosed_early {r : Request} {g : Bool} {w : Time} (hc : s.bus.current = some (.request r g w))
    (h : (s.clock - w).toNat < 2) : windowClosed s = s := by
  have hd : due s.clock w Config.replyWindow = false := by
    rw [Bool.eq_false_iff, Ne, due_iff]
    exact Nat.not_le.mpr h
  unfold windowClosed
  simp [hc, hd]

theorem windowClosed_due {r : Request} {g : Bool} {w : Time} (hc : s.bus.current = some (.request r g w))
    (h : 2 ≤ (s.clock - w).toNat) : windowClosed s = if probeOnce s r then
      endTransaction (match r.kind with
        | .probe true => probeEnded s
        | _ => s)
      else endTransaction (offerAgain (nodeMiss r.node s)) := by
  have hd : due s.clock w Config.replyWindow = true := (due_iff _ _ _).2 h
  unfold windowClosed
  simp only [hc, hd]
  rfl

theorem windowClosed_none (h : ∀ q g w, s.bus.current ≠ some (.request q g w)) : windowClosed s = s := by
  unfold windowClosed
  split
  · next hc => exact absurd hc (h _ _ _)
  · rfl

/-- The request is on the bus again with its number, and nothing but the bus has moved (R157). -/
structure OfferedAgain (n : NodeId) (k : ReqKind) (q : Byte) (s t : State) : Prop where
  kept    : LineKept s t
  line    : t.line = s.line
  misses  : (nodeRec t n).misses = (nodeRec s n).misses
  state   : (nodeRec t n).state = (nodeRec s n).state
  seq     : (nodeRec t n).seq = (nodeRec s n).seq
  current : t.bus.current = some (.request ⟨n, k, some q⟩ false s.clock)
  busOut  : ∃ ack, t.busOut = s.busOut ++ [BusContent.frame (.request n k q ack)]

/-- An unanswered request has the free bus to itself again (R157). -/
theorem endTransaction_again {w : Time} (hc : s.bus.current = some (.request ⟨n, k, some q⟩ false w))
    (hq : NothingWaits s.bus) : OfferedAgain n k q s (endTransaction (offerAgain s)) := by
  obtain ⟨u, hu⟩ : ∃ u : State, u = { s with bus := { s.bus with current := none } } := ⟨_, rfl⟩
  have hoffer : endTransaction (offerAgain s) = busPump { u with bus := u.bus.requeue (.req ⟨n, k, some q⟩) } := by
    unfold offerAgain endTransaction
    rw [hc, hu]
    simp only [Bus.requeue]
    split <;> rfl
  obtain ⟨l, hl⟩ := busPump_requeue (s := u) (by rw [hu]; exact ⟨hq.carousel, hq.trimmer, hq.cooling, hq.probe⟩)
    (by rw [hu]) (.req ⟨n, k, some q⟩)
  obtain ⟨ack, p, hs⟩ := sendRequest_again n k q { u with bus := { u.bus with lastServed := l } }
  obtain ⟨v, hv⟩ : ∃ v, v = { s with
      bus := { s.bus with
        nodes := s.bus.nodes.set (nodeIdx n).val { nodeRec s n with ackPending := p }
        current := some (.request ⟨n, k, some q⟩ false s.clock)
        lastServed := l }
      busOut := s.busOut ++ [BusContent.frame (.request n k q ack)] } := ⟨_, rfl⟩
  have hrec : nodeRec v n = { nodeRec s n with ackPending := p } := by
    rw [hv]
    exact Vector.getElem_set_self ..
  have he : endTransaction (offerAgain s) = v := by
    rw [hoffer, hl, hs, hu, hv]
    rfl
  rw [he]
  exact ⟨by rw [hv]; exact ⟨⟨rfl, rfl, rfl, rfl, rfl, rfl, rfl, rfl⟩, ⟨rfl, rfl, rfl, rfl, rfl, rfl⟩, .ofEq rfl, rfl⟩,
    by rw [hv], by rw [hrec], by rw [hrec], by rw [hrec], by rw [hv], ack, by rw [hv]⟩

end

theorem Gone.lost {g : Prop} {n : NodeId} {t : State} (h : Gone g n t) :
    (nodeRec t n).state = .lost ∧ (nodeRec t n).misses = 3
      ∧ (∀ f ∈ t.bus.carQ ++ t.bus.trimQ ++ t.bus.coolQ ++ t.bus.probeQ, ∀ q, f = .req q → q.node ≠ n) :=
  ⟨h.state, h.misses, h.frames⟩

/-- A frame that fails its check is discarded (R153). -/
theorem exec_failedFrame {s : State} (hl : s.pins.inReset = false) (n : NodeId) (l : List (Station × JobAnswer))
    (temp : Option Nat) (q : Byte) (a : Answer) (x : HomeAnswer) (e : AxesAnswer) (p : Option (Fin 20)) (m : Bool) :
    ∀ c ∈ [Instr.slotAnswer n l temp ⟨m, false⟩, .indexAnswer q a ⟨m, false⟩, .homeAnswer q x ⟨m, false⟩,
      .pushAnswer q a ⟨m, false⟩, .setAxesAnswer q a ⟨m, false⟩, .readAxesAnswer q e ⟨m, false⟩,
      .stepAnswer q a ⟨m, false⟩, .nodeStatusAnswer n q ⟨m, false⟩, .probeAnswer n q p ⟨m, false⟩],
      exec c s = .next (clearOut s) := by
  have hdrop : ∀ f, (Host.Outcome.next (live (received false f) s) : Host.Outcome State Fault Refusal)
      = .next (clearOut s) := fun f => by
    rw [live_next _ _ hl]
    rfl
  simp only [List.forall_mem_cons, List.not_mem_nil, false_imp_iff, implies_true, and_true]
  exact ⟨hdrop _, hdrop _, hdrop _, hdrop _, hdrop _, hdrop _, hdrop _, hdrop _, hdrop _⟩

/-- Settles O49: an answer that does not come is a miss, the third of them the loss of its node. -/
theorem missesAndLoss : Obligations.MissesAndLoss := by
  intro s hl missed lost
  have hslot : exec .slotEmpty s = .next (slotMissed (clearOut s)) := congrArg _ (live_next _ _ hl)
  have hwindow : exec .replyWindowClosed s = .next (windowClosed (clearOut s)) := congrArg _ (live_next _ _ hl)
  refine ⟨fun n q l temp => exec_failedFrame hl n l temp q, fun tag slot n hc hn => ?_, fun h => ?_, fun n k q g w hc hw => ?_,
    fun n k q w hc hw hq => ?_, fun h => ?_⟩
  · have hmissed := slotMissed_of_poll (s := clearOut s) hc hn
    refine ⟨fun hp => ?_, fun hp hm => ?_, fun hp hm => ?_⟩
    · rw [hslot, hmissed, nodeMiss_absent (s := clearOut s) hp, slotClosed_of_poll (s := clearOut s) hc]
      rfl
    · rw [hslot, hmissed, nodeMiss_counted (s := clearOut s) hp hm]
      exact congrArg _ (slotClosed_of_poll (s := setNode n _ (clearOut s)) hc)
    · have hne : n ≠ .cooling ∧ n ≠ .trimmer := by
        constructor <;>
        · rintro rfl
          unfold slotNode at hn
          split at hn <;> cases hn
      obtain ⟨kept, faulted, noticed, poll, -⟩ := nodeLost_line hne.1 hne.2 (clearOut s)
      have hpoll := poll tag slot hc
      have hgone := (nodeLost_gone n (clearOut s)).slotClosed hpoll
      have hx : exec .slotEmpty s = .next (slotClosed (nodeLost n (clearOut s))) := by
        rw [hslot, hmissed, nodeMiss_third (s := clearOut s) hp hm]
      rw [slotClosed_of_poll hpoll] at hx hgone
      refine ⟨_, hx, (clearOut_kept s).trans (kept.bus _), hgone.lost, rfl, faulted.congr rfl rfl rfl rfl,
        noticed_of_host noticed rfl, ?_⟩
      rintro rfl
      exact nodeLost_glue _
  · exact hslot.trans (congrArg _ (slotMissed_of_none (s := clearOut s) h))
  · exact hwindow.trans (congrArg _ (windowClosed_early (s := clearOut s) hc hw))
  · have hdue := windowClosed_due (s := clearOut s) hc hw
    refine ⟨?_, ?_, fun hk hp hm => ?_, fun hk hp hm => ?_⟩
    · rintro rfl hp
      have hone : probeOnce (clearOut s) ⟨n, .probe false, some q⟩ = true := by
        simp [probeOnce, show present (clearOut s) n = false from hp]
      rw [hwindow, hdue, if_pos hone]
      exact congrArg _ (endTransaction_quiet hq)
    · rintro rfl hm
      have hone : probeOnce (clearOut s) ⟨n, .probe true, some q⟩ = true := rfl
      rw [hwindow, hdue, if_pos hone]
      exact congrArg _ (by simp only; rw [probeEnded_more (s := clearOut s) hm]; exact endTransaction_counted hq)
    all_goals
      have hone : probeOnce (clearOut s) ⟨n, k, some q⟩ = false := by
        unfold probeOnce
        split
        · next b he =>
          cases b
          · simp [show present (clearOut s) n = true from hp]
          · exact absurd he hk
        · rfl
      rw [hone] at hdue
    · obtain ⟨u, hu⟩ : ∃ u, u = setNode n { nodeRec s n with misses := (nodeRec s n).misses + 1 } (clearOut s) := ⟨_, rfl⟩
      have hrec : nodeRec u n = { nodeRec s n with misses := (nodeRec s n).misses + 1 } := by
        rw [hu, nodeRec_setNode, if_pos rfl]
      have hkept : LineKept s u := by
        rw [hu]
        exact (clearOut_kept s).bus _
      have hmiss : nodeMiss n (clearOut s) = u := (nodeMiss_counted (s := clearOut s) hp hm).trans hu.symm
      obtain ⟨kept, line, misses, state, seq, current, ack, out⟩ :=
        endTransaction_again (s := u) (by rw [hu]; exact hc) (by rw [hu]; exact ⟨hq.carousel, hq.trimmer, hq.cooling, hq.probe⟩)
      have hx : exec .replyWindowClosed s = .next (endTransaction (offerAgain u)) := by
        rw [hwindow, hdue, if_neg (by decide), hmiss]
      refine ⟨_, hx, hkept.trans kept, line.trans (by rw [hu]; rfl), misses.trans (by rw [hrec]), state.trans ?_,
        seq.trans (by rw [hrec]), current.trans (by rw [hu]; rfl), ack, out.trans (by rw [hu]; rfl)⟩
      rw [hrec]
      exact beq_iff_eq.1 hp
    · have hlost := nodeLost_gone n (clearOut s)
      have hx : exec .replyWindowClosed s = .next (endTransaction (nodeLost n (clearOut s))) := by
        rw [hwindow, hdue, if_neg (by decide), nodeMiss_third (s := clearOut s) hp hm, offerAgain_of_given (hlost.given ⟨_, _, _, hc, rfl⟩)]
      have hb := endTransaction_busWork (nodeLost n (clearOut s))
      obtain ⟨l, m, hcar, -⟩ := hb.car
      obtain ⟨_, _, _, htrim⟩ := hb.trim
      have htables := ((clearOut_tables s).trans (nodeLost_tables n _)).trans hb.tables
      have hclamps : (endTransaction (nodeLost n (clearOut s))).car.clamps = (nodeLost n (clearOut s)).car.clamps := by
        rw [hcar]
      refine ⟨_, hx, (endTransaction_gone hlost).lost, htables, ?_, ?_, ?_, ?_, ?_⟩
      · rintro rfl
        obtain ⟨kept, faulted, noticed, -, unhomed⟩ := nodeLost_line (n := .drive) nofun nofun (clearOut s)
        exact ⟨((clearOut_kept s).trans kept).trans hb.lineKept,
          faulted.congr rfl hb.line (by rw [hb.glue]) hclamps, noticed_of_host noticed hb.host,
          fun hf hm => by rw [hcar]; exact unhomed hf hm⟩
      · rw [htrim]
        rintro (rfl | rfl)
        · exact (nodeLost_cooling _).1
        · exact ⟨(nodeLost_trimmer _).1, (nodeLost_trimmer _).2.1⟩
      · rintro rfl
        obtain ⟨-, -, hline, hnoticed⟩ := nodeLost_trimmer (clearOut s)
        exact ⟨hb.line.trans hline, noticed_of_host hnoticed hb.host⟩
      · rintro rfl hpush hcool
        obtain ⟨hstop, hfault⟩ := (nodeLost_cooling (clearOut s)).2.1 hpush hcool
        exact ⟨by rw [hb.dlv]; exact hstop, hfault.congr rfl hb.line (by rw [hb.glue]) hclamps⟩
      · rintro rfl hpush
        obtain ⟨hline, hdlv, hnoticed⟩ := (nodeLost_cooling (clearOut s)).2.2 hpush
        exact ⟨hb.line.trans hline, hb.dlv.trans hdlv, noticed_of_host hnoticed hb.host⟩
  · exact hwindow.trans (congrArg _ (windowClosed_none (s := clearOut s) h))

end Sys2Proof.Machine

/-! PROOFS. O51: pushes of the reject gate (7.3, 9.4). -/

namespace Sys2Proof.Machine

section
variable {s t u v : State} {n : NodeId} {k : ReqKind} {q : Byte} {b : Book} {rest : List Book} {p : ReqKind → Bool}
  {f : Frame}

/-! ## Requests that are asked no more (R156) -/

/-- No request of such a kind waits, is on the bus or waits its 5 ms. -/
def NotAsked (p : ReqKind → Bool) (b : Bus) : Prop := ∀ n k, p k = true → ¬Asked b n k

theorem sendFrame_carries {r : Request} {g : Bool} {w : Time} (hc : s.bus.current = none)
    (h : (sendFrame f s).bus.current = some (.request r g w)) : ∃ q, f = .req ⟨r.node, r.kind, q⟩ := by
  cases f with
  | req r' =>
    cases h
    exact ⟨_, rfl⟩
  | poll => cases h
  | work tag items again => exact absurd (hc.symm.trans h) (by simp)
  | abortAll => exact absurd (hc.symm.trans h) (by simp)
  | abortJob st => exact absurd (hc.symm.trans h) (by simp)
  | abortTrimmer => exact absurd (hc.symm.trans h) (by simp)

theorem pump_notAsked (i : Nat) (h : NotAsked p s.bus) : NotAsked p (pump i s).bus := by
  induction i generalizing s with
  | zero => exact h
  | succ i ih =>
    unfold pump
    split
    · next f b hcur hgrant =>
      obtain ⟨hframes, hbusy⟩ := grant_granted hgrant
      obtain ⟨hf, hw, -⟩ := sendFrame_bus f { s with bus := b }
      refine ih fun n k hk ha => h n k hk ?_
      rcases ha with ⟨x, hx, hxq⟩ | ⟨q, g, w, hc⟩ | ⟨q, w, hm⟩
      · exact .inl ⟨x, (hframes x).2 (.inr (by rw [← Bus.frames, hf] at hx; exact hx)), hxq⟩
      · obtain ⟨q', hq⟩ := sendFrame_carries (s := { s with bus := b }) ((grant_nodes hgrant).2.trans hcur) hc
        exact .inl ⟨f, (hframes f).2 (.inl rfl), q', hq⟩
      · exact .inr (.inr ⟨q, w, by rw [hw, show b.busyWait = _ from hbusy] at hm; exact hm⟩)
    · exact h

theorem handOver_notAsked (hf : frameReq (fun r => p r.kind) f = false) (h : NotAsked p s.bus) :
    NotAsked p (handOver f s).bus := by
  refine pump_notAsked _ fun n k hk ha => ?_
  rcases ha with ⟨x, hx, q, hxq⟩ | ⟨q, g, w, hc⟩ | ⟨q, w, hm⟩
  · rcases (enqueue_frames f _ x).1 hx with rfl | hx
    · rw [hxq] at hf
      exact absurd (hk.symm.trans hf) (by decide)
    · exact h n k hk (.inl ⟨x, hx, q, hxq⟩)
  · exact h n k hk (.inr (.inl ⟨q, g, w, (enqueue_current f _).symm.trans hc⟩))
  · exact h n k hk (.inr (.inr ⟨q, w, by rwa [enqueue_busyWait] at hm⟩))

theorem NotAsked.sub {b c : Bus} (h : NotAsked p b) (hf : ∀ x ∈ c.frames, x ∈ b.frames)
    (hc : ∀ r g w, c.current = some (.request r g w) → ∃ g, b.current = some (.request r g w))
    (hb : ∀ x ∈ c.busyWait, x ∈ b.busyWait) : NotAsked p c := fun n k hk ha => h n k hk <| by
  rcases ha with ⟨x, hx, hxq⟩ | ⟨q, g, w, h⟩ | ⟨q, w, hm⟩
  · exact .inl ⟨x, hf x hx, hxq⟩
  · obtain ⟨g, h⟩ := hc _ _ _ h
    exact .inr (.inl ⟨q, g, w, h⟩)
  · exact .inr (.inr ⟨q, w, hb _ hm⟩)

theorem endTransaction_notAsked (h : NotAsked p s.bus) : NotAsked p (endTransaction s).bus :=
  pump_notAsked _ (h.sub (fun _ hx => hx) nofun fun _ hx => hx)

theorem giveUp_sub (c : Request → Bool) (h : NotAsked p s.bus) : NotAsked p (giveUp c s).bus := by
  refine h.sub (fun x hx => ?_) (fun r g w hc => ?_) fun x hx => (List.mem_filter.1 hx).1
  · rw [giveUp_frames] at hx
    exact (List.mem_filter.1 hx).1
  · simp only [giveUp] at hc
    split at hc
    · next e =>
      cases hc
      exact ⟨_, e⟩
    · exact ⟨g, hc⟩

theorem slowPolls_notAsked (h : NotAsked p s.bus) : NotAsked p (slowPolls s).bus := by
  unfold slowPolls
  split
  · exact h.sub (fun _ hx => hx) (fun _ g _ hc => ⟨g, hc⟩) fun _ hx => hx
  · exact h

theorem abortDwell_notAsked (h : NotAsked p s.bus) : NotAsked p (abortDwell s).bus := by
  obtain ⟨r, e, w, ha, -, -⟩ := abortDwell_eq s
  rw [ha]
  refine slowPolls_notAsked ((handOver_notAsked (f := .abortAll) rfl h).sub (fun x hx => ?_) (fun _ g _ hc => ⟨g, hc⟩)
    fun _ hx => hx)
  rw [mem_frames] at hx ⊢
  exact hx.imp_left fun hc => (List.mem_filter.1 hc).1

theorem carFault_notAsked (e : Bool) (h : NotAsked p s.bus) : NotAsked p (carFault e s).bus := by
  unfold carFault
  split
  · have k : NotAsked p (setWorked false (abortDwell s)).bus := abortDwell_notAsked h
    simp only
    split <;> exact k
  · exact giveUp_sub isMove h
  · exact giveUp_sub isMove h
  · split <;> exact h
  · exact h

theorem lineFault_notAsked (c : FaultCause) (h : NotAsked p s.bus) : NotAsked p (lineFault c s).bus := by
  rcases lineState_cases s with hs | hs | hs
  · rw [lineFault_of_faultable c hs]
    obtain ⟨x, hx⟩ := faultEntered_eq c s
    exact carFault_notAsked _ (by rw [hx]; exact h)
  · rw [lineFault_of_still c hs]
    exact h
  · rw [lineFault_of_faulted c hs]
    split_ifs <;> exact h

theorem roomGiven_notAsked (h : NotAsked p s.bus) : NotAsked p (roomGiven s).bus := by
  unfold roomGiven roomReport
  split
  · split
    · split
      · exact handOver_notAsked rfl h
      · exact h
    · exact h
  · exact h

/-- What is given up is asked no more unless the bus carries it (R156). -/
theorem giveUp_notAsked (hc : ∀ r g w, s.bus.current = some (.request r g w) → p r.kind = false) :
    NotAsked p (giveUp (fun r => p r.kind) s).bus := by
  intro n k hk ha
  rcases ha with ⟨x, hx, q, hxq⟩ | ⟨q, g, w, ha⟩ | ⟨q, w, hm⟩
  · rw [← Bus.frames, giveUp_frames, hxq] at hx
    simp [frameReq, hk] at hx
  · simp only [giveUp] at ha
    split at ha
    · next r g' w' e =>
      cases ha
      exact absurd (hk.symm.trans (hc _ _ _ e)) (by decide)
    · exact absurd (hk.symm.trans (hc _ _ _ ha)) (by decide)
  · simpa [hk] using (List.mem_filter.1 hm).2

/-! ## The head lost (R131) -/

/-- The head's push is lost, as statement O51 has it (R131). -/
structure PushGone (b : Book) (rest : List Book) (s t : State) : Prop where
  kept      : LineKept { s with dlv := t.dlv } t
  stop      : t.dlv.gateStop = true
  confirm   : t.dlv.gateConfirm = .none
  loaded    : t.dlv.loaded = s.dlv.loaded
  collected : t.dlv.collected = s.dlv.collected
  faulted   : LineFaulted s t .bookLost
  noticed   : Noticed .bookLost b.ticket.id t
  room      : s.dlv.done.length < 32 → t.dlv.gate = .idle ∧ t.dlv.cooling = rest ∧ t.dlv.waiters = s.dlv.waiters
    ∧ t.dlv.done = s.dlv.done ++ [{ b with
      reason := some (b.reason.getD .fault), outTime := some s.clock, outcome := some .rejected }]
  full      : 32 ≤ s.dlv.done.length → t.dlv.gate = .waitingRoom
    ∧ t.dlv.cooling = { b with reason := some (b.reason.getD .fault) } :: rest ∧ t.dlv.done = s.dlv.done
    ∧ t.dlv.waiters = s.dlv.waiters ++ [.cooling]

/-- The state with the bus moved alone, its outputs empty. -/
def BusOnly (s u : State) : Prop := ∃ x, u = { clearOut s with bus := x }

theorem busOnly_heard (n : NodeId) (s : State) : BusOnly s (slotHeard n s) := ⟨_, rfl⟩

theorem busOnly_marked (n : NodeId) (s : State) : BusOnly s (restartMarked n s) := ⟨_, rfl⟩

theorem LineKept.ownDelivery {d : Delivery} (h : LineKept { s with dlv := d } t) : LineKept { s with dlv := t.dlv } t :=
  ⟨⟨h.tables.clock, h.tables.profiles, h.tables.settings, h.tables.family, h.tables.scan, h.tables.pins, h.tables.store,
    h.tables.pending⟩, ⟨rfl, rfl, rfl, rfl, rfl, h.books.held⟩,
    ⟨h.clamps.mark, h.clamps.zero, h.clamps.empty, h.clamps.book⟩, h.queue⟩

theorem pushLost_pushGone (hu : BusOnly s u) (hq : s.dlv.cooling = b :: rest) : PushGone b rest s (pushLost u) := by
  obtain ⟨x, rfl⟩ := hu
  obtain ⟨v, hv, he⟩ := pushLost_lost (s := { clearOut s with bus := x }) hq
  obtain ⟨t, ht⟩ : ∃ t, t = raiseNotice .bookLost b.ticket.id (lineFault .bookLost v) := ⟨_, rfl⟩
  have hw : FaultWork v t := ht ▸ faultNoticed_work _ _ _ v
  have hnoticed : Noticed .bookLost b.ticket.id t := ht ▸ noticed_raiseNotice _ _ _
  have hfaulted : LineFaulted v t .bookLost := by
    obtain ⟨y, hy⟩ := raiseNotice_host .bookLost b.ticket.id (lineFault .bookLost v)
    rw [ht, hy]
    exact (lineFault_faulted .bookLost v).congr rfl rfl rfl rfl
  have hdlv : ∃ w, t.dlv = { v.dlv with dropWatch := w } := by
    rcases hw.dlv with h | ⟨-, h⟩
    · exact ⟨v.dlv.dropWatch, h⟩
    · exact ⟨_, h⟩
  have hkept : LineKept { clearOut s with dlv := v.dlv, bus := x } v := hv.kept
  rw [he, ← ht]
  obtain ⟨w, hd⟩ := hdlv
  have hs : LineKept { s with dlv := v.dlv } { clearOut s with dlv := v.dlv, bus := x } :=
    (clearOut_kept { s with dlv := v.dlv }).bus x
  refine ⟨((hs.trans hkept).trans hw.kept).ownDelivery, ?_, ?_, ?_, ?_, hfaulted.congr hv.line.symm rfl rfl rfl, hnoticed,
    fun h => ?_, fun h => ?_⟩
  all_goals rw [hd]
  · exact hv.stop
  · exact hv.confirm
  · exact hv.loaded
  · exact hv.collected
  · exact hv.room h
  · exact hv.full h

theorem PushGone.busWork (h : PushGone b rest s t) (k : BusWork t u) : PushGone b rest s u := by
  have hd : u.dlv = t.dlv := k.dlv
  obtain ⟨_, _, hcar, -⟩ := k.car
  refine ⟨(h.kept.trans k.lineKept).ownDelivery, ?_, ?_, ?_, ?_, h.faulted.congr rfl k.line (by rw [k.glue]) (by rw [hcar]),
    noticed_of_host h.noticed k.host, ?_, ?_⟩
  all_goals rw [hd]
  · exact h.stop
  · exact h.confirm
  · exact h.loaded
  · exact h.collected
  · exact h.room
  · exact h.full

theorem pushLost_ended (hu : BusOnly s u) (hq : s.dlv.cooling = b :: rest) :
    PushGone b rest s (endTransaction (pushLost u)) :=
  (pushLost_pushGone hu hq).busWork (endTransaction_busWork _)

theorem pushLost_notAsked (hc : ∀ r g w, s.bus.current = some (.request r g w) → isPush r.kind = false) :
    NotAsked isPush (pushLost s).bus := by
  have h : NotAsked isPush (giveUp (fun r => isPush r.kind) s).bus := giveUp_notAsked hc
  cases hq : s.dlv.cooling with
  | nil =>
    rw [pushLost_empty hq]
    exact h
  | cons b rest =>
    obtain ⟨v, hv, he⟩ := pushLost_lost hq
    have hvb : NotAsked isPush v.bus := by
      rcases hv.bus with hb | hb <;> rw [hb]
      · exact h
      · exact roomGiven_notAsked h
    obtain ⟨y, hy⟩ := raiseNotice_host .bookLost b.ticket.id (lineFault .bookLost v)
    rw [he, hy]
    exact lineFault_notAsked _ hvb

/-! ## The push confirmed (R130) -/

theorem pushConfirmed_reject (hg : s.dlv.gate = .rejectPush) (hr : s.dlv.done.length < 32)
    (hq : s.dlv.cooling = b :: rest) : LineKept { s with dlv := (pushConfirmed s).dlv } (pushConfirmed s)
      ∧ (pushConfirmed s).dlv.cooling = rest
      ∧ (pushConfirmed s).dlv.done = s.dlv.done ++ [{ b with outTime := some s.clock, outcome := some .rejected }] := by
  obtain ⟨u, hu⟩ : ∃ u, u = { s with dlv := { s.dlv with gate := .waitingRoom, gateConfirm := .none } } := ⟨_, rfl⟩
  have hd : u.dlv = { s.dlv with gate := .waitingRoom, gateConfirm := .none } := by rw [hu]
  have hroom : doneRoom u = true := decide_eq_true (by rw [hd]; exact hr)
  obtain ⟨x, y, hx⟩ := writeHolder_cooling (s := u) (b := b) (rest := rest) (by rw [hd]; exact hq)
  have hconf : pushConfirmed s = headDecision (writeHolder .cooling u) := by
    rw [hu] at hroom ⊢
    unfold pushConfirmed
    simp only [hg, writeOrWait, hroom, if_true]
  obtain ⟨w, hw⟩ : ∃ w, w = writeHolder .cooling u := ⟨_, rfl⟩
  obtain ⟨l, hb⟩ := roomGiven_work u
  have hkept : LineKept { u with car := { u.car with jobs := l }, dlv := w.dlv } w := by
    rw [hw, hx]
    exact hb.keptWith _ _
  have hs : LineKept { s with dlv := w.dlv } { u with car := { u.car with jobs := l }, dlv := w.dlv } := by
    rw [hu]
    exact ⟨⟨rfl, rfl, rfl, rfl, rfl, rfl, rfl, rfl⟩, ⟨rfl, rfl, rfl, rfl, rfl, rfl⟩, .ofEq rfl, rfl⟩
  have hdw : w.dlv.cooling = rest
      ∧ w.dlv.done = s.dlv.done ++ [{ b with outTime := some s.clock, outcome := some .rejected }] := by
    rw [hw, hx, hd, hu]
    exact ⟨rfl, rfl⟩
  rw [hconf, ← hw]
  have hk := headDecision_kept (LineKept.refl w)
  exact ⟨((hs.trans hkept).trans hk).ownDelivery, hk.books.cooling.trans hdw.1, hk.books.done.trans hdw.2⟩

theorem pushConfirmed_infeed (hg : s.dlv.gate = .infeedPush) (ht : s.trim.state = .idle)
    (hp : s.trim.guardPause = true) (hq : s.dlv.cooling = b :: rest) :
    (pushConfirmed s).dlv.cooling = rest ∧ (pushConfirmed s).dlv.done = s.dlv.done
      ∧ (pushConfirmed s).trim.state = .positioning
      ∧ (pushConfirmed s).trim.held = .inside { b with revibrate := some 0 }
      ∧ (pushConfirmed s).trim.dest = (if b.ticket.sample then .sample else .good) := by
  obtain ⟨x, hx⟩ := removeHead_eq (s := s) (d := { s.dlv with gate := .idle, gateConfirm := .none }) rfl
  obtain ⟨-, -, a, c, e, hrt⟩ := roomGiven_kept s
  obtain ⟨w, hw⟩ : ∃ w, w = { roomGiven s with
      dlv := { s.dlv with cooling := rest, headTimer := x, gate := .idle, gateConfirm := .none } } := ⟨_, rfl⟩
  have hconf : pushConfirmed s = headDecision (trimTake b w) := by
    have hrem : removeHead { s with dlv := { s.dlv with gate := .idle, gateConfirm := .none } } = w := by
      rw [hx, hw, hq]
      rfl
    unfold pushConfirmed
    rw [hg]
    simp only
    split
    · next b' _ hsome =>
      obtain ⟨rfl, -⟩ : b = b' ∧ _ := List.cons.inj (hq.symm.trans hsome)
      rw [hrem]
    · next hnone => exact absurd (hq.symm.trans hnone) (by simp)
  have hwt : w.trim = { s.trim with moveTime := a, settleTimer := c, stepTimer := e } := by rw [hw]; exact hrt
  have htake : (trimTake b w).dlv = w.dlv ∧ (trimTake b w).trim.state = .positioning
      ∧ (trimTake b w).trim.held = .inside { b with revibrate := some 0 }
      ∧ (trimTake b w).trim.dest = (if b.ticket.sample then .sample else .good) := by
    unfold trimTake
    simp only [hwt, ht, hp]
    exact ⟨rfl, rfl, rfl, rfl⟩
  obtain ⟨hdlv, hstate, hheld, hdest⟩ := htake
  have hk := headDecision_kept (LineKept.refl (trimTake b w))
  obtain ⟨_, _, _, htrim⟩ := headDecision_trim (trimTake b w)
  rw [hconf, htrim]
  exact ⟨hk.books.cooling.trans (by rw [hdlv, hw]), hk.books.done.trans (by rw [hdlv, hw]), hstate, hheld, hdest⟩

/-! ## The gate's push under way (R129) -/

theorem headExpiry_due (h : ∃ w n, s.dlv.headTimer = some (w, n) ∧ n ≤ (s.clock - w).toNat) :
    headExpiry s = headDecision { s with dlv := { s.dlv with headTimer := none } } :=
  if_pos ((timerDue_iff _ _).2 h)

theorem headExpiry_early (h : ¬∃ w n, s.dlv.headTimer = some (w, n) ∧ n ≤ (s.clock - w).toNat) : headExpiry s = s :=
  if_neg fun k => h ((timerDue_iff _ _).1 k)

theorem pushAllowed_iff : pushAllowed s = true ↔ s.dlv.done.length < 32 ∧ s.line.estopLatch = false
    ∧ present s .cooling = true ∧ s.dlv.gateStop = false := by
  simp only [pushAllowed, Bool.and_eq_true, Bool.not_eq_true', and_assoc]
  exact and_congr decide_eq_true_iff .rfl

theorem headDecision_waits (h : s.dlv.gate ≠ .idle ∨ s.dlv.cooling = [] ∨ pushAllowed s = false) :
    headDecision s = s := by
  unfold headDecision
  split
  · next hg hq =>
    rcases h with h | h | h
    · exact absurd hg h
    · exact absurd (hq.symm.trans h) (by simp)
    · rw [h]
      rfl
  · rfl

theorem headDecision_infeed (hg : s.dlv.gate = .idle) (ha : pushAllowed s = true) (hq : s.dlv.cooling = b :: rest)
    (hr : b.reason = none) (hd : ∀ e, b.coolEntry = some e → 100 * b.snapshot.coolDwell ≤ (s.clock - e).toNat)
    (ht : s.trim.state = .idle) : headDecision s = beginPush .infeedPush (.infeedPush b.ticket.id) s := by
  have hmet : dwellMet s.clock b = true := by
    unfold dwellMet
    split
    · next e he => exact decide_eq_true (hd e he)
    · rfl
  unfold headDecision
  rw [hg, hq]
  simp [ha, hr, hmet, ht]

theorem beginPush_work (g : Gate) (k : ReqKind) (s : State) :
    BusWork { s with dlv := { s.dlv with gate := g, gateConfirm := .none } } (beginPush g k s)
      ∧ Asked (beginPush g k s).bus .cooling k :=
  ⟨handRequest_busWork _ _ _, handRequest_asked _ _ _⟩

theorem pushAnswered_of_pushing (h : pushing s = true) (a : Answer) : pushAnswered a s = (match a with
    | .done => pushDone s
    | .failed => pushLost s
    | .busy => s) := if_pos h

theorem restartWork_cooling (h : pushing s = true) (hw : ∀ w, s.dlv.gateConfirm ≠ .window w) :
    restartWork .cooling s = pushLost s := by
  unfold restartWork
  cases hc : s.dlv.gateConfirm with
  | window w => exact absurd hc (hw w)
  | none | early => exact if_pos h

theorem confirmDue_iff (now : Time) (c : Confirm) (len : Nat) :
    confirmDue now c len = true ↔ ∃ w, c = .window w ∧ len ≤ (now - w).toNat := by
  cases c <;> simp [confirmDue, due_iff]

theorem pushTimeout_iff : (pushing s && confirmDue s.clock s.dlv.gateConfirm Config.pushWindow) = true
    ↔ pushing s = true ∧ ∃ w, s.dlv.gateConfirm = .window w ∧ 500 ≤ (s.clock - w).toNat := by
  rw [Bool.and_eq_true, confirmDue_iff]
  rfl

/-- An answer of COOLING with a new restart mark, its request given up or not and the node PRESENT or not. -/
theorem nodeAnswered_cooling (ha : (nodeRec s .cooling).ackPending = false) : nodeAnswered .cooling true (clearOut s)
    = if present s .cooling then restartWork .cooling (restartMarked .cooling s)
      else headDecision (restartWork .cooling (restartMarked .cooling s)) := by
  have htake : takeRestart .cooling (slotHeard .cooling s) = restartWork .cooling (restartMarked .cooling s) :=
    takeRestart_setNode (r := { nodeRec s .cooling with state := .present, misses := 0, lastAnswer := s.clock }) ha _
  unfold nodeAnswered
  cases hp : present s .cooling
  · have hp' : present (clearOut s) .cooling = false := hp
    simp only [hp', Bool.not_false, Bool.true_and, beq_self_eq_true, if_true]
    exact congrArg headDecision htake
  · have hp' : present (clearOut s) .cooling = true := hp
    simp only [hp', Bool.not_true, Bool.false_and, Bool.false_eq_true, if_false, if_true]
    exact htake

/-- A new restart mark completes the request also where it has been given up (R160). -/
theorem takeAnswer_fresh {fits : ReqKind → Bool} {act : ReqKind → State → State} {busy g : Bool} {w : Time}
    (hc : s.bus.current = some (.request ⟨n, k, some q⟩ g w)) (hw : (s.clock - w).toNat ≤ 2) (hf : fits k = true)
    (ha : (nodeRec s n).ackPending = false) :
    takeAnswer n fits q busy true act (clearOut s) = endTransaction (nodeAnswered n true (clearOut s)) := by
  have hc' : (clearOut s).bus.current = some (.request ⟨n, k, some q⟩ g w) := hc
  have hg : (n == n && fits k && some q == some q && windowOpen (clearOut s).clock w) = true := by
    have hopen : windowOpen s.clock w = true := decide_eq_true hw
    simp [hf, hopen]
  have ha' : (nodeRec (clearOut s) n).ackPending = false := ha
  unfold takeAnswer
  simp only [hc', hg, if_true, ha', Bool.not_false, Bool.and_self, Bool.or_true]

/-- COOLING's mark in a push: an open window runs on, any other push is lost and asked no more (R160). -/
theorem nodeAnswered_pushing (hc : ∀ r g w, s.bus.current = some (.request r g w) → isPush r.kind = false)
    (ha : (nodeRec s .cooling).ackPending = false) (hp : pushing s = true) :
    (∀ x, s.dlv.gateConfirm = .window x → (nodeAnswered .cooling true (clearOut s)).dlv = s.dlv)
    ∧ ((∀ x, s.dlv.gateConfirm ≠ .window x) → (nodeAnswered .cooling true (clearOut s)).dlv.gateStop = true
      ∧ NotAsked isPush (nodeAnswered .cooling true (clearOut s)).bus) := by
  obtain ⟨u, hu⟩ : ∃ u, u = restartMarked .cooling s := ⟨_, rfl⟩
  have hd : u.dlv = s.dlv := by rw [hu]; rfl
  have hcur : u.bus.current = s.bus.current := by rw [hu]; rfl
  have hpu : pushing u = true := by rw [pushing, hd]; exact hp
  have hans : ∀ v, restartWork .cooling u = v → headDecision v = v → nodeAnswered .cooling true (clearOut s) = v :=
    fun v hv hh => by rw [nodeAnswered_cooling ha, ← hu, hv, hh, ite_self]
  refine ⟨fun x hx => ?_, fun hw => ?_⟩
  · have hsame : restartWork .cooling u = u := by
      unfold restartWork
      rw [show u.dlv.gateConfirm = _ from (congrArg _ hd).trans hx]
    have hidle : u.dlv.gate ≠ .idle := fun e => by simp [pushing, e] at hpu
    rw [hans u hsame (headDecision_waits (.inl hidle)), hd]
  · have hlost : restartWork .cooling u = pushLost u := restartWork_cooling hpu (by rw [hd]; exact hw)
    have hstop : (pushLost u).dlv.gateStop = true := by
      cases hq : u.dlv.cooling with
      | nil => rw [pushLost_empty hq]
      | cons b rest =>
        obtain ⟨v, hv, he⟩ := pushLost_lost hq
        rw [he]
        exact (faultNoticed_work _ _ _ v).gateStop.trans hv.stop
    rw [hans _ hlost (headDecision_of_stopped (.inl hstop))]
    exact ⟨hstop, pushLost_notAsked (by rw [hcur]; exact hc)⟩

end

/-- Settles O51: pushes begin at the head timer, and are confirmed or lose their head. -/
theorem pushesConfirmedOrLost : Obligations.PushesConfirmedOrLost := by
  intro s hl headDue allowed loses
  have hpush : ∀ {k q a r}, AnswersRequest s .cooling k q → exec (.pushAnswer q a ⟨r, true⟩) s = .next
      (takeAnswer .cooling isPush q (a == .busy) r (fun _ => pushAnswered a) (clearOut s)) := fun h => exec_pushAnswer h.live _ _
  have hexp : exec .headTimerExpiry s = .next (headExpiry (clearOut s)) := congrArg _ (live_next _ _ hl)
  have hout : exec .pushWindowTimeout s = .next (pushTimeout (clearOut s)) := congrArg _ (live_next _ _ hl)
  have hloses : ∀ {c t}, exec c s = .next t → (∀ b rest, s.dlv.cooling = b :: rest → PushGone b rest s t) → loses c :=
    fun hx h b rest hq => by
      obtain ⟨kept, stop, confirm, loaded, collected, faulted, noticed, room, full⟩ := h b rest hq
      exact ⟨_, hx, kept, stop, confirm, loaded, collected, faulted, noticed, room, full⟩
  have hfinal : ∀ {k q} (a : Answer), AnswersRequest s .cooling k q → isPush k = true → pushing s = true →
      (a == .busy) = false → exec (.pushAnswer q a ⟨false, true⟩) s = .next (endTransaction (match a with
        | .done => pushDone (slotHeard .cooling s)
        | .failed => pushLost (slotHeard .cooling s)
        | .busy => slotHeard .cooling s)) := fun a h hk hp hb => by
    rw [hpush h, takeAnswer_final h hk hb]
    exact congrArg _ (congrArg _ (pushAnswered_of_pushing (s := slotHeard .cooling s) hp a))
  have hdone : ∀ {k q}, AnswersRequest s .cooling k q → isPush k = true → pushing s = true → s.dlv.gateConfirm = .early →
      exec (.pushAnswer q .done ⟨false, true⟩) s = .next (endTransaction (pushConfirmed (slotHeard .cooling s))) :=
    fun h hk hp he => (hfinal .done h hk hp rfl).trans (by
      have he' : (slotHeard .cooling s).dlv.gateConfirm = .early := he
      simp only [pushDone, he'])
  refine ⟨fun h => ?_, fun h hw => ?_, fun h hg ha b rest hq hr hd ht => ?_, fun k q h hk hp => ⟨fun he => ?_,
    fun he hg hr b rest hq => ?_, fun he hg ht hgp b rest hq => ?_, ?_, ?_⟩, fun k q h hp ha hw => ⟨fun hk a => ?_, ?_⟩,
    fun q g w hc hw hp ha => ?_, ⟨fun h => ?_, fun h => ?_⟩⟩
  · exact hexp.trans (congrArg _ (headExpiry_early (s := clearOut s) h))
  · refine hexp.trans (congrArg _ ((headExpiry_due (s := clearOut s) h).trans (headDecision_waits ?_)))
    exact hw.imp_right fun k => k.imp_right fun k => Bool.eq_false_iff.2 fun ha => k (pushAllowed_iff.1 ha)
  · obtain ⟨u, hu⟩ : ∃ u, u = { clearOut s with dlv := { s.dlv with headTimer := none } } := ⟨_, rfl⟩
    have hx : exec .headTimerExpiry s = .next (beginPush .infeedPush (.infeedPush b.ticket.id) u) :=
      hexp.trans (congrArg _ ((headExpiry_due (s := clearOut s) h).trans (by
        rw [hu]
        exact headDecision_infeed (rest := rest) hg (pushAllowed_iff.2 ha) hq hr hd ht)))
    obtain ⟨hb, hasked⟩ := beginPush_work .infeedPush (.infeedPush b.ticket.id) u
    have hkept : LineKept s { u with dlv := { u.dlv with gate := .infeedPush, gateConfirm := .none } } := by
      rw [hu]
      exact (clearOut_kept s).trans
        ⟨⟨rfl, rfl, rfl, rfl, rfl, rfl, rfl, rfl⟩, ⟨rfl, rfl, rfl, rfl, rfl, rfl⟩, .ofEq rfl, rfl⟩
    exact ⟨_, hx, hkept.trans hb.lineKept, hasked, hb.dlv.trans (by rw [hu])⟩
  · refine (hfinal .done h hk hp rfl).trans ?_
    have hwin : pushDone (slotHeard .cooling s) = { slotHeard .cooling s with
        dlv := { s.dlv with gateConfirm := .window s.clock } } := by
      unfold pushDone
      split
      · next e => exact absurd e he
      · rfl
    have hq := h.quiet
    simp only [hwin]
    exact congrArg _ (endTransaction_quiet (s := { slotHeard .cooling s with
      dlv := { s.dlv with gateConfirm := .window s.clock } }) ⟨hq.carousel, hq.trimmer, hq.cooling, hq.probe⟩)
  · obtain ⟨hkept, hcool, hd⟩ := pushConfirmed_reject (s := slotHeard .cooling s) hg hr hq
    have hb := endTransaction_busWork (pushConfirmed (slotHeard .cooling s))
    obtain ⟨v, hv⟩ : ∃ v, v = pushConfirmed (slotHeard .cooling s) := ⟨_, rfl⟩
    rw [← hv] at hkept hcool hd hb
    have hs : LineKept { s with dlv := v.dlv } { slotHeard .cooling s with dlv := v.dlv } :=
      (clearOut_kept { s with dlv := v.dlv }).bus _
    exact ⟨_, (hdone h hk hp he).trans (by rw [hv]), ((hs.trans hkept).trans hb.lineKept).ownDelivery,
      by rw [hb.dlv]; exact hcool, by rw [hb.dlv]; exact hd⟩
  · obtain ⟨hcool, hd, hstate, hheld, hdest⟩ := pushConfirmed_infeed (s := slotHeard .cooling s) hg ht hgp hq
    have hb := endTransaction_busWork (pushConfirmed (slotHeard .cooling s))
    obtain ⟨_, _, _, htrim⟩ := hb.trim
    refine ⟨_, hdone h hk hp he, ?_⟩
    rw [hb.dlv, htrim]
    exact ⟨hcool, hd, hstate, hheld, hdest⟩
  · rw [hpush h]
    exact congrArg _ (takeAnswer_busy h hk)
  · exact hloses (hfinal .failed h hk hp rfl) fun b rest hq => pushLost_ended (busOnly_heard .cooling s) hq
  · have hwork : restartWork .cooling (restartMarked .cooling s) = pushLost (restartMarked .cooling s) :=
      restartWork_cooling hp hw
    refine hloses (hpush h) fun b rest hq => ?_
    rw [takeAnswer_restart h hk ha, hwork]
    exact pushLost_ended (busOnly_marked .cooling s) hq
  · rintro rfl
    have hwork : restartWork .cooling (restartMarked .cooling s) = pushLost (restartMarked .cooling s) :=
      restartWork_cooling hp hw
    refine hloses (exec_nodeStatusAnswer h.live true) fun b rest hq => ?_
    rw [takeAnswer_restart h rfl ha, hwork]
    exact pushLost_ended (busOnly_marked .cooling s) hq
  · have hx : exec (.nodeStatusAnswer .cooling q ⟨true, true⟩) s
        = .next (endTransaction (nodeAnswered .cooling true (clearOut s))) := by
      rw [exec_nodeStatusAnswer hl true, takeAnswer_fresh hc hw rfl ha]
    have hb := endTransaction_busWork (nodeAnswered .cooling true (clearOut s))
    obtain ⟨hwindow, hlost⟩ := nodeAnswered_pushing (fun r g w e => by rw [hc] at e; cases e; rfl) ha hp
    refine ⟨_, hx, fun x hx => hb.dlv.trans (hwindow x hx), fun hn => ?_⟩
    obtain ⟨hstop, hno⟩ := hlost hn
    exact ⟨by rw [hb.dlv]; exact hstop, fun k hk => endTransaction_notAsked hno .cooling k hk⟩
  · have hno : pushTimeout (clearOut s) = clearOut s := if_neg fun k => h (pushTimeout_iff.1 k)
    exact hout.trans (congrArg _ hno)
  · have hyes : pushTimeout (clearOut s) = pushLost (clearOut s) := if_pos (pushTimeout_iff.2 h)
    exact hloses (hout.trans (congrArg _ hyes)) fun b rest hq => pushLost_pushGone ⟨s.bus, rfl⟩ hq

end Sys2Proof.Machine

/-! PROOFS. O54: CLEAR (TRIMMER) (8.9, 6.7). -/

namespace Sys2Proof.Machine

section
variable {s t u v : State} {n : NodeId} {k : ReqKind} {b : Book}

/-! ## Requests of the Trimmer Controller (R138) -/

theorem trimRequest_present (k : ReqKind) (h : present s .trimmer = true) : trimRequest k s = handRequest .trimmer k s :=
  if_pos h

/-- A STEP handed over to a PRESENT node (R144). -/
theorem trimStep_present (x : TrimState) (k : StepKind) (h : present s .trimmer = true) :
    BusWork { s with trim := { s.trim with state := x, stepHeld := false, stepTimer := none } } (trimStep x k s)
      ∧ Asked (trimStep x k s).bus .trimmer (.step k) := by
  have he : trimStep x k s = handRequest .trimmer (.step k)
      { s with trim := { s.trim with state := x, stepHeld := false, stepTimer := none } } := trimRequest_present _ h
  rw [he]
  exact ⟨handRequest_busWork _ _ _, handRequest_asked _ _ _⟩

theorem beginEject_paused (h : s.trim.guardPause = true) : beginEject s = { s with
    trim := { s.trim with exitConfirm := .none, state := .eject, stepHeld := true, stepTimer := none } } :=
  if_pos h

theorem beginEject_present (h : s.trim.guardPause = false) (hp : present s .trimmer = true) :
    BusWork { s with trim := { s.trim with
      exitConfirm := .none, state := .eject, stepHeld := false, stepTimer := none } } (beginEject s)
      ∧ Asked (beginEject s).bus .trimmer (.step (.eject s.trim.dest)) := by
  obtain ⟨u, hu⟩ : ∃ u, u = { s with trim := { s.trim with exitConfirm := .none } } := ⟨_, rfl⟩
  have he : beginEject s = trimStep .eject (.eject s.trim.dest) u := by
    rw [hu]
    exact if_neg (show ¬s.trim.guardPause = true by rw [h]; decide)
  obtain ⟨hb, ha⟩ := trimStep_present .eject (.eject s.trim.dest) (s := u) (by rw [hu]; exact hp)
  rw [he]
  rw [hu] at hb ha ⊢
  exact ⟨hb, ha⟩

theorem trimChanged_kept {x : Trimmer} (h : x.held = s.trim.held) : LineKept s { s with trim := x } :=
  ⟨⟨rfl, rfl, rfl, rfl, rfl, rfl, rfl, rfl⟩, ⟨rfl, rfl, rfl, rfl, rfl, h⟩, .ofEq rfl, rfl⟩

/-! ## CLEAR (TRIMMER) (R151) -/

theorem takeClear_trimmer (hs : s.line.state ≠ .starting) : takeClear [1] s = clearTrimmerTaken s :=
  (if_neg (not_starting hs)).trans ((if_neg (not_not_intro rfl)).trans ((if_neg (by decide)).trans (if_pos rfl)))

theorem clearTrimmerTaken_wrongState (h : ¬(s.trim.state = .faulted ∧ s.pins.estopActive = false
    ∧ trimGuardOpen s = false)) : clearTrimmerTaken s = refuse .wrongState s := by
  unfold clearTrimmerTaken
  by_cases hf : s.trim.state = .faulted
  · rw [if_neg (not_not_intro hf)]
    cases he : s.pins.estopActive with
    | true => rfl
    | false =>
      have hg : trimGuardOpen s = true := by
        rw [← Bool.not_eq_false]
        exact fun hg => h ⟨hf, he, hg⟩
      rw [if_neg Bool.false_ne_true, if_pos hg]
  · rw [if_pos hf]

theorem clearTrimmerTaken_passed (hf : s.trim.state = .faulted) (he : s.pins.estopActive = false)
    (hg : trimGuardOpen s = false) : clearTrimmerTaken s =
      if present s .trimmer then accept (trimmerCleared s) else refuse .nodes s := by
  unfold clearTrimmerTaken
  rw [if_neg (not_not_intro hf), he, hg]
  cases present s .trimmer <;> rfl

/-- The trimmer with its cause cleared and the latch with it; the head decision may begin a push alone. -/
structure LatchCleared (s t : State) : Prop where
  kept  : LineKept s t
  line  : t.line = { s.line with
    estopLatch := false, lamps := { s.line.lamps with trim := s.line.state != LineState.starting } }
  trim  : ∃ x y z, t.trim = { s.trim with moveTime := x, settleTimer := y, stepTimer := z }
  car   : t.car.state = s.car.state
  present : ∀ n, present t n = present s n

theorem latchCleared_cleared (s : State) : LatchCleared s (latchCleared s) := by
  obtain ⟨u, hu⟩ : ∃ u, u = { s with line := { s.line with
    estopLatch := false, lamps := { s.line.lamps with trim := s.line.state != LineState.starting } } } := ⟨_, rfl⟩
  have hk : LineKept s u := by
    rw [hu]
    exact (LineKept.refl s).line _
  have he : latchCleared s = headDecision u := by rw [hu]; rfl
  have ht : u.trim = s.trim := by rw [hu]
  obtain ⟨g, c, hb⟩ := headDecision_busWork u
  rw [he]
  exact ⟨headDecision_kept hk, (headDecision_line u).trans (by rw [hu]), by rw [← ht]; exact headDecision_trim u,
    (headDecision_carState u).trans (by rw [hu]), fun n => (hb.present n).trans (by rw [hu]; rfl)⟩

/-- What CLEAR (TRIMMER) leaves, whatever the trimmer holds. -/
structure ClearedTrimmer (s t : State) : Prop where
  kept        : LineKept s t
  cause       : t.trim.cause = none
  settleCount : t.trim.settleCount = 0
  car         : t.car.state = s.car.state
  line        : t.line = { s.line with
    estopLatch := false, lamps := { s.line.lamps with trim := s.line.state != LineState.starting } }

theorem ClearedTrimmer.busWork (h : ClearedTrimmer s t) (k : BusWork t u) : ClearedTrimmer s u := by
  obtain ⟨_, _, _, ht⟩ := k.trim
  obtain ⟨_, _, hc, -⟩ := k.car
  exact ⟨h.kept.trans k.lineKept, by rw [ht]; exact h.cause, by rw [ht]; exact h.settleCount, by rw [hc]; exact h.car,
    k.line.trans h.line⟩

/-- The trimmer's own record changed but for its cause, its count and its book. -/
theorem ClearedTrimmer.trim {x : Trimmer} (h : ClearedTrimmer s t) (hc : x.cause = t.trim.cause)
    (hn : x.settleCount = t.trim.settleCount) (hh : x.held = t.trim.held) : ClearedTrimmer s { t with trim := x } :=
  ⟨h.kept.next ⟨rfl, rfl, rfl, rfl, rfl, rfl, rfl, rfl⟩ ⟨rfl, rfl, rfl, rfl, rfl, hh⟩ rfl rfl, hc.trans h.cause,
    hn.trans h.settleCount, h.car, h.line⟩

theorem ClearedTrimmer.gate (h : ClearedTrimmer s t) (g : Gate) (c : Confirm) :
    ClearedTrimmer s { t with dlv := { t.dlv with gate := g, gateConfirm := c } } :=
  ⟨h.kept.next ⟨rfl, rfl, rfl, rfl, rfl, rfl, rfl, rfl⟩ ⟨rfl, rfl, rfl, rfl, rfl, rfl⟩ rfl rfl, h.cause, h.settleCount,
    h.car, h.line⟩

theorem trimmerCleared_cleared (hp : present s .trimmer = true) : ClearedTrimmer s (trimmerCleared s)
    ∧ (s.trim.held = .none → (trimmerCleared s).trim.state = .idle)
    ∧ (∀ b, s.trim.held = .out b → (trimmerCleared s).trim.state = .eject)
    ∧ (∀ b, s.trim.held = .inside b → (trimmerCleared s).trim.state = .eject ∧ (trimmerCleared s).trim.dest = .reject
      ∧ (trimmerCleared s).trim.exitConfirm = .none
      ∧ (s.trim.guardPause = true → (trimmerCleared s).trim.stepHeld = true)
      ∧ (s.trim.guardPause = false → (trimmerCleared s).trim.stepHeld = false
        ∧ Asked (trimmerCleared s).bus .trimmer (.step (.eject .reject)))) := by
  obtain ⟨u, hu⟩ : ∃ u, u = latchCleared { s with trim := { s.trim with cause := none, settleCount := 0 } } := ⟨_, rfl⟩
  have k := latchCleared_cleared { s with trim := { s.trim with cause := none, settleCount := 0 } }
  rw [← hu] at k
  obtain ⟨x, y, z, htrim⟩ := k.trim
  have hheld : u.trim.held = s.trim.held := by rw [htrim]
  have hpause : u.trim.guardPause = s.trim.guardPause := by rw [htrim]
  have hpu : present u .trimmer = true := (k.present _).trans hp
  have hkept : LineKept s u := (trimChanged_kept (x := { s.trim with cause := none, settleCount := 0 }) rfl).trans k.kept
  have hclear : ClearedTrimmer s u := ⟨hkept, by rw [htrim], by rw [htrim], k.car, k.line⟩
  have he : trimmerCleared s = match u.trim.held with
      | .inside _ => beginEject { u with trim := { u.trim with dest := .reject } }
      | .out _ => { u with trim := { u.trim with state := .eject } }
      | .none => afterTrimmer (trimIdle u) := by rw [hu]; rfl
  rw [hheld] at he
  cases hs : s.trim.held with
  | none =>
    rw [hs] at he
    obtain ⟨v, hv⟩ : ∃ v, v = trimIdle u := ⟨_, rfl⟩
    have hvs : v.trim.state = .idle := by rw [hv]; rfl
    have hidle : trimmerCleared s = headDecision v := by
      rw [he, ← hv]
      exact if_pos (beq_iff_eq.2 hvs)
    have hvk : ClearedTrimmer s v := by
      rw [hv]
      exact hclear.trim rfl rfl rfl
    obtain ⟨g, c, hb⟩ := headDecision_busWork v
    obtain ⟨_, _, _, ht⟩ := headDecision_trim v
    rw [hidle]
    have hstate : (headDecision v).trim.state = .idle := by
      rw [ht]
      exact hvs
    exact ⟨(hvk.gate g c).busWork hb, fun _ => hstate, fun _ h => Held.noConfusion h, fun _ h => Held.noConfusion h⟩
  | out b =>
    rw [hs] at he
    rw [he]
    exact ⟨hclear.trim rfl rfl rfl, fun h => Held.noConfusion h, fun _ _ => rfl, fun _ h => Held.noConfusion h⟩
  | inside b =>
    rw [hs] at he
    obtain ⟨v, hv⟩ : ∃ v, v = { u with trim := { u.trim with dest := .reject } } := ⟨_, rfl⟩
    have heject : trimmerCleared s = beginEject v := by rw [he, hv]
    have hvt : v.trim = { u.trim with dest := .reject } := by rw [hv]
    have hvk : ClearedTrimmer s v := by
      rw [hv]
      exact hclear.trim rfl rfl rfl
    rw [heject]
    cases hg : s.trim.guardPause with
    | true =>
      rw [beginEject_paused (by rw [hvt, hpause, hg]), hvt]
      exact ⟨hvk.trim (by rw [hvt]) (by rw [hvt]) (by rw [hvt]), fun h => Held.noConfusion h,
        fun _ h => Held.noConfusion h, fun _ _ => ⟨rfl, rfl, rfl, fun _ => rfl, fun h => Bool.noConfusion h⟩⟩
    | false =>
      obtain ⟨hb, ha⟩ := beginEject_present (s := v) (by rw [hvt, hpause, hg]) (by rw [hv]; exact hpu)
      obtain ⟨_, _, _, ht⟩ := hb.trim
      rw [show v.trim.dest = .reject by rw [hvt]] at ha
      have hejecting : ClearedTrimmer s { v with trim := { v.trim with
          exitConfirm := .none, state := .eject, stepHeld := false, stepTimer := none } } := hvk.trim rfl rfl rfl
      refine ⟨hejecting.busWork hb, fun h => Held.noConfusion h, fun _ h => Held.noConfusion h,
        fun _ _ => ?_⟩
      rw [ht, hvt]
      exact ⟨rfl, rfl, rfl, fun h => Bool.noConfusion h, fun _ => ⟨rfl, ha⟩⟩

end

/-- Settles O54: the checks of R151, and the trimmer cleared with its book ejected. -/
theorem clearTrimmerChecksAndEjects : Obligations.ClearTrimmerChecksAndEjects := by
  intro g s
  refine ⟨rfl, ?_⟩
  intro h hs refused passes
  have htake := takeClear_trimmer (s := begun s) hs
  refine ⟨fun hn => ?_, fun hp hnode => ?_, fun hp hnode => ?_⟩
  · exact exec_of_refused (c := .clearTrimmer g) rfl h (htake.trans (clearTrimmerTaken_wrongState (s := begun s) hn))
  all_goals
    obtain ⟨hf, he, hg⟩ := hp
    have hpass := htake.trans (clearTrimmerTaken_passed (s := begun s) hf he hg)
  · rw [show present (begun s) .trimmer = false from hnode] at hpass
    exact exec_of_refused (c := .clearTrimmer g) rfl h hpass
  · rw [show present (begun s) .trimmer = true from hnode] at hpass
    have hexec := exec_of_taken (c := .clearTrimmer g) rfl h hpass
    obtain ⟨⟨kept, cause, count, car, line⟩, hnone, hout, hinside⟩ := trimmerCleared_cleared (s := begun s) hnode
    obtain ⟨x, hx⟩ := respond_host 0x0D g .ok [] (trimmerCleared (begun s))
    refine ⟨_, hexec, respond_answered _ _ _ _ _, respond_kept _ _ _ _ ((begun_kept s).trans kept), ?_⟩
    rw [hx]
    have htrim : (s.line.state != LineState.starting) = true := by simp [hs]
    refine ⟨cause, count, car, line.trans ?_, hnone, hout, hinside⟩
    show { s.line with estopLatch := false, lamps := { s.line.lamps with trim := s.line.state != LineState.starting } } = _
    rw [htrim]

end Sys2Proof.Machine

/-! PROOFS. O48: POLL rounds and the arbiter's grants (9.3, 9.5). -/

namespace Sys2Proof.Machine

section
variable {s t u v : State} {n : NodeId} {b : Bus} {f : Frame} {x : Rotation}

/-! ## What has been sent stays before what is sent (R153) -/

/-- The state with other frames sent before its own. -/
def sentAfter (l : List BusFrame) (s : State) : State := { s with busOut := l ++ s.busOut }

theorem startLimit_sentAfter (k : ReqKind) (l : List BusFrame) (s : State) :
    startLimit k (sentAfter l s) = sentAfter l (startLimit k s) := by
  cases k <;> rfl

theorem sendFrame_sentAfter (f : Frame) (l : List BusFrame) (s : State) :
    sendFrame f (sentAfter l s) = sentAfter l (sendFrame f s) := by
  cases f with
  | req r =>
    obtain ⟨w, hw⟩ : ∃ w, w = if r.seq.isNone then startLimit r.kind s else s := ⟨_, rfl⟩
    have hl : (if r.seq.isNone then startLimit r.kind (sentAfter l s) else sentAfter l s) = sentAfter l w := by
      rw [hw]
      split
      · exact startLimit_sentAfter _ _ _
      · rfl
    unfold sendFrame sendRequest
    simp only [hl, ← hw]
    simp only [sentAfter, setNode, nodeRec, List.append_assoc]
  | poll =>
    simp only [sendFrame, sendPoll, sentAfter, List.append_assoc]
    rfl
  | work tag items again =>
    simp only [sendFrame, sendWork, sentAfter, List.append_assoc]
    rfl
  | abortAll | abortJob st | abortTrimmer => simp only [sendFrame, sentAfter, List.append_assoc]

theorem pump_sentAfter (l : List BusFrame) (i : Nat) (s : State) : pump i (sentAfter l s) = sentAfter l (pump i s) := by
  induction i generalizing s with
  | zero => rfl
  | succ i ih =>
    have hc : (sentAfter l s).bus.current = s.bus.current := rfl
    have hg : (sentAfter l s).bus.grant = s.bus.grant := rfl
    unfold pump
    rw [hc, hg]
    cases s.bus.current with
    | some c => rfl
    | none =>
      cases s.bus.grant with
      | none => rfl
      | some fb =>
        obtain ⟨f, b⟩ := fb
        have hs : sendFrame f { sentAfter l s with bus := b } = sentAfter l (sendFrame f { s with bus := b }) :=
          sendFrame_sentAfter f l { s with bus := b }
        simp only [hs]
        exact ih _

/-! ## The grant (R162) -/

theorem pump_grant {i : Nat} (hc : s.bus.current = none) (hg : s.bus.grant = some (f, b)) :
    pump (i + 1) s = pump i (sendFrame f { s with bus := b }) := by
  conv_lhs => unfold pump
  rw [hc, hg]

/-- The frames that wait at one of the three rotating requesters. -/
def rotating (b : Bus) : Rotation → List Frame
  | .trimmer => b.trimQ
  | .cooling => b.coolQ
  | .probe => b.probeQ

theorem takeFrom_none (h : (rotating b x).isEmpty = true) : b.takeFrom x = none := by
  have hnil := List.isEmpty_iff.1 h
  cases x <;> simp only [rotating] at hnil <;> simp [Bus.takeFrom, hnil]

/-- A rotating requester is served: its oldest frame has left. -/
def served (b : Bus) (rest : List Frame) : Rotation → Bus
  | .trimmer => { b with trimQ := rest, lastServed := .trimmer }
  | .cooling => { b with coolQ := rest, lastServed := .cooling }
  | .probe => { b with probeQ := rest, lastServed := .probe }

theorem served_kept (b : Bus) (rest : List Frame) (x : Rotation) : rotating (served b rest x) x = rest
    ∧ (served b rest x).lastServed = x ∧ (served b rest x).carQ = b.carQ ∧ (served b rest x).nodes = b.nodes := by
  cases x <;> exact ⟨rfl, rfl, rfl, rfl⟩

theorem takeFrom_some {rest : List Frame} (h : rotating b x = f :: rest) : b.takeFrom x = some (f, served b rest x) := by
  cases x <;> simp only [rotating] at h <;> simp only [Bus.takeFrom, h, served]

theorem findSome_takeFrom {l : List Rotation} (h : l.find? (fun y => !(rotating b y).isEmpty) = some x) :
    l.findSome? b.takeFrom = b.takeFrom x := by
  induction l with
  | nil => cases h
  | cons y l ih =>
    cases he : (rotating b y).isEmpty with
    | true =>
      rw [List.find?_cons_of_neg (by simp [he])] at h
      rw [List.findSome?_cons, takeFrom_none he]
      exact ih h
    | false =>
      rw [List.find?_cons_of_pos (by simp [he])] at h
      obtain rfl : y = x := Option.some.inj h
      cases hq : rotating b y with
      | nil => simp [hq] at he
      | cons f rest =>
        rw [List.findSome?_cons, takeFrom_some hq]

theorem grant_carousel {rest : List Frame} (h : b.carQ = f :: rest) : b.grant = some (f, { b with carQ := rest }) := by
  unfold Bus.grant
  rw [h]

theorem grant_rotation {rest : List Frame} (hc : b.carQ = [])
    (h : (rotationAfter b.lastServed).find? (fun y => !(rotating b y).isEmpty) = some x)
    (hq : rotating b x = f :: rest) : b.grant = some (f, served b rest x) := by
  unfold Bus.grant
  rw [hc, ← takeFrom_some hq]
  exact findSome_takeFrom h

/-! ## The end of a round (R153, R162) -/

theorem slotNode_open {slot : Nat} (h₁ : 1 ≤ slot) (h₆ : slot ≤ 6) : (slotNode slot == none) = false := by
  interval_cases slot <;> rfl

/-- A POLL round whose six slots have closed is on the bus (R153). -/
structure RoundOver (s : State) : Prop where
  live  : s.pins.inReset = false
  round : ∃ tag, s.bus.current = some (.poll tag 7)

/-- The round has left the bus, and nothing is granted yet. -/
def roundLeft (s : State) : State := { clearOut s with bus := { s.bus with current := none } }

theorem exec_roundEnd (h : RoundOver s) : exec .pollRoundEnd s = .next (pump s.bus.waiting (roundLeft s)) := by
  obtain ⟨tag, hc⟩ := h.round
  have hx : exec .pollRoundEnd s = .next (roundEnded (clearOut s)) := congrArg _ (live_next _ _ h.live)
  have hc' : (clearOut s).bus.current = some (.poll tag 7) := hc
  rw [hx]
  unfold roundEnded
  rw [hc']
  rfl

/-- A frame granted at the end of a round is sent, and the bus is granted on. -/
theorem exec_roundEnd_grant (h : RoundOver s) (hg : (roundLeft s).bus.grant = some (f, b)) :
    exec .pollRoundEnd s = .next (pump b.waiting (sendFrame f { roundLeft s with bus := b })) := by
  have hw : s.bus.waiting = b.waiting + 1 := (grant_waiting hg).symm
  rw [exec_roundEnd h, hw, pump_grant rfl hg]

/-- A frame that asks no answer passes: what follows is the end of a round without it (R153). -/
theorem exec_roundEnd_passes {c : BusContent} (h : RoundOver s) (hu : RoundOver u)
    (hg : (roundLeft s).bus.grant = some (f, b))
    (hs : sendFrame f { roundLeft s with bus := b } = sentAfter [c.frame] (roundLeft u)) (hw : b.waiting = u.bus.waiting) :
    ∃ t, exec .pollRoundEnd u = .next t ∧ exec .pollRoundEnd s = .next { t with busOut := c.frame :: t.busOut } := by
  refine ⟨_, exec_roundEnd hu, ?_⟩
  rw [exec_roundEnd_grant h hg, hs, pump_sentAfter, hw]
  rfl

/-! ## A request granted (R156) -/

/-- The request takes the bus with its number (R153, R156). -/
structure RequestSent (q : Request) (s t : State) : Prop where
  kept    : LineKept s t
  current : ∃ n, (∀ m, q.seq = some m → n = m) ∧ (q.seq = none → n = (nodeRec s q.node).seq + 1)
    ∧ t.bus.current = some (.request ⟨q.node, q.kind, some n⟩ false s.clock)
  queues  : t.bus.carQ = s.bus.carQ ∧ t.bus.lastServed = s.bus.lastServed ∧ ∀ x, rotating t.bus x = rotating s.bus x

theorem sendRequest_sent (q : Request) (s : State) : RequestSent q s (sendFrame (.req q) s) := by
  obtain ⟨w, hw⟩ : ∃ w, w = if q.seq.isNone then startLimit q.kind s else s := ⟨_, rfl⟩
  have hbus : w.bus = s.bus := hw ▸ startLimit_bus q.kind q.seq.isNone s
  have hclock : w.clock = s.clock := by
    rw [hw]
    split
    · exact (startLimit_busWork q.kind s).clock
    · rfl
  have hcur : (sendFrame (.req q) s).bus.current = some (.request { q with
      seq := some (q.seq.getD ((nodeRec s q.node).seq + 1)) } false w.clock) := by
    rw [hw]
    cases hq : q.seq <;> simp only [sendFrame, sendRequest, hq] <;> rfl
  have hqueues : (sendFrame (.req q) s).bus.carQ = w.bus.carQ ∧ (sendFrame (.req q) s).bus.lastServed = w.bus.lastServed
      ∧ ∀ x, rotating (sendFrame (.req q) s).bus x = rotating w.bus x := by
    rw [hw]
    exact ⟨rfl, rfl, fun x => by cases x <;> rfl⟩
  rw [hbus] at hqueues
  refine ⟨(sendFrame_busWork _ s).lineKept, ⟨_, fun m hm => ?_, fun hn => ?_, hcur.trans (by rw [hclock])⟩, hqueues⟩
  · rw [hm]
    rfl
  · rw [hn]
    rfl

/-! ## A POLL granted (R155, R160) -/

theorem foldl_clearAck (l : List (Fin 9)) (v : Vector NodeRec 9) (m : Fin 9) :
    (l.foldl (fun w i => w.set i.val { w[i] with ackPending := false }) v)[m]
      = if m ∈ l then { v[m] with ackPending := false } else v[m] := by
  induction l generalizing v with
  | nil => rfl
  | cons k l ih =>
    rw [List.foldl_cons, ih]
    by_cases hk : m = k
    · subst hk
      simp
    · have hne : k.val ≠ m.val := fun e => hk (Fin.ext e.symm)
      simp [hk, hne]

theorem nodeRec_polled (s : State) (n : NodeId) : nodeRec (sendFrame .poll s) n =
    { nodeRec s n with ackPending := (nodeRec s n).ackPending && !isGroup n } := by
  show (clearAcks s.bus.nodes)[nodeIdx n] = _
  rw [clearAcks, foldl_clearAck]
  unfold nodeRec
  cases n <;> simp [nodeIdx, isGroup]

theorem mem_pollAcks : n ∈ pollAcks s ↔ isGroup n = true ∧ (nodeRec s n).ackPending = true := by
  have hall : n ∈ allNodes := by cases n <;> decide
  simp [pollAcks, hall]

/-! ## A WORK granted (R154) -/

theorem contains_stations (items : List WorkItem) (st : Station) :
    (items.map (·.station)).contains st = items.any (·.station == st) := by
  induction items with
  | nil => rfl
  | cons i l ih =>
    rw [List.map_cons, List.contains_cons, List.any_cons, ih, Bool.beq_comm]

theorem issueJob_eq (items : List WorkItem) (now : Time) (e : Bool) (j : Job) :
    issueJob (items.map (·.station)) now e j = if j.status = .built ∧ ∃ i ∈ items, i.station = j.item.station then { j with
      status := .issued
      limit := if e && j.item.station == .draw then .suspended else .running now } else j := by
  have hp : ((items.map (·.station)).contains j.item.station && j.status == .built) = true
      ↔ j.status = .built ∧ ∃ i ∈ items, i.station = j.item.station := by
    rw [contains_stations]
    simp [and_comm]
  unfold issueJob
  exact if_congr hp rfl rfl

/-- The WORK of a granted carousel frame is sent: its jobs, its cadence and its draw mark (R49, R83, R154). -/
def workSent (g : Byte) (items : List WorkItem) (again : Bool) (rest : List Frame) (s : State) : State :=
  let first := s.car.state == .dwelling && s.car.tag == g && !again
  { s with
    car := { s.car with jobs := if first then s.car.jobs.map (fun j =>
      if j.status = .built ∧ ∃ i ∈ items, i.station = j.item.station then { j with
        status := .issued
        limit := if coverEmptyClosed s && j.item.station == .draw then .suspended else .running s.clock }
      else j) else s.car.jobs }
    cover := { s.cover with drawMark := s.cover.drawMark || items.any (·.station == .draw) }
    bus := { s.bus with
      carQ := rest
      fast := s.bus.fast || first
      pollBase := if first && !s.bus.fast then s.clock else s.bus.pollBase } }

theorem sendWork_sent (g : Byte) (items : List WorkItem) (again : Bool) (rest : List Frame) (s : State) :
    sendFrame (.work g items again) { roundLeft s with bus := { (roundLeft s).bus with carQ := rest } }
      = sentAfter [BusContent.frame (.work g items)] (roundLeft (workSent g items again rest s)) := by
  have hissue : issueJob (items.map (·.station)) s.clock (coverEmptyClosed s) = fun j =>
      if j.status = .built ∧ ∃ i ∈ items, i.station = j.item.station then { j with
        status := .issued
        limit := if coverEmptyClosed s && j.item.station == .draw then .suspended else .running s.clock }
      else j := funext fun j => issueJob_eq items s.clock (coverEmptyClosed s) j
  unfold workSent
  rw [← hissue, ← contains_stations]
  rfl

/-! ## The cadence (R155) -/

theorem pollWaits_iff (b : Bus) : pollWaits b = true ↔ .poll ∈ b.carQ := by
  unfold pollWaits
  rw [List.any_eq_true]
  refine ⟨fun ⟨f, hf, hp⟩ => ?_, fun h => ⟨_, h, rfl⟩⟩
  cases f with
  | poll => exact hf
  | req r => cases hp
  | work tag items again => cases hp
  | abortAll => cases hp
  | abortJob st => cases hp
  | abortTrimmer => cases hp

theorem pollRoundDue_early (h : ¬(s.bus.pollOn = true ∧ cadence s.bus ≤ (s.clock - s.bus.pollBase).toNat)) :
    pollRoundDue s = s :=
  if_neg fun k => h (by rwa [Bool.and_eq_true, due_iff] at k)

/-- The state with the next POLL due one cadence later. -/
def nextPoll (s : State) : State :=
  { s with bus := { s.bus with pollBase := s.bus.pollBase + BitVec.ofNat 32 (cadence s.bus) } }

theorem pollRoundDue_due (h : s.bus.pollOn = true) (hd : cadence s.bus ≤ (s.clock - s.bus.pollBase).toNat) :
    pollRoundDue s = if pollWaits s.bus then nextPoll s else handOver .poll (nextPoll s) :=
  if_pos (by rw [Bool.and_eq_true, due_iff]; exact ⟨h, hd⟩)

/-- A POLL handed over to a free bus is sent (R155, R162). -/
theorem handOver_poll (hq : s.bus.carQ = []) (hc : s.bus.current = none) : handOver .poll s = sendFrame .poll s := by
  have hsame : ({ s.bus with carQ := [] } : Bus) = s.bus := by rw [← hq]
  have henq : s.bus.enqueue .poll = { s.bus with carQ := [.poll] } := by
    show ({ s.bus with carQ := s.bus.carQ ++ [Frame.poll] } : Bus) = _
    rw [hq]
    rfl
  have hg : (s.bus.enqueue .poll).grant = some (.poll, s.bus) := by
    rw [henq, grant_carousel (f := .poll) (rest := []) rfl]
    exact congrArg (fun b => some (Frame.poll, b)) hsame
  have hc' : (s.bus.enqueue .poll).current = none := (enqueue_current _ _).trans hc
  unfold handOver busPump
  simp only [← grant_waiting hg]
  rw [pump_grant (s := { s with bus := s.bus.enqueue .poll }) hc' hg]
  exact pump_of_busy _ nofun

end

/-- Settles O48: POLL rounds fall due at their cadence, and the bus is granted at their ends. -/
theorem pollRoundsAndGrants : Obligations.PollRoundsAndGrants := by
  intro s hl gap later isDue polled
  have hdue : exec .pollRoundDue s = .next (pollRoundDue (clearOut s)) := congrArg _ (live_next _ _ hl)
  have hround : isDue → exec .pollRoundDue s = .next (if pollWaits s.bus then nextPoll (clearOut s)
      else handOver .poll (nextPoll (clearOut s))) := fun ⟨hon, hd⟩ =>
    hdue.trans (congrArg _ (pollRoundDue_due (s := clearOut s) hon hd))
  have hpolled : ∀ c b, exec c s = .next (sendFrame .poll { clearOut s with bus := { b with nodes := s.bus.nodes } }) →
      polled c b := fun c b hx =>
    ⟨_, pollAcks s, hx, rfl, fun n => mem_pollAcks, rfl, fun n => nodeRec_polled _ n⟩
  refine ⟨fun h => ?_, fun h hp => ?_, fun h hp hc => ?_, fun h hq hc => ?_, fun tag slot hc => ⟨fun h₁ h₆ => ?_, ?_⟩⟩
  · exact hdue.trans (congrArg _ (pollRoundDue_early (s := clearOut s) h))
  · rw [hround h, if_pos ((pollWaits_iff _).2 hp)]
    rfl
  · rw [hround h, if_neg (fun k => hp ((pollWaits_iff _).1 k))]
    exact congrArg _ (handOver_of_busy (s := nextPoll (clearOut s)) .poll hc)
  · have hp : ¬pollWaits s.bus = true := fun k => by
      rw [pollWaits_iff, hq.carousel] at k
      cases k
    refine hpolled _ _ ?_
    rw [hround h, if_neg hp]
    exact congrArg _ (handOver_poll (s := nextPoll (clearOut s)) hq.carousel hc)
  · have hnode := slotNode_open h₁ h₆
    have hx : exec .pollRoundEnd s = .next (roundEnded (clearOut s)) := congrArg _ (live_next _ _ hl)
    have hc' : (clearOut s).bus.current = some (.poll tag slot) := hc
    rw [hx]
    unfold roundEnded
    rw [hc']
    simp only [hnode]
    rfl
  · rintro rfl waits order granted passes
    have hover : RoundOver s := ⟨hl, tag, hc⟩
    have hgranted : ∀ q b, (roundLeft s).bus.grant = some (.req q, b) → b.carQ = s.bus.carQ.drop 1 →
        b.nodes = s.bus.nodes → granted q ∧ exec .pollRoundEnd s
          = .next (sendFrame (.req q) { roundLeft s with bus := b }) := fun q b hg hcar hn => by
      have hx := (exec_roundEnd_grant hover hg).trans (congrArg _ (pump_of_busy _ (by
        obtain ⟨n, -, -, h⟩ := (sendRequest_sent q { roundLeft s with bus := b }).current
        rw [h]
        nofun)))
      obtain ⟨kept, ⟨n, h₁, h₂, h₃⟩, hcarQ, -⟩ := sendRequest_sent q { roundLeft s with bus := b }
      have hk : LineKept s { roundLeft s with bus := b } := (clearOut_kept s).bus b
      refine ⟨⟨_, hx, hk.trans kept, n, h₁, fun e => (h₂ e).trans ?_, h₃, hcarQ.trans hcar⟩, hx⟩
      unfold nodeRec
      rw [show ({ roundLeft s with bus := b } : State).bus.nodes = s.bus.nodes from hn]
    have hrot : ∀ y, waits s.bus y = rotating (roundLeft s).bus y := fun y => by cases y <;> rfl
    refine ⟨fun hq => ?_, fun q rest hq => ?_, fun rest hq => ?_, fun rest hq => ?_, fun st rest hq => ?_,
      fun g items again rest hq => ?_, fun x hcar hx => ⟨fun q rest hq => ?_, ?_⟩⟩
    · rw [exec_roundEnd hover]
      exact congrArg _ (pump_of_quiet _ ⟨hq.carousel, hq.trimmer, hq.cooling, hq.probe⟩)
    · exact (hgranted q _ (grant_carousel hq) (by rw [hq]; rfl) rfl).1
    · refine hpolled _ _ ((exec_roundEnd_grant hover (grant_carousel hq)).trans (congrArg _ (pump_of_busy _ nofun)))
    · exact exec_roundEnd_passes hover ⟨hl, tag, hc⟩ (grant_carousel hq) rfl rfl
    · exact exec_roundEnd_passes hover ⟨hl, tag, hc⟩ (grant_carousel hq) rfl rfl
    · exact exec_roundEnd_passes hover (u := workSent g items again rest s) ⟨hl, tag, hc⟩ (grant_carousel hq)
        (sendWork_sent g items again rest s) rfl
    · have hg := grant_rotation (b := (roundLeft s).bus) (x := x) hcar hx ((hrot x).symm.trans hq)
      obtain ⟨hr, hserved, hcarQ, hn⟩ := served_kept (roundLeft s).bus rest x
      obtain ⟨hgr, hx'⟩ := hgranted q _ hg (hcarQ.trans (by rw [hcar]; exact hcar)) hn
      obtain ⟨-, -, -, hlast, hrotate⟩ := sendRequest_sent q { roundLeft s with bus := served (roundLeft s).bus rest x }
      have hleft : ∀ b y, waits b y = rotating b y := fun b y => by cases y <;> rfl
      exact ⟨hgr, _, hx', (hleft _ _).trans ((hrotate x).trans hr), hlast.trans hserved⟩
    · rintro rest rfl hq
      have hg := grant_rotation (b := (roundLeft s).bus) (x := .trimmer) hcar hx hq
      exact exec_roundEnd_passes hover ⟨hl, tag, hc⟩ hg rfl rfl

end Sys2Proof.Machine

/-! PROOFS. O52: the trimmer's axes (8.2 to 8.4, 8.7). -/

namespace Sys2Proof.Machine

section
variable {s t u v : State} {n : NodeId} {k : ReqKind} {b : Book} {f : Frame} {q : Byte}

/-! ## A contact's change handed to its owner (R169) -/

theorem exec_handsChange {r : BitVec 64} {i : Fin 64} {c : Bool} (h : HandsChange s r i c) :
    exec (.scanEnd r) s = .next (contactChange i.val c (scanned r s)) := by
  have hf : (clearOut s).scan.firstScan = false := h.later
  have hpass : passed r (clearOut s) = scanned r s := by
    unfold passed
    rw [hf]
    rfl
  have hchanges : handedChanges (clearOut s).scan.firstScan (clearOut s).scan.contacts (scanned r s).scan.contacts
      = [(i, c)] := by
    rw [hf]
    exact h.only
  have hghosts : (guards.filter fun k => (scanned r s).scan.contacts[k].uncertain
      && !(clearOut s).scan.contacts[k].uncertain) = [] := by
    rw [List.filter_eq_nil_iff]
    intro k hk hu
    rw [Bool.and_eq_true, Bool.not_eq_true'] at hu
    have hold := h.quiet k hk hu.1
    exact absurd (hold.symm.trans hu.2) nofun
  rw [exec_scanEnd h.live, scanEnded_due (s := clearOut s) h.due, hpass, hchanges, ghostNotices, hghosts]
  rfl

/-! ## What the trimmer's own work leaves (R138) -/

/-- Nothing but the trimmer's record, the bus and the reports has moved. -/
def TrimWork (s t : State) : Prop :=
  LineKept { s with trim := { s.trim with held := t.trim.held } } t ∧ t.line = s.line

theorem TrimWork.busWork (h : TrimWork s t) (k : BusWork t u) : TrimWork s u := by
  obtain ⟨_, _, _, ht⟩ := k.trim
  have hh : u.trim.held = t.trim.held := by rw [ht]
  unfold TrimWork
  rw [hh]
  exact ⟨h.1.trans k.lineKept, k.line.trans h.2⟩

theorem TrimWork.trans (h : TrimWork s u) (k : TrimWork u t) : TrimWork s t := by
  obtain ⟨⟨tables, books, clamps, queue⟩, line⟩ := h
  have hs : LineKept { s with trim := { s.trim with held := t.trim.held } }
      { u with trim := { u.trim with held := t.trim.held } } :=
    ⟨⟨tables.clock, tables.profiles, tables.settings, tables.family, tables.scan, tables.pins, tables.store,
      tables.pending⟩, ⟨books.cooling, books.done, books.waiters, books.loaded, books.collected, rfl⟩,
      ⟨clamps.mark, clamps.zero, clamps.empty, clamps.book⟩, queue⟩
  exact ⟨hs.trans k.1, k.2.trans line⟩

/-- Another trimmer record, another bus and another host link. -/
theorem trimWork_of_eq {x : Trimmer} {b : Bus} {y : HostLink} {o : List BusFrame}
    (h : t = { s with trim := x, bus := b, host := y, busOut := o }) : TrimWork s t := by
  rw [h]
  exact ⟨⟨⟨rfl, rfl, rfl, rfl, rfl, rfl, rfl, rfl⟩, ⟨rfl, rfl, rfl, rfl, rfl, rfl⟩, .ofEq rfl, rfl⟩, rfl⟩

/-! ## A request sent at the end of a transaction (R153) -/

/-- The request a transaction's end sends, with what its sending starts. -/
theorem endTransaction_sends (hq : NothingWaits s.bus) (hc : s.bus.current ≠ none) (ho : s.busOut = [])
    (hg : isGroup n = false) : SentNow s (endTransaction (handRequest n k s)) n k
      ∧ BusWork s (endTransaction (handRequest n k s))
      ∧ (endTransaction (handRequest n k s)).trim = (startLimit k s).trim := by
  obtain ⟨u, hu⟩ : ∃ u : State, u = { s with bus := { s.bus with current := none } } := ⟨_, rfl⟩
  have hquiet : NothingWaits u.bus := by
    rw [hu]
    exact ⟨hq.carousel, hq.trimmer, hq.cooling, hq.probe⟩
  have hbusy : handRequest n k s = { s with bus := s.bus.enqueue (.req ⟨n, k, none⟩) } := handOver_of_busy _ hc
  have hend : endTransaction (handRequest n k s) = handRequest n k u := by
    rw [hbusy, hu]
    unfold endTransaction handRequest handOver
    simp only [Bus.enqueue]
    split <;> rfl
  obtain ⟨l, hl⟩ := handOver_free hquiet (by rw [hu]) (.req ⟨n, k, none⟩)
  have hs := sendRequest_sentNow (k := k) hg (show u.busOut = [] by rw [hu]; exact ho) l
  have hw : BusWork s u := by
    rw [hu]
    exact .ofBus s _ rfl
  refine ⟨?_, hw.trans ?_, ?_⟩
  · rw [hend]
    unfold handRequest
    rw [hl]
    rw [hu] at hs ⊢
    exact hs
  · rw [hend]
    exact handRequest_busWork _ _ _
  · rw [hend]
    unfold handRequest
    rw [hl, hu]
    show (startLimit k _).trim = _
    cases k <;> rfl

theorem SentNow.congr (h : SentNow u t n k) (hc : u.clock = s.clock) (hs : (nodeRec u n).seq = (nodeRec s n).seq)
    (ha : (nodeRec u n).ackPending = (nodeRec s n).ackPending) : SentNow s t n k := by
  unfold SentNow at h ⊢
  rwa [hc, hs, ha] at h

/-! ## The timers that the bus starts (R138) -/

/-- No SET_AXES waits for the bus: what is sent starts no move time and no settle timer. -/
def MoveQuiet (b : Bus) : Prop := ∀ f ∈ b.frames, frameReq (fun r => isSetAxes r.kind) f = false

theorem startLimit_stepOnly (h : isSetAxes k = false) (s : State) :
    ∃ x, (startLimit k s).trim = { s.trim with stepTimer := x } := by
  cases k with
  | setAxes f o h' => cases h
  | step x => exact ⟨_, rfl⟩
  | index | home | rejectPush x | infeedPush x | readAxes | nodeStatus | probe x => exact ⟨s.trim.stepTimer, rfl⟩

theorem sendFrame_stepOnly (h : frameReq (fun r => isSetAxes r.kind) f = false) (s : State) :
    ∃ x, (sendFrame f s).trim = { s.trim with stepTimer := x } := by
  cases f with
  | req r =>
    have hr : ∃ x, (if r.seq.isNone then startLimit r.kind s else s).trim = { s.trim with stepTimer := x } := by
      split
      · exact startLimit_stepOnly h s
      · exact ⟨s.trim.stepTimer, rfl⟩
    exact hr
  | work tag items again | poll | abortAll | abortJob st | abortTrimmer => exact ⟨s.trim.stepTimer, rfl⟩

theorem pump_stepOnly (m : Nat) (h : MoveQuiet s.bus) : ∃ x, (pump m s).trim = { s.trim with stepTimer := x } := by
  induction m generalizing s with
  | zero => exact ⟨s.trim.stepTimer, rfl⟩
  | succ m ih =>
    unfold pump
    split
    · next f b hcur hgrant =>
      have hframes := (grant_granted hgrant).frames
      obtain ⟨x, hx⟩ := sendFrame_stepOnly (h f ((hframes f).2 (.inl rfl))) { s with bus := b }
      obtain ⟨y, hy⟩ := ih (s := sendFrame f { s with bus := b }) fun z hz => h z ((hframes z).2 (.inr (by
        rwa [(sendFrame_bus f { s with bus := b }).1] at hz)))
      exact ⟨y, by rw [hy, hx]⟩
    · exact ⟨s.trim.stepTimer, rfl⟩

theorem handOver_stepOnly (hf : frameReq (fun r => isSetAxes r.kind) f = false) (h : MoveQuiet s.bus) :
    ∃ x, (handOver f s).trim = { s.trim with stepTimer := x } :=
  pump_stepOnly _ fun x hx => by
    rcases (enqueue_frames f _ x).1 hx with rfl | hx
    · exact hf
    · exact h x hx

theorem TrimQuiet.move {b : Bus} (h : TrimQuiet b) : MoveQuiet b := fun f hf => by
  have hn := h f hf
  cases f with
  | req r =>
    obtain ⟨n, k, q⟩ := r
    cases k <;> simp_all [frameReq, isTrimWork, isSetAxes]
  | work tag items again | poll | abortAll | abortJob st | abortTrimmer => rfl

/-! ## Steps handed over (R144) -/

/-- A STEP handed over by a trimmer whose other requests are withdrawn. -/
structure StepHanded (x : TrimState) (k : StepKind) (s t : State) : Prop where
  work : BusWork { s with trim := { s.trim with state := x, stepHeld := false, stepTimer := none } } t
  asked : Asked t.bus .trimmer (.step k)
  trim : ∃ y, t.trim = { s.trim with state := x, stepHeld := false, stepTimer := y }

theorem trimStep_handed (x : TrimState) (k : StepKind) (h : present s .trimmer = true) (hq : MoveQuiet s.bus) :
    StepHanded x k s (trimStep x k s) := by
  obtain ⟨hb, ha⟩ := trimStep_present x k h
  refine ⟨hb, ha, ?_⟩
  have he : trimStep x k s = handRequest .trimmer (.step k)
      { s with trim := { s.trim with state := x, stepHeld := false, stepTimer := none } } := trimRequest_present _ h
  obtain ⟨y, hy⟩ := handOver_stepOnly (f := .req ⟨.trimmer, .step k, none⟩)
    (s := { s with trim := { s.trim with state := x, stepHeld := false, stepTimer := none } }) rfl hq
  exact ⟨y, by rw [he]; exact hy⟩

theorem StepHanded.trimWork {x : TrimState} {j : StepKind} (h : StepHanded x j u t) (k : TrimWork s u) : TrimWork s t := by
  have hu : TrimWork s { u with trim := { u.trim with state := x, stepHeld := false, stepTimer := none } } :=
    ⟨k.1.next ⟨rfl, rfl, rfl, rfl, rfl, rfl, rfl, rfl⟩ ⟨rfl, rfl, rfl, rfl, rfl, rfl⟩ rfl rfl, k.2⟩
  exact hu.busWork h.work

/-- CLAMPING has begun: the requests are withdrawn, the settle time is the book's, the STEP is asked for (R142). -/
structure Clamping (s t : State) : Prop where
  work  : TrimWork s t
  asked : Asked t.bus .trimmer (.step .clamp)
  trim  : ∃ y, t.trim = { s.trim with
    state := .clamping, stepHeld := false, stepTimer := y, settleTimer := .stopped, settleCount := 0
    held := s.trim.held.map fun b => { b with settleTime := some (trimSettle s.trim) } }

theorem beginClamping_clamping (hp : present s .trimmer = true) : Clamping s (beginClamping s) := by
  obtain ⟨u, hu⟩ : ∃ u, u = { giveUp isTrimWork s with trim := { s.trim with
      settleTimer := .stopped, settleCount := 0
      held := s.trim.held.map fun b => { b with settleTime := some (trimSettle s.trim) } } } := ⟨_, rfl⟩
  have he : beginClamping s = trimStep .clamping .clamp u := by rw [hu]; rfl
  have hk : TrimWork s u := trimWork_of_eq hu
  have hq : MoveQuiet u.bus := by
    rw [hu]
    exact (giveUp_trimQuiet s).move
  have h := trimStep_handed .clamping .clamp (s := u) (by rw [hu]; exact hp) hq
  obtain ⟨y, hy⟩ := h.trim
  rw [he]
  exact ⟨h.trimWork hk, h.asked, y, by rw [hy, hu]⟩

theorem beginEject_handed (hg : s.trim.guardPause = false) (hp : present s .trimmer = true) (hq : MoveQuiet s.bus) :
    StepHanded .eject (.eject s.trim.dest) { s with trim := { s.trim with exitConfirm := .none } } (beginEject s) := by
  obtain ⟨u, hu⟩ : ∃ u, u = { s with trim := { s.trim with exitConfirm := .none } } := ⟨_, rfl⟩
  have he : beginEject s = trimStep .eject (.eject s.trim.dest) u := by
    rw [hu]
    exact if_neg (show ¬s.trim.guardPause = true by rw [hg]; decide)
  rw [he, ← hu]
  exact trimStep_handed .eject (.eject s.trim.dest) (s := u) (by rw [hu]; exact hp) (by rw [hu]; exact hq)

/-- The settle timeout has been taken: the book is ejected to reject (R143). -/
structure SettleFailed (s t : State) : Prop where
  work    : TrimWork s t
  asked   : Asked t.bus .trimmer (.step (.eject .reject))
  trim    : ∃ y f, (s.trim.settleCount = 0 → f = s.trim.pendingFault)
    ∧ (1 ≤ s.trim.settleCount → f = some .trimSettle) ∧ t.trim = { s.trim with
      state := .eject, stepHeld := false, stepTimer := y, settleTimer := .stopped, dest := .reject, exitConfirm := .none
      settleCount := min 2 (s.trim.settleCount + 1), pendingFault := f
      held := s.trim.held.map fun b => b.withReason .trim }
  noticed : 1 ≤ s.trim.settleCount → Noticed .trimSettle (heldId s) t

/-- The book rejected for its settle time, before its eject. -/
def settleRejected (f : Option TrimCause) (s : State) : State := { giveUp isTrimWork s with trim := { s.trim with
  settleTimer := .stopped, settleCount := min 2 (s.trim.settleCount + 1), pendingFault := f
  held := s.trim.held.map fun b => b.withReason .trim } }

/-- The book goes to reject, with the reports as they are by then. -/
def sentToReject (y : HostLink) (s : State) : State := { s with trim := { s.trim with dest := .reject }, host := y }

theorem settleTimedOut_eq (s : State) : ∃ f y, settleTimedOut s = beginEject (sentToReject y (settleRejected f s))
    ∧ (s.trim.settleCount = 0 → f = s.trim.pendingFault) ∧ (1 ≤ s.trim.settleCount → f = some .trimSettle
      ∧ Noticed .trimSettle (heldId s) (sentToReject y (settleRejected f s))) := by
  by_cases h : min 2 (s.trim.settleCount + 1) = 2
  · obtain ⟨y, hy⟩ := raiseNotice_host .trimSettle (heldId s) (settleRejected (some .trimSettle) s)
    have hn := noticed_raiseNotice .trimSettle (heldId s) (settleRejected (some .trimSettle) s)
    refine ⟨some .trimSettle, y, ?_, fun h0 => by omega, fun _ => ⟨rfl, noticed_of_host hn (by rw [hy]; rfl)⟩⟩
    have hgo : settleTimedOut s = beginEject (sentToReject
        (raiseNotice .trimSettle (heldId s) (settleRejected (some .trimSettle) s)).host
        (raiseNotice .trimSettle (heldId s) (settleRejected (some .trimSettle) s))) :=
      congrArg (fun v : State => beginEject { v with trim := { v.trim with dest := .reject } }) (if_pos h)
    rw [hgo, hy]
    rfl
  · refine ⟨s.trim.pendingFault, s.host, ?_, fun _ => rfl, fun h1 => by omega⟩
    exact congrArg (fun v : State => beginEject { v with trim := { v.trim with dest := .reject } }) (if_neg h)

theorem settleTimedOut_failed (hg : s.trim.guardPause = false) (hp : present s .trimmer = true) :
    SettleFailed s (settleTimedOut s) := by
  obtain ⟨f, y, he, h0, h1⟩ := settleTimedOut_eq s
  obtain ⟨u, hu⟩ : ∃ u, u = sentToReject y (settleRejected f s) := ⟨_, rfl⟩
  rw [← hu] at h1
  have h := beginEject_handed (s := u) (by rw [hu]; exact hg) (by rw [hu]; exact hp)
    (by rw [hu]; exact (giveUp_trimQuiet s).move)
  have hk : TrimWork s u := trimWork_of_eq hu
  have hk' : TrimWork s { u with trim := { u.trim with exitConfirm := .none } } :=
    ⟨hk.1.next ⟨rfl, rfl, rfl, rfl, rfl, rfl, rfl, rfl⟩ ⟨rfl, rfl, rfl, rfl, rfl, rfl⟩ rfl rfl, hk.2⟩
  obtain ⟨z, hz⟩ := h.trim
  have hhost : (beginEject u).host = u.host := h.work.host
  rw [he, ← hu]
  refine ⟨h.trimWork hk', ?_, ⟨z, f, h0, fun k => (h1 k).1, by rw [hz, hu]; rfl⟩, fun k => noticed_of_host (h1 k).2 hhost⟩
  have ha := h.asked
  rwa [show u.trim.dest = .reject by rw [hu]; rfl] at ha

/-! ## Readings (R141) -/

/-- The axes judged on a reading, with the book's revibrate count. -/
def axesJudged (ef eo eh : Int) (s : State) : State :=
  let t := { s.trim with
    front := judgeAxis s.clock ef s.trim.front
    foot := judgeAxis s.clock eo s.trim.foot
    head := judgeAxis s.clock eh s.trim.head }
  modifyHeld (fun b => { b with revibrate := some (revibrateSum t) }) { s with trim := t }

theorem axesRead_present (hp : present s .trimmer = true) (ef eo eh : Int) :
    axesRead ef eo eh s = handRequest .trimmer .readAxes (axesJudged ef eo eh s) :=
  trimRequest_present (s := axesJudged ef eo eh s) .readAxes hp

/-- The table of R141. -/
theorem judgeAxis_table (now : Time) (e : Int) (a : AxisRec) :
    (-20 ≤ e ∧ e ≤ 20 → a.converged = false → a.window = none →
      judgeAxis now e a = { a with error := some e, window := some now })
    ∧ (-20 ≤ e ∧ e ≤ 20 → a.converged = true ∨ a.window ≠ none → judgeAxis now e a = { a with error := some e })
    ∧ (¬(-20 ≤ e ∧ e ≤ 20) → a.converged = false → judgeAxis now e a = { a with error := some e, window := none })
    ∧ (¬(-20 ≤ e ∧ e ≤ 20) → a.converged = true → judgeAxis now e a = { a with
      error := some e, converged := false, window := none, revibrate := a.revibrate + 1 }) := by
  have hin : inBand e = decide (-20 ≤ e ∧ e ≤ 20) := rfl
  refine ⟨fun hb hc hw => ?_, fun hb hc => ?_, fun hb hc => ?_, fun hb hc => ?_⟩
  · simp only [judgeAxis, hin, hb, hc, hw]
    rfl
  · have hany : (a.converged || a.window.isSome) = true := by
      rcases hc with hc | hc
      · rw [hc]
        rfl
      · rw [Option.isSome_iff_ne_none.2 hc, Bool.or_true]
    unfold judgeAxis
    simp only [hin, decide_eq_true hb, hany, if_true]
  · simp only [judgeAxis, hin, decide_eq_false hb, hc]
    rfl
  · simp only [judgeAxis, hin, decide_eq_false hb, hc]
    rfl

theorem slotHeard_nodeRec (n : NodeId) (s : State) :
    nodeRec (slotHeard n s) n = { nodeRec s n with state := .present, misses := 0, lastAnswer := s.clock } :=
  (nodeRec_setNode (clearOut s) n n _).trans (if_pos rfl)

theorem slotHeard_present (n : NodeId) (s : State) : present (slotHeard n s) n = true := by
  unfold present
  rw [slotHeard_nodeRec]
  rfl

theorem AnswersRequest.heardBus (h : AnswersRequest s n k q) :
    NothingWaits (slotHeard n s).bus ∧ (slotHeard n s).bus.current ≠ none := by
  obtain ⟨w, hc, -⟩ := h.bus
  have hc' : (slotHeard n s).bus.current = _ := hc
  exact ⟨⟨h.quiet.carousel, h.quiet.trimmer, h.quiet.cooling, h.quiet.probe⟩, by rw [hc']; nofun⟩

/-- A request handed over by the owner of an answer goes out at the transaction's end (R153, R156). -/
theorem AnswersRequest.asksNext {j : ReqKind} (h : AnswersRequest s .trimmer k q)
    (hu : u.bus = (slotHeard .trimmer s).bus) (hc : u.clock = s.clock) (ho : u.busOut = []) :
    SentNow s (endTransaction (handRequest .trimmer j u)) .trimmer j
      ∧ BusWork u (endTransaction (handRequest .trimmer j u))
      ∧ (endTransaction (handRequest .trimmer j u)).trim = (startLimit j u).trim := by
  obtain ⟨hq, hcur⟩ := h.heardBus
  obtain ⟨hs, hb, ht⟩ := endTransaction_sends (s := u) (n := .trimmer) (k := j) (by rw [hu]; exact hq) (by rw [hu]; exact hcur)
    ho rfl
  have hrec : nodeRec u .trimmer = { nodeRec s .trimmer with state := .present, misses := 0, lastAnswer := s.clock } := by
    rw [← slotHeard_nodeRec]
    unfold nodeRec
    rw [hu]
  exact ⟨hs.congr hc (by rw [hrec]) (by rw [hrec]), hb, ht⟩

theorem exec_setAxesDone {f o h' : Option Int} (hs : s.trim.state = .settling)
    (h : AnswersRequest s .trimmer (.setAxes f o h') q) : exec (.setAxesAnswer q .done ⟨false, true⟩) s
      = .next (endTransaction (handRequest .trimmer .readAxes (slotHeard .trimmer s))) := by
  have hact : setAxesAnswered .done (slotHeard .trimmer s) = handRequest .trimmer .readAxes (slotHeard .trimmer s) :=
    (if_pos (beq_iff_eq.2 hs)).trans (trimRequest_present _ (slotHeard_present _ _))
  rw [exec_setAxesAnswer h.live, takeAnswer_final h rfl (busy := Answer.done == Answer.busy) rfl, hact]

theorem exec_readAxesErrors {ef eo eh : Int} (hs : s.trim.state = .settling) (h : AnswersRequest s .trimmer .readAxes q) :
    exec (.readAxesAnswer q (.errors ef eo eh) ⟨false, true⟩) s
      = .next (endTransaction (handRequest .trimmer .readAxes (axesJudged ef eo eh (slotHeard .trimmer s)))) := by
  have hs' : (slotHeard .trimmer s).trim.state = .settling := hs
  have hact : readAxesAnswered (.errors ef eo eh) (slotHeard .trimmer s)
      = handRequest .trimmer .readAxes (axesJudged ef eo eh (slotHeard .trimmer s)) := by
    rw [← axesRead_present (slotHeard_present _ _)]
    unfold readAxesAnswered
    rw [hs']
  rw [exec_readAxesAnswer h.live, takeAnswer_final h rfl (busy := AxesAnswer.errors ef eo eh == AxesAnswer.busy) rfl, hact]

/-! ## The settle time (R142) -/

theorem allConverged_iff (t : Trimmer) : allConverged t = true ↔ ∀ x, (axisOf t x).converged = true := by
  refine ⟨fun h x => ?_, fun h => ?_⟩
  · obtain ⟨⟨hf, ho⟩, hh⟩ : (t.front.converged = true ∧ t.foot.converged = true) ∧ t.head.converged = true := by
      simpa [allConverged] using h
    cases x
    · exact hf
    · exact ho
    · exact hh
  · simp [allConverged, show t.front.converged = true from h .front, show t.foot.converged = true from h .foot,
      show t.head.converged = true from h .head]

theorem settledSince_some {a : AxisRec} {v : Nat} (h : a.sinceMove = true) (hv : a.settleTime = some v) :
    settledSince a = v := by
  simp [settledSince, h, hv]

/-- An axis' settle time is one of the move, or counts 0. -/
theorem settledSince_cases (a : AxisRec) :
    settledSince a = 0 ∨ a.sinceMove = true ∧ a.settleTime = some (settledSince a) := by
  unfold settledSince
  split
  · next h =>
    cases hv : a.settleTime with
    | none => exact .inl rfl
    | some v => exact .inr ⟨h, rfl⟩
  · exact .inl rfl

/-- The largest of the three settle times, whose axis is one of the three. -/
theorem exists_largest (t : Trimmer) : ∃ x, settledSince (axisOf t x)
    = max (settledSince t.front) (max (settledSince t.foot) (settledSince t.head))
      ∧ ∀ y, settledSince (axisOf t y) ≤ settledSince (axisOf t x) := by
  obtain ⟨m, hm⟩ : ∃ m, m = max (settledSince t.front) (max (settledSince t.foot) (settledSince t.head)) := ⟨_, rfl⟩
  have hle : ∀ y, settledSince (axisOf t y) ≤ m := fun y => by
    cases y <;> simp only [axisOf] <;> omega
  have hone : settledSince t.front = m ∨ settledSince t.foot = m ∨ settledSince t.head = m := by omega
  rw [← hm]
  rcases hone with h | h | h
  · exact ⟨.front, h, fun y => (hle y).trans (le_of_eq h.symm)⟩
  · exact ⟨.foot, h, fun y => (hle y).trans (le_of_eq h.symm)⟩
  · exact ⟨.head, h, fun y => (hle y).trans (le_of_eq h.symm)⟩

theorem trimSettle_unmoved {t : Trimmer} (h : t.moveTime = none) : trimSettle t = 0 := by
  unfold trimSettle
  rw [h]

theorem trimSettle_moved {t : Trimmer} (h : t.moveTime ≠ none) :
    trimSettle t = min 65535 (max (settledSince t.front) (max (settledSince t.foot) (settledSince t.head))) := by
  unfold trimSettle
  split
  · next e => exact absurd e h
  · rfl

/-- The settle time is the largest of the axes that settled since the move, at most 65,535 (R142). -/
theorem trimSettle_largest {t : Trimmer} {a : Axis} {v : Nat} (h : t.moveTime ≠ none)
    (ha : (axisOf t a).sinceMove = true) (hv : (axisOf t a).settleTime = some v) : trimSettle t ≤ 65535
      ∧ (∀ x w, (axisOf t x).sinceMove = true → (axisOf t x).settleTime = some w → min w 65535 ≤ trimSettle t)
      ∧ (trimSettle t = 65535 ∨ ∃ x, (axisOf t x).sinceMove = true ∧ (axisOf t x).settleTime = some (trimSettle t)) := by
  obtain ⟨x, hx, hmax⟩ := exists_largest t
  rw [trimSettle_moved h, ← hx]
  refine ⟨Nat.min_le_left _ _, fun y w hy hw => ?_, ?_⟩
  · have hle := hmax y
    rw [settledSince_some hy hw] at hle
    omega
  · by_cases hbig : 65535 ≤ settledSince (axisOf t x)
    · exact .inl (Nat.min_eq_left hbig)
    · rw [Nat.min_eq_right (by omega)]
      rcases settledSince_cases (axisOf t x) with h0 | hs
      · have hle := hmax a
        rw [settledSince_some ha hv, h0] at hle
        exact .inr ⟨a, ha, by rw [hv, h0, Nat.le_zero.1 hle]⟩
      · exact .inr ⟨x, hs⟩

/-! ## An axis' window (R141) -/

/-- The trimmer with the axis converged. -/
def converged (a : Axis) (s : State) : Trimmer :=
  setAxis a (convergeAxis s.clock s.trim.moveTime (axisOf s.trim a)) s.trim

theorem converged_kept (a : Axis) (s : State) : (converged a s).held = s.trim.held
    ∧ (converged a s).state = s.trim.state ∧ (converged a s).guardPause = s.trim.guardPause
    ∧ (converged a s).moveTime = s.trim.moveTime ∧ (axisOf (converged a s) a).sinceMove = true
    ∧ (axisOf (converged a s) a).settleTime = s.trim.moveTime.map (elapsed s.clock) := by
  cases a <;> exact ⟨rfl, rfl, rfl, rfl, rfl, rfl⟩

theorem axisWindow_early {a : Axis} (h : ¬∃ w, (axisOf s.trim a).window = some w ∧ 50 ≤ (s.clock - w).toNat) :
    axisWindow a s = s :=
  if_neg fun k => h ((startDue_iff _ _ _).1 k)

theorem axisWindow_due {a : Axis} (h : ∃ w, (axisOf s.trim a).window = some w ∧ 50 ≤ (s.clock - w).toNat)
    (hs : s.trim.state = .settling) : axisWindow a s =
      if allConverged (converged a s) && !s.trim.guardPause
      then beginClamping { s with trim := converged a s } else { s with trim := converged a s } := by
  obtain ⟨-, hstate, hpause, -⟩ := converged_kept a s
  have hthird : ((converged a s).state == .settling && allConverged (converged a s) && !(converged a s).guardPause) = true
      ↔ (allConverged (converged a s) && !s.trim.guardPause) = true := by
    rw [hstate, hs, hpause]
    rfl
  exact (if_pos ((startDue_iff _ _ _).2 h)).trans (if_congr hthird rfl rfl)

theorem thirdConverged_iff {a : Axis} : (allConverged (converged a s) && !s.trim.guardPause) = true
    ↔ (∀ x, (axisOf (converged a s) x).converged = true) ∧ s.trim.guardPause = false := by
  rw [Bool.and_eq_true, allConverged_iff, Bool.not_eq_true']

/-! ## The settle timer (R143) -/

theorem settleDue_iff (now : Time) (x : SettleTimer) :
    settleDue now x = true ↔ ∃ w, x = .running w ∧ 2000 ≤ (now - w).toNat := by
  cases x <;> simp [settleDue, due_iff, Config.settleLimit]

theorem settleTimeout_early (h : ¬∃ w, s.trim.settleTimer = .running w ∧ 2000 ≤ (s.clock - w).toNat) :
    settleTimeout s = s :=
  if_neg fun k => h ((settleDue_iff _ _).1 (Bool.and_eq_true _ _ ▸ k).2)

theorem settleTimeout_due (h : ∃ w, s.trim.settleTimer = .running w ∧ 2000 ≤ (s.clock - w).toNat)
    (hs : s.trim.state = .settling) : settleTimeout s =
      if s.trim.guardPause then { s with trim := { s.trim with settleTimer := .runOut } } else settleTimedOut s :=
  if_pos (by rw [hs, (settleDue_iff _ _).2 h]; rfl)

/-! ## The trim guard closes (R148) -/

/-- The owners' part of a scan, seen from before the scan. -/
theorem TrimWork.afterScan {x : Scanner} (h : TrimWork { clearOut s with scan := x } t) :
    LineKept { s with scan := t.scan, trim := { s.trim with held := t.trim.held } } t ∧ t.line = s.line := by
  obtain ⟨hk, hl⟩ := h
  rw [show t.scan = x from hk.tables.scan]
  have hs : LineKept { s with scan := x, trim := { s.trim with held := t.trim.held } }
      { clearOut s with scan := x, trim := { s.trim with held := t.trim.held } } :=
    ⟨⟨rfl, rfl, rfl, rfl, rfl, rfl, rfl, rfl⟩, ⟨rfl, rfl, rfl, rfl, rfl, rfl⟩, .ofEq rfl, rfl⟩
  exact ⟨hs.trans hk, hl⟩

theorem scanned_eq (r : BitVec 64) (s : State) : ∃ x, scanned r s = { clearOut s with scan := x } := ⟨_, rfl⟩

/-- The guard pause mark cleared. -/
def unpaused (s : State) : State := { s with trim := { s.trim with guardPause := false } }

theorem exec_guardClosed {r : BitVec 64} (h : HandsChange s r 22 true) :
    exec (.scanEnd r) s = .next (guardResumed (scanned r s)) := exec_handsChange h

theorem guardResumed_eq (s : State) : guardResumed s = match (unpaused s).trim.state with
    | .positioning => positionDecision (unpaused s)
    | .settling =>
      if allConverged s.trim then beginClamping (unpaused s)
      else if s.trim.settleTimer == .runOut then settleTimedOut (unpaused s)
      else unpaused s
    | .clamping | .frontCut | .hfCut => if s.trim.stepHeld then nextStep (unpaused s) else unpaused s
    | .eject => if s.trim.stepHeld then trimStep .eject (.eject s.trim.dest) (unpaused s) else unpaused s
    | _ => unpaused s := rfl

theorem guardResumed_positioning (hs : s.trim.state = .positioning) : guardResumed s = positionDecision (unpaused s) := by
  rw [guardResumed_eq, show (unpaused s).trim.state = _ from hs]

theorem guardResumed_settling (hs : s.trim.state = .settling) : guardResumed s =
    if allConverged s.trim then beginClamping (unpaused s)
    else if s.trim.settleTimer == .runOut then settleTimedOut (unpaused s) else unpaused s := by
  rw [guardResumed_eq, show (unpaused s).trim.state = _ from hs]

/-! ## The positioning decision (R140) -/

/-- The target of an axis for a book (R35). -/
def bookTarget (b : Book) : Axis → Int
  | .front => b.ticket.trimWidth
  | .foot => b.ticket.footMargin
  | .head => b.ticket.footMargin + b.ticket.trimHeight

/-- The axis rests: its flag is set and it stands within 20 micrometres of the target (R140). -/
def Rests (a : AxisRec) (target : Int) : Prop := a.converged = true ∧ ∃ w e, a.target = some w ∧ a.error = some e
  ∧ -20 ≤ w + e - target ∧ w + e - target ≤ 20

theorem needsMove_iff (a : AxisRec) (target : Int) : needsMove a target = true ↔ ¬Rests a target := by
  unfold needsMove Rests
  split
  · next w e hc ht he =>
    rw [decide_eq_true_iff]
    constructor
    · rintro hfar ⟨-, w', e', hw, he', h₁, h₂⟩
      obtain rfl : w = w' := Option.some.inj (ht.symm.trans hw)
      obtain rfl : e = e' := Option.some.inj (he.symm.trans he')
      exact absurd (abs_le.2 ⟨h₁, h₂⟩) (not_le.2 hfar)
    · intro hr
      by_contra hfar
      obtain ⟨h₁, h₂⟩ := abs_le.1 (not_lt.1 hfar)
      exact hr ⟨hc, w, e, ht, he, h₁, h₂⟩
  · next hno =>
    refine ⟨fun _ ⟨hc, w, e, ht, he, _⟩ => hno w e hc ht he, fun _ => rfl⟩

/-- The axes at the positioning decision, before anything is asked for. -/
def positioned (b : Book) (s : State) : State := { s with trim := { s.trim with
  state := .settling, moveTime := none, settleTimer := .stopped
  front := positionAxis (bookTarget b .front) s.trim.front
  foot := positionAxis (bookTarget b .foot) s.trim.foot
  head := positionAxis (bookTarget b .head) s.trim.head } }

/-- The SET_AXES of the decision. -/
def setAxesFor (b : Book) (t : Trimmer) : ReqKind := .setAxes (moveTarget (bookTarget b .front) t.front)
  (moveTarget (bookTarget b .foot) t.foot) (moveTarget (bookTarget b .head) t.head)

theorem positionDecision_moves (hb : s.trim.held = .inside b) (hp : present s .trimmer = true)
    (h : ∃ a, ¬Rests (axisOf s.trim a) (bookTarget b a)) :
    positionDecision s = handRequest .trimmer (setAxesFor b s.trim) (positioned b s) := by
  have hany : (needsMove s.trim.front (bookTarget b .front) || needsMove s.trim.foot (bookTarget b .foot)
      || needsMove s.trim.head (bookTarget b .head)) = true := by
    obtain ⟨a, ha⟩ := h
    have hn := (needsMove_iff _ _).2 ha
    cases a <;> simp only [axisOf] at hn <;> simp only [hn, Bool.true_or, Bool.or_true]
  have hheld : heldBook s = some b := by simp only [heldBook, hb]
  unfold positionDecision
  rw [hheld]
  exact (if_pos hany).trans (trimRequest_present (s := positioned b s) _ hp)

theorem positionDecision_rests (hb : s.trim.held = .inside b) (h : ∀ a, Rests (axisOf s.trim a) (bookTarget b a)) :
    positionDecision s = beginClamping { s with trim := { s.trim with moveTime := none } } := by
  have hnone : ∀ a, needsMove (axisOf s.trim a) (bookTarget b a) = false := fun a =>
    Bool.eq_false_iff.2 fun k => (needsMove_iff _ _).1 k (h a)
  have hany : (needsMove s.trim.front (bookTarget b .front) || needsMove s.trim.foot (bookTarget b .foot)
      || needsMove s.trim.head (bookTarget b .head)) = false := by
    rw [show needsMove s.trim.front (bookTarget b .front) = false from hnone .front,
      show needsMove s.trim.foot (bookTarget b .foot) = false from hnone .foot,
      show needsMove s.trim.head (bookTarget b .head) = false from hnone .head]
    rfl
  have hheld : heldBook s = some b := by simp only [heldBook, hb]
  unfold positionDecision
  rw [hheld]
  exact if_neg (by rw [Bool.not_eq_true]; exact hany)

theorem positioned_axis (b : Book) (s : State) (a : Axis) :
    axisOf (positioned b s).trim a = positionAxis (bookTarget b a) (axisOf s.trim a) := by
  cases a <;> rfl

/-- An axis that rests is not named and stays; another takes the target (R140). -/
theorem positionAxis_decided (a : AxisRec) (x : Int) :
    (Rests a x → moveTarget x a = none ∧ positionAxis x a = { a with sinceMove := false })
    ∧ (¬Rests a x → moveTarget x a = some x ∧ positionAxis x a = { a with
      target := some x, converged := false, window := none, settleTime := none, sinceMove := false }) := by
  refine ⟨fun h => ?_, fun h => ?_⟩
  · have hn : needsMove a x = false := Bool.eq_false_iff.2 fun k => (needsMove_iff _ _).1 k h
    simp only [moveTarget, positionAxis, hn]
    exact ⟨rfl, rfl⟩
  · have hn := (needsMove_iff _ _).2 h
    simp only [moveTarget, positionAxis, hn]
    exact ⟨rfl, rfl⟩

/-- What the positioning decision with a move leaves (R138, R140). -/
structure Moving (b : Book) (s t : State) : Prop where
  work  : TrimWork s t
  asked : Asked t.bus .trimmer (setAxesFor b s.trim)
  state : t.trim.state = .settling ∧ t.trim.held = s.trim.held ∧ t.trim.guardPause = s.trim.guardPause
  axes  : ∀ a, axisOf t.trim a = positionAxis (bookTarget b a) (axisOf s.trim a)
  busy  : s.bus.current ≠ none → t.trim.moveTime = none ∧ t.trim.settleTimer = .stopped
  free  : s.bus.current = none → NothingWaits s.bus → s.busOut = [] → SentNow s t .trimmer (setAxesFor b s.trim)
    ∧ t.trim.moveTime = some s.clock ∧ t.trim.settleTimer = .running s.clock

theorem positionDecision_moving (hb : s.trim.held = .inside b) (hp : present s .trimmer = true)
    (h : ∃ a, ¬Rests (axisOf s.trim a) (bookTarget b a)) : Moving b s (positionDecision s) := by
  obtain ⟨u, hu⟩ : ∃ u, u = positioned b s := ⟨_, rfl⟩
  have hk : TrimWork s u := trimWork_of_eq hu
  have hut : u.trim = (positioned b s).trim := by rw [hu]
  have hbus : u.bus = s.bus := by rw [hu]; rfl
  have hw := handRequest_busWork .trimmer (setAxesFor b s.trim) u
  obtain ⟨x, y, z, ht⟩ := hw.trim
  rw [positionDecision_moves hb hp h, ← hu]
  refine ⟨hk.busWork hw, handRequest_asked _ _ _, ?_, fun a => ?_, fun hc => ?_, fun hc hq ho => ?_⟩
  · rw [ht, hut]
    exact ⟨rfl, rfl, rfl⟩
  · rw [← positioned_axis, ← hut, ht]
    cases a <;> rfl
  · have hbusy : handRequest .trimmer (setAxesFor b s.trim) u = { u with
        bus := u.bus.enqueue (.req ⟨.trimmer, setAxesFor b s.trim, none⟩) } :=
      handOver_of_busy _ (by rw [hbus]; exact hc)
    rw [hbusy]
    show u.trim.moveTime = _ ∧ u.trim.settleTimer = _
    rw [hut]
    exact ⟨rfl, rfl⟩
  · obtain ⟨l, hl⟩ := handOver_free (s := u) (by rw [hbus]; exact hq) (by rw [hbus]; exact hc)
      (.req ⟨.trimmer, setAxesFor b s.trim, none⟩)
    have hs := sendRequest_sentNow (s := u) (n := .trimmer) (k := setAxesFor b s.trim) rfl (by rw [hu]; exact ho) l
    have hrec : nodeRec u .trimmer = nodeRec s .trimmer := by
      unfold nodeRec
      rw [hbus]
    have hclock : u.clock = s.clock := by rw [hu]; rfl
    rw [show handRequest .trimmer (setAxesFor b s.trim) u = _ from hl]
    refine ⟨hs.congr hclock (by rw [hrec]) (by rw [hrec]), ?_⟩
    rw [← hclock]
    exact ⟨rfl, rfl⟩

end

/-- Settles O52: the axes are read, judged and converged, or the book is rejected for its settle time. -/
theorem trimmerSettlesAxes : Obligations.TrimmerSettlesAxes := by
  refine ⟨fun s q b hl hs hb => ?_, fun r s b h hb hp => ?_⟩
  · intro heldKept
    refine ⟨fun f o h' h => ?_, fun h ef eo eh => ?_, fun h => ?_, fun a => ?_, ?_⟩
    · obtain ⟨hsent, hw, ht⟩ := h.asksNext (j := .readAxes) (u := slotHeard .trimmer s) rfl rfl rfl
      exact ⟨_, exec_setAxesDone hs h, (slotHeard_kept .trimmer s).trans hw.lineKept, ht, hsent⟩
    · obtain ⟨u, hu⟩ : ∃ u, u = axesJudged ef eo eh (slotHeard .trimmer s) := ⟨_, rfl⟩
      obtain ⟨hsent, hw, ht⟩ := h.asksNext (j := .readAxes) (u := u) (by rw [hu]; rfl) (by rw [hu]; rfl) (by rw [hu]; rfl)
      have ht' : (endTransaction (handRequest .trimmer .readAxes u)).trim = u.trim := ht
      have hx := exec_readAxesErrors (ef := ef) (eo := eo) (eh := eh) hs h
      rw [← hu] at hx
      refine ⟨_, hx, (trimWork_of_eq (s := s) hu).busWork hw, hsent, ?_⟩
      rw [ht', hu]
      refine ⟨hs, rfl, ?_, fun a => ?_⟩
      · show s.trim.held.map _ = _
        rw [hb]
        rfl
      · cases a <;> exact judgeAxis_table s.clock _ _
    · rw [exec_readAxesAnswer h.live]
      exact congrArg _ (takeAnswer_busy h rfl)
    · intro old out u third
      have hexec : exec (.axisSettleWindow a) s = .next (axisWindow a (clearOut s)) := congrArg _ (live_next _ _ hl)
      obtain ⟨hheld, -, -, hmove, hsince, hsettle⟩ := converged_kept a s
      refine ⟨fun ho => hexec.trans (congrArg _ (axisWindow_early (s := clearOut s) ho)), fun ho h3 => ?_,
        fun ho h3 hp => ?_⟩
      all_goals have hdue := hexec.trans (congrArg _ (axisWindow_due (s := clearOut s) ho hs))
      · exact hdue.trans (congrArg _ (if_neg fun k => h3 ((thirdConverged_iff (s := s)).1 k)))
      · obtain ⟨v, hv⟩ : ∃ v, v = { clearOut s with trim := converged a s } := ⟨_, rfl⟩
        have hx : exec (.axisSettleWindow a) s = .next (beginClamping v) :=
          hdue.trans (congrArg _ ((if_pos ((thirdConverged_iff (s := s)).2 h3)).trans (by rw [hv]; rfl)))
        obtain ⟨hwork, hasked, y, ht⟩ := beginClamping_clamping (s := v) (by rw [hv]; exact hp)
        have hvt : v.trim = u := by rw [hv]; rfl
        refine ⟨_, hx, ?_, by rw [ht], by rw [ht], by rw [ht], hasked, trimSettle u, ?_, fun h0 => ?_, fun h0 => ?_⟩
        · exact (trimWork_of_eq (s := s) hv).trans hwork
        · rw [ht, hvt]
          show u.held.map _ = _
          rw [show u.held = .inside b from hheld.trans hb]
          rfl
        · exact trimSettle_unmoved (hmove.trans h0)
        · obtain ⟨m, hm⟩ := Option.ne_none_iff_exists'.1 h0
          exact trimSettle_largest (by rw [show u.moveTime = _ from hmove]; exact h0) hsince (hsettle.trans (by rw [hm]; rfl))
    · intro out
      have hexec : exec .settleTimeout s = .next (settleTimeout (clearOut s)) := congrArg _ (live_next _ _ hl)
      refine ⟨fun ho => hexec.trans (congrArg _ (settleTimeout_early (s := clearOut s) ho)), fun ho hg => ?_,
        fun ho hg hp => ?_⟩
      all_goals have hdue := hexec.trans (congrArg _ (settleTimeout_due (s := clearOut s) ho hs))
      · exact hdue.trans (congrArg _ (if_pos hg))
      · have hx : exec .settleTimeout s = .next (settleTimedOut (clearOut s)) :=
          hdue.trans (congrArg _ (if_neg (by rw [show (clearOut s).trim.guardPause = _ from hg]; decide)))
        obtain ⟨hwork, hasked, ⟨y, f, h0, h1, ht⟩, hnoticed⟩ := settleTimedOut_failed (s := clearOut s) hg hp
        have hid : heldId (clearOut s) = b.ticket.id := by
          unfold heldId heldBook
          rw [show (clearOut s).trim.held = _ from hb]
        refine ⟨_, hx, (trimWork_of_eq (s := s) rfl).trans hwork, by rw [ht], by rw [ht], by rw [ht], ?_, hasked, by rw [ht]; rfl,
          fun k => by rw [ht]; exact h0 k, fun k => ⟨by rw [ht]; exact h1 k, hid ▸ hnoticed k⟩⟩
        rw [ht]
        show s.trim.held.map _ = _
        rw [hb, ← withReason_eq]
        rfl
  · intro target rests takes
    obtain ⟨x, hx⟩ := scanned_eq r s
    have hexec := exec_guardClosed h
    rw [hx] at hexec
    obtain ⟨u, hu⟩ : ∃ u, u = { clearOut s with scan := x } := ⟨_, rfl⟩
    obtain ⟨w, hw⟩ : ∃ w, w = unpaused u := ⟨_, rfl⟩
    rw [← hu] at hexec
    have hut : u.trim = s.trim := by rw [hu]; rfl
    have hwt : w.trim = { s.trim with guardPause := false } := by rw [hw, ← hut]; rfl
    have hwk : TrimWork { clearOut s with scan := x } w := trimWork_of_eq (by rw [hw, hu]; rfl)
    have hwp : present w .trimmer = true := by rw [hw, hu]; exact hp
    have hwb : w.trim.held = .inside b := by rw [hwt]; exact hb
    have hwx : ∀ a, axisOf w.trim a = axisOf s.trim a := fun a => by rw [hwt]; cases a <;> rfl
    have htakes : ∀ (p : State → Prop) t, exec (.scanEnd r) s = .next t → TrimWork w t → t.trim.guardPause = false → p t →
        takes p := fun p t hx' hk hg hp' => by
      obtain ⟨hkept, hline⟩ := (hwk.trans hk).afterScan
      exact ⟨t, hx', hg, hline, hkept, hp'⟩
    have hclamp : ∀ v, exec (.scanEnd r) s = .next (beginClamping v) → TrimWork w v → present v .trimmer = true →
        v.trim.guardPause = false → ∀ p : State → Prop, (Clamping v (beginClamping v) → p (beginClamping v)) → takes p :=
      fun v hx' hk hp' hg p hc => by
        have k := beginClamping_clamping hp'
        obtain ⟨y, hy⟩ := k.trim
        exact htakes p _ hx' (hk.trans k.work) (by rw [hy]; exact hg) (hc k)
    refine ⟨fun hs => ⟨fun hmove => ?_, fun hrest => ?_⟩, fun hs => ?_⟩
    · have hgo := hexec.trans (congrArg _ (guardResumed_positioning (s := u) (by rw [hut]; exact hs)))
      rw [← hw] at hgo
      have k := positionDecision_moving hwb hwp (by simp only [hwx]; exact hmove)
      obtain ⟨hstate, hheld, hpause⟩ := k.state
      refine htakes _ _ hgo k.work (hpause.trans (by rw [hwt])) ⟨hstate, hheld.trans hwb,
        fun a => moveTarget (bookTarget b a) (axisOf s.trim a), fun a => ?_, ?_⟩
      · rw [k.axes a, hwx]
        exact positionAxis_decided _ _
      · have hset : setAxesFor b w.trim = setAxesFor b s.trim := by rw [hwt]; rfl
        have hbus : w.bus = s.bus := by rw [hw, hu]; rfl
        have hclock : w.clock = s.clock := by rw [hw, hu]; rfl
        have hout : w.busOut = [] := by rw [hw, hu]; rfl
        have hrec : nodeRec w .trimmer = nodeRec s .trimmer := by
          unfold nodeRec
          rw [hbus]
        obtain ⟨-, hasked, -, -, hbusy, hfree⟩ := k
        rw [hset] at hasked
        rw [hbus] at hbusy
        refine ⟨hasked, hbusy, fun hc hq => ?_⟩
        obtain ⟨hsent, hmt, hst⟩ := hfree (by rw [hbus]; exact hc) (by rw [hbus]; exact hq) hout
        rw [hset] at hsent
        rw [hclock] at hmt hst
        exact ⟨hsent.congr hclock (by rw [hrec]) (by rw [hrec]), hmt, hst⟩
    · have hgo := hexec.trans (congrArg _ (guardResumed_positioning (s := u) (by rw [hut]; exact hs)))
      obtain ⟨v, hv⟩ : ∃ v, v = { w with trim := { w.trim with moveTime := none } } := ⟨_, rfl⟩
      rw [← hw, positionDecision_rests hwb (by simp only [hwx]; exact hrest), ← hv] at hgo
      have hvt : v.trim = { w.trim with moveTime := none } := by rw [hv]
      refine hclamp v hgo (trimWork_of_eq hv) (by rw [hv]; exact hwp) (by rw [hvt, hwt]) _ fun k => ?_
      obtain ⟨-, hasked, y, hy⟩ := k
      rw [hy]
      refine ⟨rfl, rfl, rfl, ?_, hasked⟩
      show v.trim.held.map _ = _
      rw [trimSettle_unmoved (t := v.trim) (by rw [hvt]), show v.trim.held = .inside b by rw [hvt]; exact hwb]
      rfl
    · intro all
      have hgo := hexec.trans (congrArg _ (guardResumed_settling (s := u) (by rw [hut]; exact hs)))
      rw [← hw, hut] at hgo
      have hall : allConverged s.trim = true ↔ all := allConverged_iff s.trim
      refine ⟨fun ha => ?_, fun ha ht => ?_, fun ha ht => ?_⟩
      · rw [if_pos (hall.2 ha)] at hgo
        refine hclamp w hgo (trimWork_of_eq rfl) hwp (by rw [hwt]) _ fun k => ?_
        obtain ⟨-, hasked, y, hy⟩ := k
        rw [hy]
        exact ⟨rfl, rfl, rfl, hasked⟩
      all_goals rw [if_neg (mt hall.1 ha)] at hgo
      · rw [if_pos (beq_iff_eq.2 ht)] at hgo
        obtain ⟨hwork, hasked, ⟨y, f, -, -, hy⟩, -⟩ := settleTimedOut_failed (s := w) (by rw [hwt]) hwp
        refine htakes _ _ hgo hwork (by rw [hy, hwt]) ?_
        rw [hy]
        refine ⟨rfl, rfl, rfl, by rw [hwt], ?_, hasked⟩
        show w.trim.held.map _ = _
        rw [hwb, ← withReason_eq]
        rfl
      · rw [if_neg (mt beq_iff_eq.1 ht)] at hgo
        rw [hgo, hw, hx]
        exact congrArg _ (by rw [hu]; rfl)

end Sys2Proof.Machine

/-! PROOFS. O53: the cut cycle (8.5 to 8.8, 9.4). -/

namespace Sys2Proof.Machine

section
variable {s t u v : State} {n : NodeId} {k : ReqKind} {b : Book} {f : Frame} {q : Byte}

/-! ## A request handed over while the bus is taken (R162) -/

/-- What waits is asked for also when the transaction on the bus has ended. -/
theorem endTransaction_asked {r : Option Byte} (h : Frame.req ⟨n, k, r⟩ ∈ s.bus.frames) :
    Asked (endTransaction s).bus n k :=
  pump_asked _ (.inl ⟨_, h, r, rfl⟩)

theorem handRequest_waits (h : s.bus.current ≠ none) : Frame.req ⟨n, k, none⟩ ∈ (handRequest n k s).bus.frames := by
  have he : handRequest n k s = { s with bus := s.bus.enqueue (.req ⟨n, k, none⟩) } := handOver_of_busy _ h
  rw [he]
  exact (enqueue_frames _ _ _).2 (.inl rfl)

theorem trimStep_waits (x : TrimState) (j : StepKind) (hp : present s .trimmer = true) (h : s.bus.current ≠ none) :
    Frame.req ⟨.trimmer, .step j, none⟩ ∈ (trimStep x j s).bus.frames := by
  have he : trimStep x j s = handRequest .trimmer (.step j)
      { s with trim := { s.trim with state := x, stepHeld := false, stepTimer := none } } := trimRequest_present _ hp
  rw [he]
  exact handRequest_waits h

theorem beginEject_waits (hg : s.trim.guardPause = false) (hp : present s .trimmer = true) (h : s.bus.current ≠ none) :
    Frame.req ⟨.trimmer, .step (.eject s.trim.dest), none⟩ ∈ (beginEject s).bus.frames := by
  have he : beginEject s = trimStep .eject (.eject s.trim.dest) { s with trim := { s.trim with exitConfirm := .none } } :=
    if_neg (show ¬s.trim.guardPause = true by rw [hg]; decide)
  rw [he]
  exact trimStep_waits _ _ hp h

/-! ## A step has failed (R145) -/

/-- The step given up, its book rejected and the notice raised, before the eject or the fault. -/
def stepGivenUp (timeout : Bool) (s : State) : State :=
  let id := heldId s
  let s := giveUp isTrimWork { s with trim := { s.trim with stepTimer := none, settleTimer := .stopped } }
  let s := if timeout then abortTrimmer s else s
  let s := modifyHeld (fun b => b.withReason .trim)
    { s with trim := { s.trim with pendingFault := some .trimmerFault } }
  raiseNotice .trimmerFault id s

theorem stepFailed_eq (timeout : Bool) (s : State) : stepFailed timeout s =
    if s.trim.state == .eject then trimFault .trimmerFault true (stepGivenUp timeout s)
    else beginEject { stepGivenUp timeout s with trim := { (stepGivenUp timeout s).trim with dest := .reject } } := rfl

/-- What a failed step leaves before the eject or the fault. -/
structure GivenUpStep (s t : State) : Prop where
  work     : TrimWork s t
  noticed  : Noticed .trimmerFault (heldId s) t
  present  : ∀ n, present t n = present s n
  restarts : ∀ n, (nodeRec t n).restarts = (nodeRec s n).restarts
  trim     : ∃ x y z, t.trim = { s.trim with
    moveTime := x, settleTimer := y, stepTimer := z, pendingFault := some .trimmerFault
    held := s.trim.held.map fun b => b.withReason .trim }

theorem stepGivenUp_givenUp (timeout : Bool) (s : State) : GivenUpStep s (stepGivenUp timeout s) := by
  obtain ⟨u, hu⟩ : ∃ u, u = giveUp isTrimWork { s with trim := { s.trim with stepTimer := none, settleTimer := .stopped } } :=
    ⟨_, rfl⟩
  obtain ⟨v, hv⟩ : ∃ v, v = if timeout then abortTrimmer u else u := ⟨_, rfl⟩
  have hb : BusWork u v := by
    rw [hv]
    split
    · exact abortTrimmer_busWork _
    · exact .refl u
  obtain ⟨w, hw⟩ : ∃ w, w = modifyHeld (fun b => b.withReason .trim)
      { v with trim := { v.trim with pendingFault := some .trimmerFault } } := ⟨_, rfl⟩
  have he : stepGivenUp timeout s = raiseNotice .trimmerFault (heldId s) w := by rw [hw, hv, hu]; rfl
  have hn := noticed_raiseNotice .trimmerFault (heldId s) w
  obtain ⟨y, hy⟩ := raiseNotice_host .trimmerFault (heldId s) w
  obtain ⟨a, c, d, ht⟩ := hb.trim
  have hbus : w.bus = v.bus := by rw [hw]; rfl
  have hus : ∀ n, nodeRec u n = nodeRec s n := fun n => by rw [hu]; rfl
  have hws : ∀ n, nodeRec w n = nodeRec v n := fun n => by
    unfold nodeRec
    rw [hbus]
  have hwork : TrimWork s v := TrimWork.busWork (s := s) (trimWork_of_eq hu) hb
  have hwork' : TrimWork v w := trimWork_of_eq hw
  rw [hy] at hn
  rw [he, hy]
  refine ⟨(hwork.trans hwork').trans (trimWork_of_eq rfl), hn, fun n => ?_, fun n => ?_, a, c, d, ?_⟩
  · unfold Machine.present
    rw [← hus n]
    exact (congrArg (fun r => r.state == .present) (hws n)).trans (hb.present n)
  · rw [← hus n]
    exact (congrArg NodeRec.restarts (hws n)).trans (hb.restarts n)
  · have hwt : w.trim = { v.trim with
        pendingFault := some .trimmerFault, held := v.trim.held.map fun b => b.withReason .trim } := by
      rw [hw]
      rfl
    exact hwt.trans (by rw [ht, hu]; rfl)

theorem stepGivenUp_busy (h : s.bus.current ≠ none) : (stepGivenUp false s).bus.current ≠ none := by
  obtain ⟨w, hw⟩ : ∃ w, w = modifyHeld (fun b => b.withReason .trim)
      { giveUp isTrimWork { s with trim := { s.trim with stepTimer := none, settleTimer := .stopped } } with
        trim := { s.trim with stepTimer := none, settleTimer := .stopped, pendingFault := some .trimmerFault } } := ⟨_, rfl⟩
  have he : stepGivenUp false s = raiseNotice .trimmerFault (heldId s) w := by rw [hw]; rfl
  obtain ⟨y, hy⟩ := raiseNotice_host .trimmerFault (heldId s) w
  rw [he, hy]
  show w.bus.current ≠ none
  rw [hw]
  show (giveUp isTrimWork _).bus.current ≠ none
  simp only [giveUp]
  split
  · nofun
  · exact h

/-- The book of a failed step is ejected to reject (R145). -/
structure StepRejected (s t : State) : Prop where
  work     : TrimWork s t
  state    : t.trim.state = .eject
  dest     : t.trim.dest = .reject
  pending  : t.trim.pendingFault = some .trimmerFault
  held     : t.trim.held = s.trim.held.map fun b => b.withReason .trim
  axes     : ∀ a, axisOf t.trim a = axisOf s.trim a
  noticed  : Noticed .trimmerFault (heldId s) t
  restarts : ∀ n, (nodeRec t n).restarts = (nodeRec s n).restarts
  paused   : s.trim.guardPause = true → t.trim.stepHeld = true

theorem StepRejected.busWork (h : StepRejected s t) (k : BusWork t u) : StepRejected s u := by
  obtain ⟨_, _, _, ht⟩ := k.trim
  refine ⟨h.work.busWork k, ?_, ?_, ?_, ?_, fun a => ?_, noticed_of_host h.noticed k.host,
    fun n => (k.restarts n).trans (h.restarts n), ?_⟩
  all_goals rw [ht]
  · exact h.state
  · exact h.dest
  · exact h.pending
  · exact h.held
  · rw [← h.axes a]
    cases a <;> rfl
  · exact h.paused

theorem stepFailed_rejected (timeout : Bool) (hs : s.trim.state ≠ .eject) (hp : present s .trimmer = true) :
    StepRejected s (stepFailed timeout s)
      ∧ (s.trim.guardPause = false → Asked (stepFailed timeout s).bus .trimmer (.step (.eject .reject)))
      ∧ (s.trim.guardPause = false → timeout = false → s.bus.current ≠ none →
        Frame.req ⟨.trimmer, .step (.eject .reject), none⟩ ∈ (stepFailed timeout s).bus.frames) := by
  obtain ⟨u, hu⟩ : ∃ u, u = stepGivenUp timeout s := ⟨_, rfl⟩
  have g : GivenUpStep s u := hu ▸ stepGivenUp_givenUp timeout s
  obtain ⟨v, hv⟩ : ∃ v, v = { u with trim := { u.trim with dest := .reject } } := ⟨_, rfl⟩
  have he : stepFailed timeout s = beginEject v := by
    rw [stepFailed_eq, if_neg (by simpa using hs), ← hu, hv]
  obtain ⟨x, y, z, htrim⟩ := g.trim
  have hvt : v.trim = { u.trim with dest := .reject } := by rw [hv]
  have hvk : TrimWork s v := g.work.trans (trimWork_of_eq hv)
  have hvp : present v .trimmer = true := by rw [hv]; exact (g.present _).trans hp
  have hvr : ∀ n, (nodeRec v n).restarts = (nodeRec s n).restarts := by rw [hv]; exact g.restarts
  have hvn : Noticed .trimmerFault (heldId s) v := noticed_of_host g.noticed (by rw [hv])
  have hvx : ∀ a, axisOf v.trim a = axisOf s.trim a := fun a => by rw [hvt, htrim]; cases a <;> rfl
  have hvh : v.trim.held = s.trim.held.map fun b => b.withReason .trim := by rw [hvt, htrim]
  have hvf : v.trim.pendingFault = some .trimmerFault := by rw [hvt, htrim]
  have hvg : v.trim.guardPause = s.trim.guardPause := by rw [hvt, htrim]
  have hvd : v.trim.dest = .reject := by rw [hvt]
  rw [he]
  cases hg : s.trim.guardPause with
  | true =>
    rw [beginEject_paused (by rw [hvg, hg])]
    exact ⟨⟨hvk.trans (trimWork_of_eq rfl), rfl, hvd, hvf, hvh, fun a => (by cases a <;> rfl : _ = axisOf v.trim a).trans (hvx a),
      noticed_of_host hvn rfl, hvr, fun _ => rfl⟩, fun h => Bool.noConfusion h, fun h => Bool.noConfusion h⟩
  | false =>
    obtain ⟨hb, ha⟩ := beginEject_present (s := v) (by rw [hvg, hg]) hvp
    rw [hvd] at ha
    have hr : StepRejected s { v with trim := { v.trim with
        exitConfirm := .none, state := .eject, stepHeld := false, stepTimer := none } } :=
      ⟨hvk.trans (trimWork_of_eq rfl), rfl, hvd, hvf, hvh, fun a => (by cases a <;> rfl : _ = axisOf v.trim a).trans (hvx a),
        noticed_of_host hvn rfl, hvr, fun h => by rw [hg] at h; cases h⟩
    refine ⟨hr.busWork hb, fun _ => ha, ?_⟩
    rintro - rfl hcur
    have hw := beginEject_waits (s := v) (by rw [hvg, hg]) hvp (by rw [hv, hu]; exact stepGivenUp_busy hcur)
    rwa [hvd] at hw

/-- A step that fails in EJECT faults the trimmer, its book rejected (R145, R149). -/
structure StepFaulted (s t : State) : Prop where
  work     : TrimWork s t
  state    : t.trim.state = .faulted
  cause    : t.trim.cause = some .trimmerFault
  pending  : t.trim.pendingFault = none
  dest     : t.trim.dest = s.trim.dest
  held     : ∀ b, s.trim.held = .inside b → t.trim.held = .inside { b with reason := some (b.reason.getD .trim) }
  axes     : ∀ a, (axisOf t.trim a).converged = false ∧ (axisOf t.trim a).window = none
  noticed  : Noticed .trimmerFault (heldId s) t
  restarts : ∀ n, (nodeRec t n).restarts = (nodeRec s n).restarts

theorem StepFaulted.busWork (h : StepFaulted s t) (k : BusWork t u) : StepFaulted s u := by
  obtain ⟨_, _, _, ht⟩ := k.trim
  refine ⟨h.work.busWork k, ?_, ?_, ?_, ?_, ?_, fun a => ?_, noticed_of_host h.noticed k.host,
    fun n => (k.restarts n).trans (h.restarts n)⟩
  all_goals rw [ht]
  · exact h.state
  · exact h.cause
  · exact h.pending
  · exact h.dest
  · exact h.held
  · have ha := h.axes a
    cases a <;> exact ha

theorem stepFailed_faulted (timeout : Bool) (hs : s.trim.state = .eject) : StepFaulted s (stepFailed timeout s) := by
  obtain ⟨u, hu⟩ : ∃ u, u = stepGivenUp timeout s := ⟨_, rfl⟩
  have g : GivenUpStep s u := hu ▸ stepGivenUp_givenUp timeout s
  obtain ⟨x, y, z, htrim⟩ := g.trim
  have he : stepFailed timeout s = trimFault .trimmerFault true u := by
    rw [stepFailed_eq, if_pos (beq_iff_eq.2 hs), ← hu]
  have hstate : u.trim.state ≠ .faulted := by
    rw [htrim]
    show s.trim.state ≠ _
    rw [hs]
    nofun
  obtain ⟨hb, -⟩ := trimFault_entered .trimmerFault true hstate
  obtain ⟨v, hv⟩ : ∃ v, v = trimFaultState .trimmerFault (giveUp isTrimWork u) := ⟨_, rfl⟩
  have hvt : v.trim = (trimFaultState .trimmerFault u).trim := by rw [hv]; rfl
  have hheld := (trimFaultState_held .trimmerFault u).1
  rw [he]
  refine StepFaulted.busWork (t := v) ⟨g.work.trans (trimWork_of_eq hv), by rw [hv]; rfl, by rw [hv]; rfl, by rw [hv]; rfl,
    ?_, fun b hb => ?_, fun a => ?_, noticed_of_host g.noticed (by rw [hv]; rfl), fun n => ?_⟩ (by rw [hv]; exact hb)
  · rw [hvt]
    show u.trim.dest = _
    rw [htrim]
  · have hin : u.trim.held = .inside { b with reason := some (b.reason.getD .trim) } := by
      rw [htrim]
      show s.trim.held.map _ = _
      rw [hb, ← withReason_eq]
      rfl
    rw [hvt, hheld _ hin]
    rfl
  · rw [hv]
    cases a <;> exact ⟨rfl, rfl⟩
  · rw [hv]
    exact g.restarts n

/-! ## The ABORT of a step that has not been answered (R145) -/

section
variable {c : BusContent}

theorem trimFault_heading (hc : contentOf f = some c) (x : TrimCause) (a : Bool) (h : Heading f c s) :
    Heading f c (trimFault x a s) := by
  unfold trimFault abortTrimmer
  refine .ite (fun _ => h) fun _ => ?_
  have hg : Heading f c (trimFaultState x (giveUp isTrimWork s)) := giveUp_heading hc _ h
  exact .ite (fun _ => .ite (fun _ => handOver_heading _ hc hg) fun _ => hg) fun _ => hg

theorem trimStep_heading (hc : contentOf f = some c) (x : TrimState) (j : StepKind) (h : Heading f c s) :
    Heading f c (trimStep x j s) := by
  unfold trimStep trimRequest
  exact .ite (fun _ => handOver_heading _ hc h) fun _ => trimFault_heading hc _ _ h

theorem beginEject_heading (hc : contentOf f = some c) (h : Heading f c s) : Heading f c (beginEject s) := by
  unfold beginEject
  exact .ite (fun _ => h) fun _ => trimStep_heading hc _ _ h

end

theorem stepFailed_aborts (hp : present s .trimmer = true) :
    .abortTrimmer ∈ (stepFailed true s).bus.trimQ ∨ BusContent.frame .abortTrimmer ∈ (stepFailed true s).busOut := by
  have hc : contentOf .abortTrimmer = some .abortTrimmer := rfl
  have hgiven : Heading .abortTrimmer .abortTrimmer (stepGivenUp true s) := by
    refine raiseNotice_heading _ _ ?_
    have habort : Heading .abortTrimmer .abortTrimmer (abortTrimmer (giveUp isTrimWork
        { s with trim := { s.trim with stepTimer := none, settleTimer := .stopped } })) := by
      unfold abortTrimmer
      rw [if_pos (by exact hp)]
      exact handOver_heading_self hc _
    exact habort
  have hend : Heading .abortTrimmer .abortTrimmer (stepFailed true s) := by
    rw [stepFailed_eq]
    split
    · exact trimFault_heading hc _ _ hgiven
    · exact beginEject_heading hc hgiven
  exact hend

/-! ## The steps of the cycle (R144) -/

theorem exec_stepFinal (a : Answer) {j : StepKind} (h : AnswersRequest s .trimmer (.step j) q) (ha : (a == .busy) = false) :
    exec (.stepAnswer q a ⟨false, true⟩) s = .next (endTransaction (stepAnswered a (slotHeard .trimmer s))) := by
  rw [exec_stepAnswer h.live, takeAnswer_final h rfl ha]

theorem inCutCycle_iff : inCutCycle s = true ↔ (s.trim.state = .clamping ∨ s.trim.state = .frontCut ∨ s.trim.state = .hfCut)
    ∨ s.trim.state = .eject := by
  simp [inCutCycle, or_assoc]

theorem stepAnswered_of_cycle (h : inCutCycle s = true) (a : Answer) : stepAnswered a s = (match a with
    | .done => stepDone s
    | .failed => stepFailed false s
    | .busy => s) := if_pos h

/-- The step timer stopped. -/
def stepStopped (s : State) : State := { s with trim := { s.trim with stepTimer := none } }

theorem stepDone_cutting (h : s.trim.state = .clamping ∨ s.trim.state = .frontCut ∨ s.trim.state = .hfCut) :
    stepDone s = if s.trim.guardPause then { s with trim := { s.trim with stepTimer := none, stepHeld := true } }
      else nextStep (stepStopped s) := by
  unfold stepDone
  rcases h with h | h | h <;> rw [h] <;> rfl

theorem stepDone_eject (h : s.trim.state = .eject) : stepDone s = ejectDone s := by
  unfold stepDone
  rw [h]

theorem nextStep_clamping (h : s.trim.state = .clamping) : nextStep s = trimStep .frontCut .front s := by
  unfold nextStep
  rw [h]

theorem nextStep_frontCut (h : s.trim.state = .frontCut) : nextStep s = trimStep .hfCut .headFoot s := by
  unfold nextStep
  rw [h]

theorem nextStep_hfCut (h : s.trim.state = .hfCut) : nextStep s = trimStep .eject (.eject s.trim.dest)
    { s with trim := { s.trim with exitConfirm := .none } } := by
  unfold nextStep
  rw [h]

/-- The next STEP is sent as the transaction ends (R144, R153). -/
structure NextStep (x : TrimState) (j : StepKind) (s t : State) : Prop where
  kept  : LineKept s t
  line  : t.line = s.line
  sent  : SentNow s t .trimmer (.step j)
  timer : t.trim.stepTimer = some s.clock
  state : t.trim.state = x

theorem AnswersRequest.stepsOn {x : TrimState} {j : StepKind} {y : Trimmer} (h : AnswersRequest s .trimmer k q)
    (hu : u = { slotHeard .trimmer s with trim := y }) (hy : y.held = s.trim.held) :
    NextStep x j s (endTransaction (trimStep x j u)) := by
  obtain ⟨v, hv⟩ : ∃ v, v = { u with trim := { y with state := x, stepHeld := false, stepTimer := none } } := ⟨_, rfl⟩
  have hp : Machine.present u .trimmer = true := by rw [hu]; exact slotHeard_present _ _
  have hut : u.trim = y := by rw [hu]
  have he : trimStep x j u = handRequest .trimmer (.step j) v := by
    rw [hv, ← hut]
    exact trimRequest_present _ hp
  obtain ⟨hsent, hb, ht⟩ := h.asksNext (j := .step j) (u := v) (by rw [hv, hu]) (by rw [hv, hu]; rfl) (by rw [hv, hu]; rfl)
  have ht' : (endTransaction (handRequest .trimmer (.step j) v)).trim = { v.trim with stepTimer := some v.clock } := ht
  have hk : LineKept s v := by
    rw [hv, hu]
    exact (slotHeard_kept .trimmer s).trans (trimChanged_kept (s := slotHeard .trimmer s) hy)
  rw [he]
  refine ⟨hk.trans hb.lineKept, hb.line.trans (by rw [hv, hu]; rfl), hsent, ?_, ?_⟩
  · rw [ht', hv, hu]
    rfl
  · rw [ht', hv]

/-! ## The book leaves the trimmer (R146, R147) -/

/-- A record as it is written (R17, R132). -/
def writtenBook (b : Book) (o : BookOutcome) (now : Time) : Book :=
  { b with outTime := some now, outcome := some (if b.reason = none then o else .rejected) }

/-- The record held out of the trimmer is written; from EJECT the trimmer is IDLE (R132, R146). -/
theorem trimOut_room (hh : s.trim.held = .out b) (hr : s.dlv.done.length < 32) : ∃ y, trimOut s = { s with
    dlv := { s.dlv with done := s.dlv.done ++ [writtenBook b (exitOutcome s.trim.dest) s.clock] }
    host := y
    trim := { s.trim with held := .none, state := if s.trim.state == .eject then .idle else s.trim.state } } := by
  obtain ⟨u, hu⟩ : ∃ u, u = { s with trim := { s.trim with held := .none } } := ⟨_, rfl⟩
  obtain ⟨y, hy⟩ := writeDone_host b (exitOutcome s.trim.dest) u
  have hroom : doneRoom s = true := decide_eq_true hr
  have hstate : u.trim.state = s.trim.state := by rw [hu]
  have hw : trimOut s = if u.trim.state == .eject then trimIdle (writeDone b (exitOutcome s.trim.dest) u)
      else writeDone b (exitOutcome s.trim.dest) u := by
    unfold trimOut writeOrWait
    rw [if_pos hroom]
    unfold writeHolder
    simp only [hh]
    rw [← hu, hy, hstate]
  refine ⟨y, ?_⟩
  rw [hw, hy, asDone_eq, hstate]
  split <;> rw [hu] <;> rfl

theorem trimOut_full (hr : 32 ≤ s.dlv.done.length) :
    trimOut s = { s with dlv := { s.dlv with waiters := s.dlv.waiters ++ [.trimmer] } } :=
  if_neg (by rw [doneRoom, decide_eq_true_iff]; exact Nat.not_lt.mpr hr)

/-- The book held out of the trimmer, the step over. -/
def ejected (b : Book) (s : State) : State := { s with trim := { s.trim with held := .out b, stepTimer := none } }

theorem ejectDone_reject (hb : s.trim.held = .inside b) (hd : s.trim.dest = .reject) (hp : s.trim.pendingFault = none) :
    ejectDone s = afterTrimmer (trimOut (ejected b s)) := by
  unfold ejectDone ejected
  rw [hb]
  simp only [hd, hp, Held.toOut]

theorem ejectDone_fault {c : TrimCause} (hb : s.trim.held = .inside b) (hd : s.trim.dest = .reject)
    (hp : s.trim.pendingFault = some c) : ejectDone s = trimOut (trimFault c true (ejected b s)) := by
  unfold ejectDone ejected
  rw [hb]
  simp only [hd, hp, Held.toOut]

theorem ejectDone_early (hb : s.trim.held = .inside b) (hd : s.trim.dest ≠ .reject) (he : s.trim.exitConfirm = .early) :
    ejectDone s = exitConfirmed (ejected b s) := by
  unfold ejectDone ejected
  rw [hb]
  cases hx : s.trim.dest with
  | reject => exact absurd hx hd
  | good | sample => simp only [he, Held.toOut]

theorem ejectDone_window (hb : s.trim.held = .inside b) (hd : s.trim.dest ≠ .reject) (he : s.trim.exitConfirm ≠ .early) :
    ejectDone s = { s with trim := { s.trim with
      held := .out b, stepTimer := none, exitConfirm := .window s.clock } } := by
  unfold ejectDone
  rw [hb]
  cases hx : s.trim.dest with
  | reject => exact absurd hx hd
  | good | sample =>
    cases hc : s.trim.exitConfirm with
    | early => exact absurd hc he
    | none | window w => simp only [Held.toOut]

/-- The record has been written and the trimmer holds no book. -/
structure WrittenOut (b : Book) (o : BookOutcome) (s t : State) : Prop where
  held : t.trim.held = .none
  done : t.dlv.done = s.dlv.done ++ [writtenBook b o s.clock]

theorem WrittenOut.busWork {o : BookOutcome} (h : WrittenOut b o s t) (k : BusWork t u) : WrittenOut b o s u := by
  obtain ⟨_, _, _, ht⟩ := k.trim
  exact ⟨by rw [ht]; exact h.held, by rw [k.dlv]; exact h.done⟩

theorem afterTrimmer_idle (h : s.trim.state = .idle) : (afterTrimmer s).trim.state = .idle
    ∧ (afterTrimmer s).trim.held = s.trim.held ∧ (afterTrimmer s).dlv.done = s.dlv.done := by
  have he : afterTrimmer s = headDecision s := if_pos (beq_iff_eq.2 h)
  obtain ⟨_, _, _, ht⟩ := headDecision_trim s
  rw [he]
  exact ⟨by rw [ht]; exact h, by rw [ht], (headDecision_kept (.refl s)).books.done⟩

/-- The record is written from EJECT and the head decision follows (R129, R146). -/
theorem trimOut_idle (hh : s.trim.held = .out b) (hr : s.dlv.done.length < 32) (hs : s.trim.state = .eject) :
    WrittenOut b (exitOutcome s.trim.dest) s (afterTrimmer (trimOut s))
      ∧ (afterTrimmer (trimOut s)).trim.state = .idle := by
  obtain ⟨y, hy⟩ := trimOut_room hh hr
  obtain ⟨v, hv⟩ : ∃ v, v = trimOut s := ⟨_, rfl⟩
  rw [← hv] at hy ⊢
  have hidle : v.trim.state = .idle := by
    rw [hy]
    exact if_pos (beq_iff_eq.2 hs)
  obtain ⟨h₁, h₂, h₃⟩ := afterTrimmer_idle hidle
  exact ⟨⟨h₂.trans (by rw [hy]), h₃.trans (by rw [hy])⟩, h₁⟩

theorem ejectDone_written {o : BookOutcome} (hb : s.trim.held = .inside b) (hs : s.trim.state = .eject)
    (hr : s.dlv.done.length < 32) (ho : o = exitOutcome s.trim.dest)
    (hd : s.trim.dest ≠ .reject ∧ s.trim.exitConfirm = .early ∨ s.trim.dest = .reject ∧ s.trim.pendingFault = none) :
    WrittenOut b o s (ejectDone s) ∧ (ejectDone s).trim.state = .idle := by
  rw [ho]
  rcases hd with ⟨hd, he⟩ | ⟨hd, hp⟩
  · obtain ⟨u, hu⟩ : ∃ u, u = { ejected b s with trim := { (ejected b s).trim with exitConfirm := .none } } := ⟨_, rfl⟩
    obtain ⟨⟨held, done⟩, idle⟩ := trimOut_idle (s := u) (b := b) (by rw [hu]; rfl) (by rw [hu]; exact hr) (by rw [hu]; exact hs)
    have heq : ejectDone s = afterTrimmer (trimOut u) := by
      rw [ejectDone_early hb hd he, hu]
      rfl
    rw [heq]
    exact ⟨⟨held, done.trans (by rw [hu]; rfl)⟩, idle⟩
  · rw [ejectDone_reject hb hd hp]
    obtain ⟨⟨held, done⟩, idle⟩ := trimOut_idle (s := ejected b s) (b := b) rfl hr hs
    exact ⟨⟨held, done⟩, idle⟩

theorem ejectDone_faulted {c : TrimCause} (hb : s.trim.held = .inside b) (hs : s.trim.state = .eject)
    (hr : s.dlv.done.length < 32) (hd : s.trim.dest = .reject) (hp : s.trim.pendingFault = some c) :
    WrittenOut b .rejected s (ejectDone s) ∧ (ejectDone s).trim.state = .faulted
      ∧ (ejectDone s).trim.cause = some c := by
  obtain ⟨u, hu⟩ : ∃ u, u = ejected b s := ⟨_, rfl⟩
  have hut : u.trim = { s.trim with held := .out b, stepTimer := none } := by rw [hu]; rfl
  have hstate : u.trim.state ≠ .faulted := by
    rw [hut]
    show s.trim.state ≠ _
    rw [hs]
    nofun
  obtain ⟨hw, ht⟩ := trimFault_entered c true hstate
  obtain ⟨w, hwe⟩ : ∃ w, w = trimFault c true u := ⟨_, rfl⟩
  rw [← hwe] at hw ht
  have hwd : w.dlv = s.dlv := hw.dlv.trans (by rw [hu]; rfl)
  have hwc : w.clock = s.clock := hw.clock.trans (by rw [hu]; rfl)
  have hheld : w.trim.held = .out b := by
    have hout : u.trim.held = .out b := by rw [hut]
    have hno : ∀ b', u.trim.held ≠ .inside b' := fun b' h => Held.noConfusion (hout.symm.trans h)
    rw [ht, (trimFaultState_held c u).2 hno, hout]
  have hdest : w.trim.dest = .reject := by
    rw [ht]
    show u.trim.dest = _
    rw [hut]
    exact hd
  have hws : w.trim.state = .faulted := by rw [ht]; rfl
  have hcause : w.trim.cause = some c := by rw [ht]; rfl
  obtain ⟨y, hy⟩ := trimOut_room (s := w) hheld (by rw [hwd]; exact hr)
  rw [ejectDone_fault hb hd hp, ← hu, ← hwe, hy, hws, hdest, hwd, hwc]
  exact ⟨⟨rfl, rfl⟩, rfl, hcause⟩

theorem ejectDone_waits (hb : s.trim.held = .inside b) (hs : s.trim.state = .eject) (hr : 32 ≤ s.dlv.done.length)
    (hd : s.trim.dest = .reject) (hp : s.trim.pendingFault = none) : ejectDone s = { s with
      trim := { s.trim with held := .out b, stepTimer := none }
      dlv := { s.dlv with waiters := s.dlv.waiters ++ [.trimmer] } } := by
  rw [ejectDone_reject hb hd hp, trimOut_full (s := ejected b s) hr]
  refine if_neg fun h => ?_
  have hidle : s.trim.state = .idle := beq_iff_eq.1 h
  rw [hs] at hidle
  cases hidle

/-! ## The trim guard closes (R148) -/

theorem guardResumed_cutting (h : s.trim.state = .clamping ∨ s.trim.state = .frontCut ∨ s.trim.state = .hfCut) :
    guardResumed s = if s.trim.stepHeld then nextStep (unpaused s) else unpaused s := by
  rw [guardResumed_eq]
  rcases h with h | h | h <;> rw [show (unpaused s).trim.state = _ from h]

theorem guardResumed_eject (h : s.trim.state = .eject) : guardResumed s =
    if s.trim.stepHeld then trimStep .eject (.eject s.trim.dest) (unpaused s) else unpaused s := by
  rw [guardResumed_eq, show (unpaused s).trim.state = _ from h]

/-! ## The exit window (R146, R149) -/

theorem exitTimeout_due (h : ∃ w, s.trim.exitConfirm = .window w ∧ 500 ≤ (s.clock - w).toNat) :
    exitTimeout s = trimFault .bookLost true (raiseNotice .bookLost (heldId s) (lineFault .bookLost (trimOut
      (modifyHeld (fun b => b.withReason .fault) { s with trim := { s.trim with exitConfirm := .none } })))) :=
  if_pos ((confirmDue_iff _ _ _).2 h)

theorem exitTimeout_early (h : ¬∃ w, s.trim.exitConfirm = .window w ∧ 500 ≤ (s.clock - w).toNat) : exitTimeout s = s :=
  if_neg fun k => h ((confirmDue_iff _ _ _).1 k)

theorem trimFault_held {c : TrimCause} {a : Bool} (h : ∀ b, s.trim.held ≠ .inside b) :
    (trimFault c a s).trim.held = s.trim.held := by
  by_cases hf : s.trim.state = .faulted
  · rw [trimFault_again c a hf]
  · rw [(trimFault_entered c a hf).2]
    exact (trimFaultState_held c s).2 h

/-- The book lost at its exit, before the line takes the fault: its record is written or waits. -/
structure ExitLost (b : Book) (s v : State) : Prop where
  kept      : LineKept { s with dlv := v.dlv, trim := v.trim } v
  line      : v.line = s.line
  cooling   : v.dlv.cooling = s.dlv.cooling
  loaded    : v.dlv.loaded = s.dlv.loaded
  room      : s.dlv.done.length < 32 → v.trim.held = .none ∧ v.dlv.done = s.dlv.done
    ++ [{ b with reason := some (b.reason.getD .fault), outTime := some s.clock, outcome := some .rejected }]
  full      : 32 ≤ s.dlv.done.length → v.trim.held = .out { b with reason := some (b.reason.getD .fault) }
    ∧ v.dlv.done = s.dlv.done ∧ v.dlv.waiters = s.dlv.waiters ++ [.trimmer]

theorem trimOut_lost (hb : s.trim.held = .out b) : ExitLost b s (trimOut
    (modifyHeld (fun b => b.withReason .fault) { s with trim := { s.trim with exitConfirm := .none } })) := by
  obtain ⟨w, hw⟩ : ∃ w, w = { s with trim := { s.trim with
      exitConfirm := .none, held := .out { b with reason := some (b.reason.getD .fault) } } } := ⟨_, rfl⟩
  have hmod : modifyHeld (fun b => b.withReason .fault) { s with trim := { s.trim with exitConfirm := .none } } = w := by
    rw [hw, ← withReason_eq]
    unfold modifyHeld
    simp only [hb, Held.map]
  have hheld : w.trim.held = .out { b with reason := some (b.reason.getD .fault) } := by rw [hw]
  have hd : w.dlv = s.dlv := by rw [hw]
  rw [hmod]
  by_cases hr : s.dlv.done.length < 32
  · obtain ⟨y, hy⟩ := trimOut_room hheld (by rw [hd]; exact hr)
    rw [hy, hw]
    exact ⟨⟨⟨rfl, rfl, rfl, rfl, rfl, rfl, rfl, rfl⟩, ⟨rfl, rfl, rfl, rfl, rfl, rfl⟩, .ofEq rfl, rfl⟩, rfl, rfl, rfl,
      fun _ => ⟨rfl, rfl⟩, fun h => absurd hr (Nat.not_lt.mpr h)⟩
  · rw [trimOut_full (by rw [hd]; exact Nat.not_lt.mp hr), hw]
    exact ⟨⟨⟨rfl, rfl, rfl, rfl, rfl, rfl, rfl, rfl⟩, ⟨rfl, rfl, rfl, rfl, rfl, rfl⟩, .ofEq rfl, rfl⟩, rfl, rfl, rfl,
      fun h => absurd h hr, fun _ => ⟨rfl, rfl, rfl⟩⟩

/-- A book that does not reach its exit is lost: line and trimmer are faulted with BOOK_LOST (R146, R149). -/
theorem exitTimeout_lost (hb : s.trim.held = .out b)
    (hout : ∃ w, s.trim.exitConfirm = .window w ∧ 500 ≤ (s.clock - w).toNat) :
    LineKept { s with dlv := (exitTimeout s).dlv, trim := (exitTimeout s).trim } (exitTimeout s)
      ∧ LineFaulted s (exitTimeout s) .bookLost ∧ Noticed .bookLost b.ticket.id (exitTimeout s)
      ∧ (exitTimeout s).trim.state = .faulted ∧ (exitTimeout s).trim.cause = some .bookLost
      ∧ ∃ v, ExitLost b s v ∧ (exitTimeout s).trim.held = v.trim.held
        ∧ ∃ w, (exitTimeout s).dlv = { v.dlv with dropWatch := w } := by
  have hid : heldId s = b.ticket.id := by
    unfold heldId heldBook
    rw [hb]
  rw [exitTimeout_due hout, hid]
  have hlost := trimOut_lost hb
  obtain ⟨v, hv⟩ : ∃ v, v = trimOut (modifyHeld (fun b => b.withReason .fault)
    { s with trim := { s.trim with exitConfirm := .none } }) := ⟨_, rfl⟩
  rw [← hv] at hlost ⊢
  obtain ⟨x, hx⟩ : ∃ x, x = raiseNotice .bookLost b.ticket.id (lineFault .bookLost v) := ⟨_, rfl⟩
  have hw : FaultWork v x := hx ▸ faultNoticed_work _ _ _ v
  have hn : Noticed .bookLost b.ticket.id x := hx ▸ noticed_raiseNotice _ _ _
  have hf : LineFaulted v x .bookLost := by
    obtain ⟨y, hy⟩ := raiseNotice_host .bookLost b.ticket.id (lineFault .bookLost v)
    rw [hx, hy]
    exact (lineFault_faulted .bookLost v).congr rfl rfl rfl rfl
  rw [← hx]
  have hk := trimFault_work .bookLost true x
  have hcause := trimFault_cause .bookLost true x
  obtain ⟨t, ht⟩ : ∃ t, t = trimFault .bookLost true x := ⟨_, rfl⟩
  have hheld : t.trim.held = v.trim.held := by
    obtain ⟨_, _, _, hxt⟩ := hw.trim
    have hxv : x.trim.held = v.trim.held := by rw [hxt]
    have hno : ∀ b', x.trim.held ≠ .inside b' := fun b' h => by
      rw [hxv] at h
      rcases Nat.lt_or_ge s.dlv.done.length 32 with hr | hr
      · exact Held.noConfusion ((hlost.room hr).1.symm.trans h)
      · exact Held.noConfusion ((hlost.full hr).1.symm.trans h)
    rw [ht, trimFault_held hno, hxv]
  rw [← ht] at hk hcause ⊢
  have hdlv : ∃ w, t.dlv = { v.dlv with dropWatch := w } := by
    rw [hk.dlv]
    rcases hw.dlv with h | ⟨-, h⟩
    · exact ⟨v.dlv.dropWatch, h⟩
    · exact ⟨_, h⟩
  obtain ⟨tables, books, clamps, queue⟩ := hlost.kept.trans hw.kept
  refine ⟨⟨?_, ⟨rfl, rfl, rfl, rfl, rfl, rfl⟩, ?_, ?_⟩, hf.congr hlost.line.symm hk.line (by rw [hk.glue]) hk.clamps,
    noticed_of_host hn hk.host, hk.faulted, hcause, v, hlost, hheld, hdlv⟩
  · exact TablesKept.trans (b := x) ⟨tables.clock, tables.profiles, tables.settings, tables.family, tables.scan, tables.pins,
      tables.store, tables.pending⟩ hk.tables
  · have hxt : ClampsKept x t := .ofEq hk.clamps
    exact ClampsKept.trans (b := x) ⟨clamps.mark, clamps.zero, clamps.empty, clamps.book⟩ hxt
  · exact (congrArg _ hk.tickets).trans queue

theorem heldId_inside (hu : u.trim = s.trim) (hb : s.trim.held = .inside b) : heldId u = b.ticket.id := by
  unfold heldId heldBook
  rw [hu, hb]

theorem held_rejected (hb : s.trim.held = .inside b) : s.trim.held.map (fun b => b.withReason .trim)
    = .inside { b with reason := some (b.reason.getD .trim) } := by
  rw [hb, ← withReason_eq]
  rfl

/-- The step timer has run out (R145). -/
theorem stepTimeout_early (h : ¬(((s.trim.state = .clamping ∨ s.trim.state = .frontCut ∨ s.trim.state = .hfCut)
    ∨ s.trim.state = .eject) ∧ ∃ w, s.trim.stepTimer = some w ∧ 1500 ≤ (s.clock - w).toNat)) : stepTimeout s = s :=
  if_neg fun k => h (by rwa [Bool.and_eq_true, inCutCycle_iff, startDue_iff] at k)

theorem stepTimeout_due (h : ((s.trim.state = .clamping ∨ s.trim.state = .frontCut ∨ s.trim.state = .hfCut)
    ∨ s.trim.state = .eject) ∧ ∃ w, s.trim.stepTimer = some w ∧ 1500 ≤ (s.clock - w).toNat) :
    stepTimeout s = stepFailed true s :=
  if_pos (by rwa [Bool.and_eq_true, inCutCycle_iff, startDue_iff])

theorem not_eject_of_cutting (h : s.trim.state = .clamping ∨ s.trim.state = .frontCut ∨ s.trim.state = .hfCut) :
    s.trim.state ≠ .eject := by
  rcases h with h | h | h <;> rw [h] <;> nofun

/-- A failed step as statement O53 has it, with the guard closed (R145). -/
structure StepFails (b : Book) (s t : State) : Prop where
  cutting : (s.trim.state = .clamping ∨ s.trim.state = .frontCut ∨ s.trim.state = .hfCut) → s.trim.guardPause = false →
    TrimWork s t ∧ t.trim.state = .eject ∧ t.trim.dest = .reject
      ∧ t.trim.held = .inside { b with reason := some (b.reason.getD .trim) }
      ∧ t.trim.pendingFault = some .trimmerFault ∧ Asked t.bus .trimmer (.step (.eject .reject))
      ∧ Noticed .trimmerFault b.ticket.id t
  eject : s.trim.state = .eject → TrimWork s t ∧ t.trim.state = .faulted ∧ t.trim.cause = some .trimmerFault
    ∧ t.trim.held = .inside { b with reason := some (b.reason.getD .trim) } ∧ t.trim.pendingFault = none
    ∧ t.trim.dest = s.trim.dest ∧ Noticed .trimmerFault b.ticket.id t

theorem stepFails_timeout (hb : s.trim.held = .inside b) (hp : present s .trimmer = true) :
    StepFails b s (stepFailed true (clearOut s)) := by
  have hid : heldId (clearOut s) = b.ticket.id := heldId_inside (s := s) rfl hb
  have hwork : TrimWork s (clearOut s) := trimWork_of_eq rfl
  refine ⟨fun hs hg => ?_, fun hs => ?_⟩
  · obtain ⟨⟨work, state, dest, pending, held, -, noticed, -⟩, hasked, -⟩ :=
      stepFailed_rejected (s := clearOut s) true (not_eject_of_cutting hs) hp
    exact ⟨hwork.trans work, state, dest, held.trans (held_rejected hb), pending, hasked hg, hid ▸ noticed⟩
  · obtain ⟨work, state, cause, pending, dest, held, -, noticed, -⟩ := stepFailed_faulted (s := clearOut s) true hs
    exact ⟨hwork.trans work, state, cause, held b hb, pending, dest, hid ▸ noticed⟩

theorem AnswersRequest.stepFails (h : AnswersRequest s .trimmer k q) (hb : s.trim.held = .inside b) :
    StepFails b s (endTransaction (stepFailed false (slotHeard .trimmer s))) := by
  have hid : heldId (slotHeard .trimmer s) = b.ticket.id := heldId_inside (s := s) rfl hb
  have hwork : TrimWork s (slotHeard .trimmer s) := trimWork_of_eq rfl
  have he := endTransaction_busWork (stepFailed false (slotHeard .trimmer s))
  obtain ⟨-, hcur⟩ := h.heardBus
  refine ⟨fun hs hg => ?_, fun hs => ?_⟩
  · obtain ⟨hr, -, hwaits⟩ :=
      stepFailed_rejected (s := slotHeard .trimmer s) false (not_eject_of_cutting hs) (slotHeard_present _ _)
    obtain ⟨work, state, dest, pending, held, -, noticed, -⟩ := hr.busWork he
    exact ⟨hwork.trans work, state, dest, held.trans (held_rejected hb), pending,
      endTransaction_asked (hwaits hg rfl hcur), hid ▸ noticed⟩
  · obtain ⟨work, state, cause, pending, dest, held, -, noticed, -⟩ :=
      (stepFailed_faulted (s := slotHeard .trimmer s) false hs).busWork he
    exact ⟨hwork.trans work, state, cause, held b hb, pending, dest, hid ▸ noticed⟩

/-! ## The pauses of the cycle and its exits, as the transaction ends (R146 to R148) -/

/-- What does not touch the bus ends the transaction with nothing sent. -/
theorem AnswersRequest.endsWith {d : Delivery} {y : Trimmer} (h : AnswersRequest s n k q)
    (hu : u = { slotHeard n s with dlv := d, trim := y }) :
    endTransaction u = { heard n s with dlv := d, trim := y } := by
  have hq := h.quiet
  rw [hu]
  exact endTransaction_quiet (s := { slotHeard n s with dlv := d, trim := y }) ⟨hq.carousel, hq.trimmer, hq.cooling, hq.probe⟩

theorem exec_stepDone {j : StepKind} (h : AnswersRequest s .trimmer (.step j) q) (hc : inCutCycle s = true) :
    exec (.stepAnswer q .done ⟨false, true⟩) s = .next (endTransaction (stepDone (slotHeard .trimmer s))) :=
  (exec_stepFinal .done h rfl).trans (congrArg (fun t => Host.Outcome.next (endTransaction t))
    (stepAnswered_of_cycle (s := slotHeard .trimmer s) hc _))

theorem exec_stepFailed {j : StepKind} (h : AnswersRequest s .trimmer (.step j) q) (hc : inCutCycle s = true) :
    exec (.stepAnswer q .failed ⟨false, true⟩) s = .next (endTransaction (stepFailed false (slotHeard .trimmer s))) :=
  (exec_stepFinal .failed h rfl).trans (congrArg (fun t => Host.Outcome.next (endTransaction t))
    (stepAnswered_of_cycle (s := slotHeard .trimmer s) hc _))

theorem exec_nextStep {j : StepKind} (h : AnswersRequest s .trimmer (.step j) q)
    (hc : s.trim.state = .clamping ∨ s.trim.state = .frontCut ∨ s.trim.state = .hfCut) (hg : s.trim.guardPause = false) :
    exec (.stepAnswer q .done ⟨false, true⟩) s
      = .next (endTransaction (nextStep (stepStopped (slotHeard .trimmer s)))) := by
  have hd : stepDone (slotHeard .trimmer s) = nextStep (stepStopped (slotHeard .trimmer s)) :=
    (stepDone_cutting (s := slotHeard .trimmer s) hc).trans
      (if_neg (by rw [show (slotHeard .trimmer s).trim.guardPause = _ from hg]; decide))
  rw [exec_stepDone h (inCutCycle_iff.2 (.inl hc)), hd]

theorem exec_stepPaused {j : StepKind} (h : AnswersRequest s .trimmer (.step j) q)
    (hc : s.trim.state = .clamping ∨ s.trim.state = .frontCut ∨ s.trim.state = .hfCut) (hg : s.trim.guardPause = true) :
    exec (.stepAnswer q .done ⟨false, true⟩) s
      = .next { heard .trimmer s with trim := { s.trim with stepTimer := none, stepHeld := true } } := by
  have hd : stepDone (slotHeard .trimmer s) = { slotHeard .trimmer s with
      trim := { s.trim with stepTimer := none, stepHeld := true } } :=
    (stepDone_cutting (s := slotHeard .trimmer s) hc).trans (if_pos hg)
  rw [exec_stepDone h (inCutCycle_iff.2 (.inl hc)), h.endsWith (d := s.dlv) hd]
  rfl

theorem exec_ejectDone {j : StepKind} (h : AnswersRequest s .trimmer (.step j) q) (hs : s.trim.state = .eject) :
    exec (.stepAnswer q .done ⟨false, true⟩) s = .next (endTransaction (ejectDone (slotHeard .trimmer s))) := by
  rw [exec_stepDone h (inCutCycle_iff.2 (.inr hs)), stepDone_eject (s := slotHeard .trimmer s) hs]

/-- A step begun with nothing else of the book or the trimmer's ways changed (R148). -/
structure StepBegun (x : TrimState) (j : StepKind) (s t : State) : Prop where
  work  : TrimWork s t
  state : t.trim.state = x
  pause : t.trim.guardPause = s.trim.guardPause
  held  : t.trim.stepHeld = false
  book  : t.trim.held = s.trim.held
  dest  : t.trim.dest = s.trim.dest
  asked : Asked t.bus .trimmer (.step j)

theorem trimStep_begun (x : TrimState) (j : StepKind) (hp : present s .trimmer = true) : StepBegun x j s (trimStep x j s) := by
  obtain ⟨hb, asked⟩ := trimStep_present x j hp
  have hwork : TrimWork s { s with trim := { s.trim with state := x, stepHeld := false, stepTimer := none } } :=
    trimWork_of_eq rfl
  obtain ⟨_, _, _, ht⟩ := hb.trim
  exact ⟨hwork.busWork hb, by rw [ht], by rw [ht], by rw [ht], by rw [ht], by rw [ht], asked⟩

/-! ## A restart of TRIMMER (R150, R160) -/

/-- The work of a new restart mark of TRIMMER, the flags cleared (R150). -/
def trimWorking (x : Trimmer) : Prop :=
  x.state = .settling ∨ x.state = .clamping ∨ x.state = .frontCut ∨ x.state = .hfCut

theorem ejectInFlight_iff : ejectInFlight s = true
    ↔ s.trim.state = .eject ∧ s.trim.stepHeld = false ∧ ∃ b, s.trim.held = .inside b := by
  unfold ejectInFlight
  cases s.trim.held <;> simp

theorem trimRestarted_working (h : trimWorking s.trim) : trimRestarted s = stepFailed false (clearFlags s) := by
  unfold trimRestarted
  rcases h with h | h | h | h <;> simp only [show (clearFlags s).trim.state = _ from h]

theorem trimRestarted_ejecting (h : ejectInFlight s = true) : trimRestarted s = stepFailed false (clearFlags s) := by
  have hf : ejectInFlight (clearFlags s) = true := h
  unfold trimRestarted
  simp only [show (clearFlags s).trim.state = _ from (ejectInFlight_iff.1 h).1, hf, if_true]

theorem trimRestarted_idle (h : ¬trimWorking s.trim) (he : ejectInFlight s = false) : trimRestarted s = clearFlags s := by
  have hf : ejectInFlight (clearFlags s) = false := he
  unfold trimRestarted
  cases hs : s.trim.state with
  | settling => exact absurd (.inl hs) h
  | clamping => exact absurd (.inr (.inl hs)) h
  | frontCut => exact absurd (.inr (.inr (.inl hs))) h
  | hfCut => exact absurd (.inr (.inr (.inr hs))) h
  | eject => simp only [show (clearFlags s).trim.state = _ from hs, hf, Bool.false_eq_true, if_false]
  | idle | positioning | faulted => simp only [show (clearFlags s).trim.state = _ from hs]

theorem axisOf_clearFlags (a : Axis) (s : State) :
    (axisOf (clearFlags s).trim a).converged = false ∧ (axisOf (clearFlags s).trim a).window = none := by
  cases a <;> exact ⟨rfl, rfl⟩

/-- What a new restart mark of TRIMMER leaves (R150, R160). -/
structure TrimRestart (s t : State) : Prop where
  work     : TrimWork s t
  restarts : (nodeRec t .trimmer).restarts = min 255 ((nodeRec s .trimmer).restarts + 1)
  axes     : ∀ a, (axisOf t.trim a).converged = false ∧ (axisOf t.trim a).window = none
  idle     : ¬trimWorking s.trim → ejectInFlight s = false → t.trim = (clearFlags s).trim
  working  : ∀ b, s.trim.held = .inside b → trimWorking s.trim → t.trim.state = .eject ∧ t.trim.dest = .reject
    ∧ t.trim.pendingFault = some .trimmerFault ∧ t.trim.held = .inside { b with reason := some (b.reason.getD .trim) }
    ∧ Noticed .trimmerFault b.ticket.id t
    ∧ if s.trim.guardPause = true then t.trim.stepHeld = true else Asked t.bus .trimmer (.step (.eject .reject))
  ejecting : ∀ b, s.trim.held = .inside b → ejectInFlight s = true → t.trim.state = .faulted
    ∧ t.trim.cause = some .trimmerFault ∧ t.trim.dest = s.trim.dest
    ∧ t.trim.held = .inside { b with reason := some (b.reason.getD .trim) } ∧ Noticed .trimmerFault b.ticket.id t

theorem AnswersRequest.trimRestart (h : AnswersRequest s .trimmer k q) :
    TrimRestart s (endTransaction (restartWork .trimmer (restartMarked .trimmer s))) := by
  obtain ⟨m, hm⟩ : ∃ m, m = restartMarked .trimmer s := ⟨_, rfl⟩
  obtain ⟨u, hu⟩ : ∃ u, u = clearFlags m := ⟨_, rfl⟩
  have hmt : m.trim = s.trim := by rw [hm]; rfl
  have hut : u.trim = (clearFlags s).trim := by rw [hu, hm]; rfl
  have hwork : TrimWork s u := trimWork_of_eq (by rw [hu, hm]; rfl)
  have hrec : nodeRec u .trimmer = restartedRec .trimmer s := by
    rw [hu, hm]
    exact (nodeRec_setNode _ _ _ _).trans (if_pos rfl)
  have hcount : (nodeRec u .trimmer).restarts = min 255 ((nodeRec s .trimmer).restarts + 1) := by rw [hrec]; rfl
  have hp : Machine.present u .trimmer = true := by
    unfold Machine.present
    rw [hrec]
    rfl
  have haxes : ∀ a, (axisOf u.trim a).converged = false ∧ (axisOf u.trim a).window = none := fun a => by
    rw [hut]
    exact axisOf_clearFlags a s
  have hid : ∀ b, s.trim.held = .inside b → heldId u = b.ticket.id := fun b hb => heldId_inside (s := clearFlags s) hut hb
  have hheld : ∀ b, s.trim.held = .inside b → u.trim.held = .inside b := fun b hb => by rw [hut]; exact hb
  have hflight : ejectInFlight m = ejectInFlight s := by
    unfold ejectInFlight
    rw [hmt]
  show TrimRestart s (endTransaction (trimRestarted (restartMarked .trimmer s)))
  rw [← hm]
  have hend := endTransaction_busWork (trimRestarted m)
  by_cases hw : trimWorking s.trim
  · have hne : u.trim.state ≠ .eject := by
      rw [hut]
      show s.trim.state ≠ _
      rcases hw with hw | hw | hw | hw <;> rw [hw] <;> nofun
    have hcur : u.bus.current ≠ none := by
      obtain ⟨w, hb, -⟩ := h.bus
      rw [hu, hm]
      show s.bus.current ≠ none
      rw [hb]
      nofun
    obtain ⟨hr, -, hwaits⟩ := stepFailed_rejected (s := u) false hne hp
    have hgo : trimRestarted m = stepFailed false u := by
      rw [trimRestarted_working (by rw [hmt]; exact hw), hu]
    rw [hgo] at hend ⊢
    obtain ⟨work, state, dest, pending, held, axes, noticed, restarts, paused⟩ := hr.busWork hend
    have hpause : u.trim.guardPause = s.trim.guardPause := by rw [hut]; rfl
    rw [hpause] at hwaits paused
    refine ⟨hwork.trans work, (restarts _).trans hcount, fun a => by rw [axes a]; exact haxes a, fun hn => absurd hw hn,
      fun b hb _ => ⟨state, dest, pending, held.trans (held_rejected (hheld b hb)), hid b hb ▸ noticed, ?_⟩, fun b _ he => ?_⟩
    · split
      · next hg => exact paused hg
      · next hg => exact endTransaction_asked (hwaits (Bool.not_eq_true _ ▸ hg) rfl hcur)
    · exact absurd (ejectInFlight_iff.1 he).1 (by rcases hw with hw | hw | hw | hw <;> rw [hw] <;> nofun)
  · cases he : ejectInFlight s with
    | true =>
      have hs : u.trim.state = .eject := by
        rw [hut]
        exact (ejectInFlight_iff.1 he).1
      have hgo : trimRestarted m = stepFailed false u := by
        rw [trimRestarted_ejecting (by rw [hflight]; exact he), hu]
      rw [hgo] at hend ⊢
      obtain ⟨work, state, cause, pending, dest, held, axes, noticed, restarts⟩ := (stepFailed_faulted (s := u) false hs).busWork hend
      exact ⟨hwork.trans work, (restarts _).trans hcount, axes, fun _ hn => Bool.noConfusion (he.symm.trans hn),
        fun b _ hn => absurd hn hw,
        fun b hb _ => ⟨state, cause, dest.trans (by rw [hut]; rfl), held b (hheld b hb), hid b hb ▸ noticed⟩⟩
    | false =>
      have hgo : trimRestarted m = u := by
        rw [trimRestarted_idle (by rw [hmt]; exact hw) (by rw [hflight]; exact he), hu]
      rw [hgo] at hend ⊢
      have hq := h.quiet
      have ht : (endTransaction u).trim = u.trim := by
        rw [endTransaction_quiet (by rw [hu, hm]; exact ⟨hq.carousel, hq.trimmer, hq.cooling, hq.probe⟩)]
      refine ⟨hwork.busWork hend, (hend.restarts _).trans hcount, fun a => by rw [ht]; exact haxes a,
        fun _ _ => ht.trans hut, fun b _ hn => absurd hn hw, fun b _ hn => Bool.noConfusion (he.symm.trans hn)⟩

end

/-- Settles O53: the cut cycle's steps, failures and pauses, a restart of TRIMMER, and the exit window. -/
theorem trimmerRunsCutCycle : Obligations.TrimmerRunsCutCycle := by
  refine ⟨fun s k q b hb => ?_, fun s k q c h ha hc => ?_, fun s b hl hb => ?_⟩
  · intro cutting rejected written heldKept fails
    have hfails : ∀ {c : Instr} {t}, exec c s = .next t → StepFails b s t → fails c := fun he hf =>
      ⟨fun hc hg => by
        obtain ⟨⟨kept, line⟩, rest⟩ := hf.cutting hc hg
        exact ⟨_, he, kept, line, rest⟩,
      fun hs => by
        obtain ⟨⟨kept, line⟩, rest⟩ := hf.eject hs
        exact ⟨_, he, kept, line, rest⟩⟩
    refine ⟨fun h => ?_, fun hl => ?_, fun r h hp => ?_⟩
    · intro next
      have hnext : ∀ {x : TrimState} {j : StepKind} {y : Trimmer},
          exec (.stepAnswer q .done ⟨false, true⟩) s
            = .next (endTransaction (trimStep x j { slotHeard .trimmer s with trim := y })) →
          y.held = s.trim.held → next x j := fun he hy => by
        obtain ⟨kept, line, sent, timer, state⟩ := h.stepsOn rfl hy
        exact ⟨_, he, kept, line, sent, timer, state⟩
      have hstep : ∀ {x : TrimState} {j : StepKind} {u : State},
          (s.trim.state = .clamping ∨ s.trim.state = .frontCut ∨ s.trim.state = .hfCut) → s.trim.guardPause = false →
          nextStep (stepStopped (slotHeard .trimmer s)) = trimStep x j u →
          (∃ y, u = { slotHeard .trimmer s with trim := y } ∧ y.held = s.trim.held) → next x j := fun hc hg he hy => by
        obtain ⟨y, hu, hh⟩ := hy
        have hx := exec_nextStep h hc hg
        rw [he, hu] at hx
        exact hnext hx hh
      refine ⟨fun hs hg => ?_, fun hs hg => ?_, fun hs hg => ?_, fun hc hg => exec_stepPaused h hc hg,
        fun hs hd => ?_, fun hs hd => ?_, fun hc hg => ?_, fun hs => ?_⟩
      · exact hstep (.inl hs) hg (nextStep_clamping (s := stepStopped (slotHeard .trimmer s)) hs) ⟨_, rfl, rfl⟩
      · exact hstep (.inr (.inl hs)) hg (nextStep_frontCut (s := stepStopped (slotHeard .trimmer s)) hs) ⟨_, rfl, rfl⟩
      · exact hstep (.inr (.inr hs)) hg (nextStep_hfCut (s := stepStopped (slotHeard .trimmer s)) hs) ⟨_, rfl, rfl⟩
      · have hx := exec_ejectDone h hs
        refine ⟨fun he => ?_, fun he hr => ?_⟩
        · rw [hx, h.endsWith (d := s.dlv) (ejectDone_window (s := slotHeard .trimmer s) hb hd he)]
          rfl
        · obtain ⟨hw, hidle⟩ := ejectDone_written (s := slotHeard .trimmer s) (o := exitOutcome s.trim.dest) hb hs hr rfl
            (.inl ⟨hd, he⟩)
          have hend := endTransaction_busWork (ejectDone (slotHeard .trimmer s))
          obtain ⟨_, _, _, ht⟩ := hend.trim
          have hout : exitOutcome s.trim.dest = if s.trim.dest = .good then .good else .sample := by
            cases hx : s.trim.dest with
            | reject => exact absurd hx hd
            | good | sample => rfl
          obtain ⟨held, done⟩ := hw.busWork hend
          exact ⟨_, hx, held, by rw [ht]; exact hidle, hout ▸ done⟩
      · have hx := exec_ejectDone h hs
        have hend := endTransaction_busWork (ejectDone (slotHeard .trimmer s))
        obtain ⟨_, _, _, ht⟩ := hend.trim
        refine ⟨fun hr => ?_, fun hr hp => ?_⟩
        · cases hp : s.trim.pendingFault with
          | none =>
            obtain ⟨hw, hidle⟩ := ejectDone_written (s := slotHeard .trimmer s) (o := .rejected) hb hs hr
              (congrArg exitOutcome hd).symm (.inr ⟨hd, hp⟩)
            obtain ⟨held, done⟩ := hw.busWork hend
            exact ⟨_, hx, held, done, fun _ => by rw [ht]; exact hidle, fun c hc => absurd hc.symm (Option.some_ne_none c)⟩
          | some c =>
            obtain ⟨hw, hf, hcause⟩ := ejectDone_faulted (s := slotHeard .trimmer s) hb hs hr hd hp
            obtain ⟨held, done⟩ := hw.busWork hend
            refine ⟨_, hx, held, done, fun hc => absurd hc (Option.some_ne_none c), fun c' hc => ?_⟩
            obtain rfl : c = c' := Option.some.inj hc
            rw [ht]
            exact ⟨hf, hcause⟩
        · rw [hx, h.endsWith (ejectDone_waits (s := slotHeard .trimmer s) hb hs hr hd hp)]
          rfl
      · exact (hfails (exec_stepFailed h (inCutCycle_iff.2 (.inl hc))) (h.stepFails hb)).1 hc hg
      · exact (hfails (exec_stepFailed h (inCutCycle_iff.2 (.inr hs))) (h.stepFails hb)).2 hs
    · intro out
      have hexec : exec .stepTimeout s = .next (stepTimeout (clearOut s)) := congrArg _ (live_next _ _ hl)
      refine ⟨fun ho => hexec.trans (congrArg _ (stepTimeout_early (s := clearOut s) ho)), fun ho hp => ?_⟩
      have hx := hexec.trans (congrArg _ (stepTimeout_due (s := clearOut s) ho))
      exact ⟨hfails hx (stepFails_timeout hb hp), _, hx, stepFailed_aborts (s := clearOut s) hp⟩
    · intro resumes
      obtain ⟨x, hx⟩ := scanned_eq r s
      have hexec := exec_guardClosed h
      rw [hx] at hexec
      obtain ⟨u, hu⟩ : ∃ u, u = { clearOut s with scan := x } := ⟨_, rfl⟩
      obtain ⟨w, hw⟩ : ∃ w, w = unpaused u := ⟨_, rfl⟩
      rw [← hu] at hexec
      have hut : u.trim = s.trim := by rw [hu]; rfl
      have hwt : w.trim = { s.trim with guardPause := false } := by rw [hw, ← hut]; rfl
      have hwk : TrimWork { clearOut s with scan := x } w := trimWork_of_eq (by rw [hw, hu]; rfl)
      have hwp : present w .trimmer = true := by rw [hw, hu]; exact hp
      have hresumes : ∀ {st : TrimState} {j : StepKind} {t}, exec (.scanEnd r) s = .next t → StepBegun st j w t →
          resumes st j := fun he k => by
        obtain ⟨hkept, hline⟩ := (hwk.trans k.work).afterScan
        have hh : (_ : State).trim.held = s.trim.held := k.book.trans (by rw [hwt])
        rw [hh] at hkept
        exact ⟨_, he, k.state, k.pause.trans (by rw [hwt]), k.held, hh.trans hb, k.dest.trans (by rw [hwt]), k.asked,
          hkept, hline⟩
      have hcut : (s.trim.state = .clamping ∨ s.trim.state = .frontCut ∨ s.trim.state = .hfCut) →
          guardResumed u = if s.trim.stepHeld then nextStep w else w := fun hc => by
        have hg := guardResumed_cutting (s := u) (by rw [hut]; exact hc)
        rwa [← hw, hut] at hg
      have hej : s.trim.state = .eject →
          guardResumed u = if s.trim.stepHeld then trimStep .eject (.eject s.trim.dest) w else w := fun hs => by
        have hg := guardResumed_eject (s := u) (by rw [hut]; exact hs)
        rwa [← hw, hut] at hg
      have hws : w.trim.state = s.trim.state := by rw [hwt]
      refine ⟨fun hh => ⟨fun hs => ?_, fun hs => ?_, fun hs => ?_⟩, fun hh hs => ?_⟩
      · have hgo := hexec.trans (congrArg _ ((hcut (.inl hs)).trans (if_pos hh)))
        rw [nextStep_clamping (hws.trans hs)] at hgo
        exact hresumes hgo (trimStep_begun _ _ hwp)
      · have hgo := hexec.trans (congrArg _ ((hcut (.inr (.inl hs))).trans (if_pos hh)))
        rw [nextStep_frontCut (hws.trans hs)] at hgo
        exact hresumes hgo (trimStep_begun _ _ hwp)
      · rcases hs with hs | hs
        · have hgo := hexec.trans (congrArg _ ((hcut (.inr (.inr hs))).trans (if_pos hh)))
          obtain ⟨v, hv⟩ : ∃ v, v = { w with trim := { w.trim with exitConfirm := .none } } := ⟨_, rfl⟩
          have hvk : TrimWork w v := trimWork_of_eq hv
          rw [nextStep_hfCut (hws.trans hs), show w.trim.dest = s.trim.dest by rw [hwt], ← hv] at hgo
          obtain ⟨work, state, pause, held, book, dest, asked⟩ :=
            trimStep_begun (s := v) .eject (.eject s.trim.dest) (by rw [hv]; exact hwp)
          exact hresumes hgo ⟨hvk.trans work, state, pause.trans (by rw [hv]), held, book.trans (by rw [hv]),
            dest.trans (by rw [hv]), asked⟩
        · have hgo := hexec.trans (congrArg _ ((hej hs).trans (if_pos hh)))
          exact hresumes hgo (trimStep_begun _ _ hwp)
      · have hgo : guardResumed u = w := by
          rcases hs with hc | hs
          · exact (hcut hc).trans (if_neg (by rw [hh]; decide))
          · exact (hej hs).trans (if_neg (by rw [hh]; decide))
        rw [hexec, hgo, hw, hx, hu]
        rfl
  · intro lost cleared working ejecting
    have hexec : exec c s = .next (endTransaction (restartWork .trimmer (restartMarked .trimmer s))) := by
      rcases hc with ⟨rfl, rfl⟩ | ⟨⟨a, rfl⟩, x, rfl⟩ | ⟨⟨a, rfl⟩, rfl⟩ | ⟨⟨a, rfl⟩, f, o, g, rfl⟩
      · exact (exec_nodeStatusAnswer h.live _).trans (congrArg _ (takeAnswer_restart h rfl ha _))
      · exact (exec_stepAnswer h.live _ _).trans (congrArg _ (takeAnswer_restart h rfl ha _))
      · exact (exec_readAxesAnswer h.live _ _).trans (congrArg _ (takeAnswer_restart h rfl ha _))
      · exact (exec_setAxesAnswer h.live _ _).trans (congrArg _ (takeAnswer_restart h rfl ha _))
    obtain ⟨⟨kept, line⟩, restarts, axes, idle, hworking, hejecting⟩ := h.trimRestart
    refine ⟨_, hexec, kept, line, restarts, axes, fun hw he => ?_, fun b hb => ⟨hworking b hb, fun he => ?_⟩⟩
    · exact idle hw (Bool.not_eq_true _ ▸ mt ejectInFlight_iff.1 he)
    · exact hejecting b hb (ejectInFlight_iff.2 he)
  · intro out lost
    have hexec : exec .exitWindowTimeout s = .next (exitTimeout (clearOut s)) := congrArg _ (live_next _ _ hl)
    refine ⟨fun ho => hexec.trans (congrArg _ (exitTimeout_early (s := clearOut s) ho)), fun ho => ?_⟩
    obtain ⟨hkept, hfaulted, hnoticed, hstate, hcause, v, ⟨-, -, cooling, loaded, room, full⟩, hheld, w, hd⟩ :=
      exitTimeout_lost (s := clearOut s) hb ho
    have hx := hexec
    obtain ⟨t, ht⟩ : ∃ t, t = exitTimeout (clearOut s) := ⟨_, rfl⟩
    rw [← ht] at hkept hfaulted hnoticed hstate hcause hheld hd hx
    have hs : LineKept { s with dlv := t.dlv, trim := t.trim } { clearOut s with dlv := t.dlv, trim := t.trim } :=
      clearOut_kept { s with dlv := t.dlv, trim := t.trim }
    refine ⟨t, hx, hs.trans hkept, hfaulted.congr rfl rfl rfl rfl, hnoticed, hstate, hcause, by rw [hd]; exact cooling,
      by rw [hd]; exact loaded, fun hr => ?_, fun hr => ?_⟩
    · obtain ⟨h₁, h₂⟩ := room hr
      rw [hd]
      exact ⟨hheld.trans h₁, h₂⟩
    · obtain ⟨h₁, h₂, h₃⟩ := full hr
      rw [hd]
      exact ⟨hheld.trans h₁, h₂, h₃⟩

end Sys2Proof.Machine

/-! PROOFS. O40: an index completed begins a full dwell (3.5 to 3.7, 5.2, 5.5, 9.3). -/

namespace Sys2Proof.Machine

section
variable {s t u : State} {p φ c d : Fin 20} {b : Book} {j : Job} {st : Station}

/-! ## Jobs by position (R36, R48) -/

theorem clampAt_of_phase (hk : s.car.phaseKnown = true) (hp : s.car.phase = some φ) (p : Fin 20) :
    clampAt s p = some (p - φ) := by
  unfold clampAt
  rw [if_pos hk, hp]
  rfl

theorem holdsLost_iff : holdsLost s c = true ↔ .clamp c ∈ s.dlv.waiters := by
  simp [holdsLost]

theorem bookJob_loaded {f : Fin 20 → Book → Option Job} (hc : clampAt s p = some c) (hb : bookIn s c = some b)
    (hl : .clamp c ∉ s.dlv.waiters) : bookJob s p f = f c b := by
  unfold bookJob
  simp only [hc, hb]
  exact if_neg (mt holdsLost_iff.1 hl)

theorem bookJob_none {f : Fin 20 → Book → Option Job} (hc : clampAt s p = some c)
    (h : ∀ b, bookIn s c = some b → .clamp c ∉ s.dlv.waiters → f c b = none) : bookJob s p f = none := by
  unfold bookJob
  simp only [hc]
  cases hb : bookIn s c with
  | none => rfl
  | some b =>
    by_cases hl : .clamp c ∈ s.dlv.waiters
    · exact if_pos (holdsLost_iff.2 hl)
    · exact (if_neg (mt holdsLost_iff.1 hl)).trans (h b hb hl)

theorem of_bookJob {f : Fin 20 → Book → Option Job} (h : bookJob s p f = some j) : ∃ c b, f c b = some j := by
  unfold bookJob at h
  split at h
  · cases h
  · split at h
    · cases h
    · split at h
      · cases h
      · exact ⟨_, _, h⟩

/-- A book without a reason, and not a lost record, in the clamp (R48). -/
def Sound (s : State) (c : Fin 20) (b : Book) : Prop := bookIn s c = some b ∧ b.reason = none ∧ .clamp c ∉ s.dlv.waiters

theorem soundJob_sound {f : Fin 20 → Book → Option Job} (hc : clampAt s p = some c) (h : Sound s c b) :
    soundJob s p f = f c b := by
  obtain ⟨hb, hr, hl⟩ := h
  exact (bookJob_loaded hc hb hl).trans (if_neg (by rw [hr]; exact Bool.false_ne_true))

theorem soundJob_none {f : Fin 20 → Book → Option Job} (hc : clampAt s p = some c) (h : ∀ b, Sound s c b → f c b = none) :
    soundJob s p f = none := by
  refine bookJob_none hc fun b hb hl => ?_
  cases hr : b.reason with
  | some r => exact if_pos rfl
  | none => exact (if_neg Bool.false_ne_true).trans (h b ⟨hb, hr, hl⟩)

theorem of_soundJob {f : Fin 20 → Book → Option Job} (h : soundJob s p f = some j) : ∃ c b, f c b = some j := by
  obtain ⟨c, b, h⟩ := of_bookJob h
  cases hr : b.reason.isSome with
  | true => rw [hr] at h; cases h
  | false => rw [hr] at h; exact ⟨c, b, h⟩

/-! ## The job list of a full dwell (R48) -/

/-- The job a station gets in a full dwell. -/
def stationJob (s : State) : Station → Option Job
  | .load => p0Job s
  | .mill => millJob s
  | .spine => spineJob s
  | .side => sideJob s
  | .draw => drawJob s
  | .apply => applyJob s
  | .nip => nipJob s
  | .release => releaseJob s

/-- A job as built for its station. -/
structure BuiltFor (st : Station) (j : Job) : Prop where
  station : j.item.station = st
  status  : j.status = .built ∨ j.status = .pending ∧ j.item.station = .release

theorem builtFor_mkJob (c : Fin 20) (id : Option TicketId) (x : JobParams) : BuiltFor st (mkJob st c id x false) :=
  ⟨rfl, .inl rfl⟩

theorem loadJob_built (h : loadJob s c = some j) : BuiltFor .load j := by
  obtain ⟨k, -, rfl⟩ := Option.map_eq_some_iff.1 h
  exact builtFor_mkJob _ _ _

theorem p0Job_built (h : p0Job s = some j) : BuiltFor .load j := by
  unfold p0Job at h
  split at h
  · cases h
  · split at h
    · cases h
    · split at h
      · exact loadJob_built h
      · split at h
        · cases h
          exact builtFor_mkJob _ _ _
        · cases h

theorem stationJob_built (h : stationJob s st = some j) : BuiltFor st j := by
  cases st with
  | load => exact p0Job_built h
  | mill | spine | nip =>
    obtain ⟨c, b, h⟩ := of_soundJob h
    cases h
    exact builtFor_mkJob _ _ _
  | side =>
    obtain ⟨c, b, h⟩ := of_soundJob h
    obtain ⟨w, -, rfl⟩ := Option.map_eq_some_iff.1 h
    exact builtFor_mkJob _ _ _
  | draw =>
    have h' : drawJob s = some j := h
    unfold drawJob at h'
    split at h'
    · cases h'
    · obtain ⟨c, b, h⟩ := of_bookJob h'
      cases h
      exact builtFor_mkJob _ _ _
  | apply =>
    obtain ⟨c, b, h⟩ := of_bookJob h
    split at h
    · cases h
      exact builtFor_mkJob _ _ _
    · cases h
  | release =>
    obtain ⟨c, b, h⟩ := of_bookJob h
    cases h
    refine ⟨rfl, ?_⟩
    cases hf : coolingFull s with
    | true => exact .inr ⟨rfl, rfl⟩
    | false => exact .inl rfl

theorem fullList_eq (s : State) : fullList s
    = ([.load, .mill, .spine, .side, .draw, .apply, .nip, .release] : List Station).filterMap (stationJob s) := by
  have h : fullList s
      = (([.load, .mill, .spine, .side, .draw, .apply, .nip, .release] : List Station).map (stationJob s)).filterMap id := rfl
  rw [h, List.filterMap_map, Function.id_comp]

theorem mem_fullList : j ∈ fullList s ↔ stationJob s j.item.station = some j := by
  rw [fullList_eq, List.mem_filterMap]
  refine ⟨fun ⟨st, _, h⟩ => ?_, fun h => ⟨j.item.station, ?_, h⟩⟩
  · rw [(stationJob_built h).station]
    exact h
  · cases j.item.station <;> decide

theorem mem_fullList_of (st : Station) (h : stationJob s st = some j) : j ∈ fullList s := by
  rw [mem_fullList, (stationJob_built h).station]
  exact h

/-! ## The open-time check (R93) -/

theorem glueOpen_iff {now : Time} : glueOpen now b = false
    ↔ ∃ g, b.glueTime = some g ∧ 100 * b.snapshot.openTime < (now - g).toNat := by
  unfold glueOpen
  cases b.glueTime with
  | none => simp
  | some g =>
    simp only [decide_eq_false_iff_not, Nat.not_le, Option.some.injEq, exists_eq_left']
    rfl

/-- The glue of the book has closed before its cover comes (R93). -/
def Late (s : State) (c : Fin 20) (b : Book) : Prop :=
  hasEntry s c = true ∧ .clamp c ∉ s.dlv.waiters ∧ b.reason = none ∧ glueOpen s.clock b = false

theorem openTimeCheck_late (hc : clampAt s 7 = some c) (hb : bookIn s c = some b) (h : Late s c b) :
    openTimeCheck s = setBook c (some { b with reason := some .openTime }) s := by
  obtain ⟨he, hl, hr, hg⟩ := h
  have hlost : holdsLost s c = false := Bool.eq_false_iff.2 (mt holdsLost_iff.1 hl)
  have hreason : setReason c .openTime s = setBook c (some { b with reason := some .openTime }) s := by
    simp only [setReason, hb, Book.withReason, hr]
  unfold openTimeCheck
  simp only [hc, hb, he, hlost, hr, hg]
  exact hreason

theorem openTimeCheck_intime (hc : clampAt s 7 = some c) (h : ∀ b, bookIn s c = some b → ¬Late s c b) :
    openTimeCheck s = s := by
  unfold openTimeCheck
  simp only [hc]
  cases hb : bookIn s c with
  | none => rfl
  | some b =>
    refine if_neg fun hx => h b hb ?_
    simp only [Bool.and_eq_true, Bool.not_eq_true', Option.isNone_iff_eq_none] at hx
    obtain ⟨⟨⟨he, hl⟩, hr⟩, hg⟩ := hx
    exact ⟨he, mt holdsLost_iff.2 (by rw [hl]; decide), hr, hg⟩

/-- The book at P7 alone may have got a reason (R93). -/
theorem openTimeCheck_clamps (hc : clampAt s 7 = some c) :
    ∃ v, openTimeCheck s = { s with car := { s.car with clamps := v } } ∧ ∀ d, d ≠ c → v[d] = s.car.clamps[d] := by
  by_cases h : ∃ b, bookIn s c = some b ∧ Late s c b
  · obtain ⟨b, hb, hl⟩ := h
    refine ⟨_, openTimeCheck_late hc hb hl, fun d hd => ?_⟩
    exact (clampRec_setClamp c _ s d).trans (if_neg hd)
  · exact ⟨s.car.clamps, openTimeCheck_intime hc fun b hb hl => h ⟨b, hb, hl⟩, fun _ _ => rfl⟩

/-! ## The WORK of a dwell (R49, R154) -/

/-- A job as the first WORK of its dwell leaves it (R49, R91). -/
def issuedAs (now : Time) (e : Bool) (j : Job) : Job :=
  if j.status = .built then { j with
    status := .issued, limit := if e && j.item.station == .draw then .suspended else .running now } else j

theorem issuedAs_item (now : Time) (e : Bool) (j : Job) : (issuedAs now e j).item = j.item := by
  unfold issuedAs
  split <;> rfl

theorem workItems_map (now : Time) (e : Bool) {l : List Job} (h : ∀ j ∈ l, j.status = .built ∨ j.status = .pending) :
    ((l.map (issuedAs now e)).filter (·.status == .issued)).map (·.item) = workItems l := by
  induction l with
  | nil => rfl
  | cons j l ih =>
    obtain ⟨hj, hl⟩ := List.forall_mem_cons.1 h
    have ih' := ih hl
    unfold workItems at ih' ⊢
    rcases hj with hj | hj
    · simp only [List.map_cons, issuedAs, hj, if_true, List.filter_cons, beq_self_eq_true]
      exact congrArg _ ih'
    · have hp : issuedAs now e j = j := if_neg (by rw [hj]; decide)
      simp only [List.map_cons, hp, List.filter_cons, hj]
      exact ih'

theorem issueJob_work (now : Time) (e : Bool) {l : List Job} (hj : j ∈ l) :
    issueJob ((workItems l).map (·.station)) now e j = issuedAs now e j := by
  rw [issueJob_eq]
  refine if_congr ⟨fun h => h.1, fun h => ⟨h, j.item, ?_, rfl⟩⟩ rfl rfl
  exact List.mem_map.2 ⟨j, List.mem_filter.2 ⟨hj, beq_iff_eq.2 h⟩, rfl⟩

theorem workItems_station {l : List Job} :
    (workItems l).any (·.station == st) = true ↔ ∃ j ∈ l, j.status = .built ∧ j.item.station = st := by
  simp [workItems]

/-- The WORK that waits alone is sent when the transaction ends. -/
theorem endTransaction_work {g : Byte} {items : List WorkItem} {again : Bool}
    (hq : s.bus.carQ = [.work g items again]) (ht : s.bus.trimQ = []) (hl : s.bus.coolQ = []) (hp : s.bus.probeQ = []) :
    endTransaction s = sendWork g items again { s with bus := { s.bus with current := none, carQ := [] } } := by
  have hw : ({ s.bus with current := none } : Bus).waiting = 1 := by simp [Bus.waiting, hq, ht, hl, hp]
  have hg : ({ s.bus with current := none } : Bus).grant
      = some (.work g items again, { s.bus with current := none, carQ := [] }) := by simp [Bus.grant, hq]
  unfold endTransaction busPump
  rw [hw]
  exact pump_grant (s := { s with bus := { s.bus with current := none } }) (i := 0) rfl hg

/-! ## A full dwell begins (R46, R49, R55) -/

/-- The index is complete (R55, R83). -/
def indexed (s : State) : State := { s with
  car := { s.car with state := .standing, worked := false, moveTimer := none, phase := s.car.phase.map (· + 1) }
  cover := { s.cover with drawMark := false } }

theorem indexDone_full (hm : s.line.state = .running ∨ s.line.state = .draining) (hk : s.car.phaseKnown = true)
    (hu : u = openTimeCheck (indexed s)) (hl : fullList u ≠ []) : indexDone s = beginDwell .full (fullList u) u := by
  have hmov : moving (indexed s) = true := by
    unfold moving
    rcases hm with hm | hm <;> simp [indexed, hm]
  have hstate : (indexed s).car.state = .standing := rfl
  have hworked : (indexed s).car.worked = false := rfl
  have hknown : (indexed s).car.phaseKnown = true := hk
  have htold : ∀ n, carTold (n + 1) (indexed s) = beginFull (carTold n) (indexed s) := fun n => by
    unfold carTold
    simp only [hstate, hmov, hworked, if_true]
    exact if_neg Bool.false_ne_true
  have hempty : ¬(fullList u).isEmpty = true := mt List.isEmpty_iff.1 hl
  show carTold tellFuel (indexed s) = _
  rw [show tellFuel = 2 + 1 from rfl, htold]
  unfold beginFull
  rw [if_pos hknown, ← hu]
  exact if_neg hempty

/-- A full dwell of the list built in `u` has begun and its WORK is sent (R48, R49, R83, R154, R155). -/
structure FullBegun (u t : State) : Prop where
  kept     : LineKept u t
  state    : t.car.state = .dwelling
  dwell    : t.car.dwell = .full
  tag      : t.car.tag = u.car.tag + 1
  worked   : t.car.worked = u.car.worked
  phase    : t.car.phase = u.car.phase
  line     : t.line = { u.line with standbyTimer := none }
  clamps   : t.car.clamps = u.car.clamps
  jobs     : t.car.jobs = (fullList u).map (issuedAs u.clock (coverEmptyClosed u))
  out      : t.busOut = u.busOut ++ [BusContent.frame (.work (u.car.tag + 1) (workItems (fullList u)))]
  mark     : t.cover.drawMark = (u.cover.drawMark || (workItems (fullList u)).any (·.station == .draw))
  fast     : t.bus.fast = true
  reserved : (∃ j ∈ fullList u, j.openLoad = true) → t.tickets.reserved = true

theorem beginDwell_begun (hq : NothingWaits u.bus) (hc : u.bus.current ≠ none) (hl : workItems (fullList u) ≠ []) :
    FullBegun u (endTransaction (beginDwell .full (fullList u) u)) := by
  have hkept : LineKept u (endTransaction (beginDwell .full (fullList u) u)) :=
    (beginDwell_kept .full (fullList u) (.refl u)).trans (endTransaction_busWork _).lineKept
  obtain ⟨items, hi⟩ : ∃ items, items = workItems (fullList u) := ⟨_, rfl⟩
  obtain ⟨v, hv⟩ : ∃ v, v = stopStandby { u with
      car := { u.car with state := .dwelling, jobs := fullList u, dwell := .full, tag := u.car.tag + 1 }
      tickets := { u.tickets with reserved := u.tickets.reserved || (fullList u).any Job.openLoad } } := ⟨_, rfl⟩
  have hvb : v.bus = u.bus := by rw [hv]; rfl
  have hcar : v.car = { u.car with state := .dwelling, jobs := fullList u, dwell := .full, tag := u.car.tag + 1 } := by
    rw [hv]
    rfl
  have htag : v.car.tag = u.car.tag + 1 := by rw [hcar]
  have hbegin : beginDwell .full (fullList u) u = handOver (.work (u.car.tag + 1) items false) v := by
    unfold beginDwell
    rw [← hv, ← hi, ← htag]
    cases items with
    | nil => exact absurd hi.symm hl
    | cons i l => rfl
  have hhand : handOver (.work (u.car.tag + 1) items false) v
      = { v with bus := { v.bus with carQ := v.bus.carQ ++ [.work (u.car.tag + 1) items false] } } :=
    handOver_of_busy _ (by rw [hvb]; exact hc)
  obtain ⟨w, hw⟩ : ∃ w, w = { v with bus := { v.bus with current := none, carQ := [] } } := ⟨_, rfl⟩
  have hend : endTransaction (beginDwell .full (fullList u) u) = sendWork (u.car.tag + 1) items false w := by
    rw [hbegin, hhand]
    refine (endTransaction_work (g := u.car.tag + 1) (items := items) (again := false) ?_ ?_ ?_ ?_).trans
      (congrArg _ hw.symm)
    · show v.bus.carQ ++ _ = _
      rw [hvb, hq.carousel]
      rfl
    · exact (congrArg Bus.trimQ hvb).trans hq.trimmer
    · exact (congrArg Bus.coolQ hvb).trans hq.cooling
    · exact (congrArg Bus.probeQ hvb).trans hq.probe
  have hwcar : w.car = { u.car with state := .dwelling, jobs := fullList u, dwell := .full, tag := u.car.tag + 1 } := by
    rw [hw]
    exact hcar
  have hlive : dwellLive w (u.car.tag + 1) = true := by
    unfold dwellLive
    rw [hwcar]
    simp
  obtain ⟨t, ht⟩ : ∃ t, t = sendWork (u.car.tag + 1) items false w := ⟨_, rfl⟩
  rw [hend, ← ht] at hkept ⊢
  have htcar : t.car = { w.car with
      jobs := w.car.jobs.map (issueJob (items.map (·.station)) w.clock (coverEmptyClosed w)) } := by
    rw [ht]
    unfold sendWork
    rw [hlive]
    rfl
  have hclock : w.clock = u.clock := by rw [hw, hv]; rfl
  have hempty : coverEmptyClosed w = coverEmptyClosed u := by rw [hw, hv]; rfl
  rw [hwcar, hclock, hempty] at htcar
  refine ⟨hkept, ?_, ?_, ?_, ?_, ?_, ?_, ?_, ?_, ?_, ?_, ?_, fun h => ?_⟩
  · rw [htcar]
  · rw [htcar]
  · rw [htcar]
  · rw [htcar]
  · rw [htcar]
  · rw [ht, hw, hv]
    rfl
  · rw [htcar]
  · rw [htcar, hi]
    exact List.map_congr_left fun j hj => issueJob_work _ _ hj
  · rw [ht, hw, hv, ← hi]
    rfl
  · have hm : t.cover.drawMark = (u.cover.drawMark || (items.map (·.station)).contains .draw) := by
      rw [ht, hw, hv]
      rfl
    rw [hm, contains_stations, hi]
  · have hf : t.bus.fast = (w.bus.fast || (dwellLive w (u.car.tag + 1) && !false)) := by
      rw [ht]
      rfl
    rw [hf, hlive]
    exact Bool.or_true _
  · have hr : t.tickets.reserved = (u.tickets.reserved || (fullList u).any Job.openLoad) := by
      rw [ht, hw, hv]
      rfl
    rw [hr, List.any_eq_true.2 h, Bool.or_true]

/-! ## The list built for an index completed (R48) -/

/-- The state in which the list of the dwell after an index is built: the clamps one position on, the draw mark cleared,
the book at P7 with OPEN_TIME when its glue has closed (R48, R55, R83, R93). -/
structure Listed (φ : Fin 20) (s u : State) : Prop where
  clamps   : ∀ p, clampAt u p = some (p - (φ + 1))
  records  : ∀ p, p ≠ 7 → clampRec u (p - (φ + 1)) = clampRec s (p - (φ + 1))
  late     : ∀ b, bookIn s (7 - (φ + 1)) = some b → Late s (7 - (φ + 1)) b →
    bookIn u (7 - (φ + 1)) = some { b with reason := some .openTime }
  intime   : (∀ b, bookIn s (7 - (φ + 1)) = some b → ¬Late s (7 - (φ + 1)) b) →
    bookIn u (7 - (φ + 1)) = bookIn s (7 - (φ + 1))
  mark     : u.cover.drawMark = false
  entries  : u.cover.entries = s.cover.entries
  mismatch : u.cover.mismatch = s.cover.mismatch
  waiters  : u.dlv.waiters = s.dlv.waiters
  cooling  : u.dlv.cooling = s.dlv.cooling
  queue    : u.tickets.queue = s.tickets.queue
  settings : u.settings = s.settings
  line     : u.line.state = s.line.state

theorem listed_of_indexed {m : State} (hm : BusOnly s m) (hk : s.car.phaseKnown = true) (hp : s.car.phase = some φ) :
    Listed φ s (openTimeCheck (indexed m)) := by
  obtain ⟨x, hx⟩ := hm
  obtain ⟨w, hw⟩ : ∃ w, w = indexed m := ⟨_, rfl⟩
  have hwk : w.car.phaseKnown = true := by rw [hw, hx]; exact hk
  have hwp : w.car.phase = some (φ + 1) := by
    rw [hw, hx]
    show s.car.phase.map _ = _
    rw [hp]
    rfl
  have hrec : ∀ d, clampRec w d = clampRec s d := fun d => by rw [hw, hx]; rfl
  have hbook : ∀ d, bookIn w d = bookIn s d := fun d => congrArg Clamp.book (hrec d)
  have hlate : ∀ d b, Late w d b ↔ Late s d b := fun d b => by rw [hw, hx]; rfl
  have h7 := clampAt_of_phase hwk hwp 7
  obtain ⟨v, hv, hkeep⟩ := openTimeCheck_clamps h7
  rw [← hw]
  refine ⟨fun p => ?_, fun p hne => ?_, fun b hb hl => ?_, fun h => ?_, ?_, ?_, ?_, ?_, ?_, ?_, ?_, ?_⟩
  · rw [hv]
    exact clampAt_of_phase (s := { w with car := { w.car with clamps := v } }) hwk hwp p
  · rw [← hrec, hv]
    exact hkeep _ fun h => hne (sub_left_inj.1 h)
  · rw [openTimeCheck_late h7 ((hbook _).trans hb) ((hlate _ _).2 hl), bookIn_setBook]
    exact if_pos rfl
  · rw [openTimeCheck_intime h7 fun b hb hl => h b ((hbook _).symm.trans hb) ((hlate _ _).1 hl)]
    exact hbook _
  all_goals rw [hv, hw, hx]; rfl

section
variable (h : Listed φ s u)
include h

theorem Listed.book (hp : p ≠ 7) : bookIn u (p - (φ + 1)) = bookIn s (p - (φ + 1)) :=
  congrArg Clamp.book (h.records p hp)

theorem Listed.sound (hp : p ≠ 7) : Sound u (p - (φ + 1)) b ↔ Sound s (p - (φ + 1)) b := by
  unfold Sound
  rw [h.book hp, h.waiters]

theorem Listed.bookJob (hp : p ≠ 7) {f : Fin 20 → Book → Option Job} (hb : bookIn s (p - (φ + 1)) = some b)
    (hl : .clamp (p - (φ + 1)) ∉ s.dlv.waiters) : bookJob u p f = f (p - (φ + 1)) b :=
  bookJob_loaded (h.clamps p) ((h.book hp).trans hb) (by rw [h.waiters]; exact hl)

theorem Listed.soundJob (hp : p ≠ 7) {f : Fin 20 → Book → Option Job} (hb : Sound s (p - (φ + 1)) b) :
    soundJob u p f = f (p - (φ + 1)) b :=
  soundJob_sound (h.clamps p) ((h.sound hp).2 hb)

theorem Listed.noSoundJob (hp : p ≠ 7) {f : Fin 20 → Book → Option Job}
    (hn : ∀ b, Sound s (p - (φ + 1)) b → f (p - (φ + 1)) b = none) : Machine.soundJob u p f = none :=
  soundJob_none (h.clamps p) fun b hb => hn b ((h.sound hp).1 hb)

theorem Listed.p0_busy (hb : bookIn s (0 - (φ + 1)) ≠ none ∨ (clampRec s (0 - (φ + 1))).mark ≠ .inUse) :
    p0Job u = none := by
  unfold p0Job
  simp only [h.clamps, h.records 0 (by decide)]
  refine if_pos ?_
  rw [Bool.or_eq_true, bne_iff_ne]
  exact hb.imp_left fun hb => Option.isSome_iff_ne_none.2 hb

theorem Listed.p0_free (hb : bookIn s (0 - (φ + 1)) = none) (hm : (clampRec s (0 - (φ + 1))).mark = .inUse) :
    p0Job u = if u.line.state == .running && !u.tickets.queue.isEmpty then loadJob u (0 - (φ + 1))
      else if u.settings.zeroLearning && moving u then some (mkJob .load (0 - (φ + 1)) none .learn false) else none := by
  unfold p0Job
  simp only [h.clamps, h.records 0 (by decide)]
  refine if_neg ?_
  rw [Bool.or_eq_true, bne_iff_ne]
  rintro (hk | hk)
  · have hb' : (clampRec s (0 - (φ + 1))).book = none := hb
    rw [hb'] at hk
    cases hk
  · exact hk hm

theorem Listed.p0_load {k : Ticket} {rest : List Ticket} (hb : bookIn s (0 - (φ + 1)) = none)
    (hm : (clampRec s (0 - (φ + 1))).mark = .inUse) (hr : s.line.state = .running) (hq : s.tickets.queue = k :: rest) :
    p0Job u = some (mkJob .load (0 - (φ + 1)) none (.load k.blockId s.settings.loadWait) false) := by
  rw [h.p0_free hb hm]
  simp only [h.line, hr, h.queue, hq, loadJob, h.settings]
  rfl

theorem Listed.p0_learn (hb : bookIn s (0 - (φ + 1)) = none) (hm : (clampRec s (0 - (φ + 1))).mark = .inUse)
    (hr : s.line.state = .draining ∨ s.line.state = .running ∧ s.tickets.queue = []) (hz : s.settings.zeroLearning = true) :
    p0Job u = some (mkJob .load (0 - (φ + 1)) none .learn false) := by
  rw [h.p0_free hb hm]
  rcases hr with hr | ⟨hr, hq⟩
  · simp [moving, h.line, hr, h.settings, hz]
  · simp [moving, h.line, hr, h.queue, hq, h.settings, hz]

theorem Listed.draw (hb : bookIn s (5 - (φ + 1)) = some b) (hl : .clamp (5 - (φ + 1)) ∉ s.dlv.waiters) :
    drawJob u = some (mkJob .draw (5 - (φ + 1)) (some b.ticket.id)
      (.draw (if b.reason.isSome then DrawForm.divert else .keep) b.ticket.coverId (if s.cover.mismatch = 0 then 2 else 1)
        (if b.reason.isSome then none else b.setpoints.map fun sp => (sp.s2, sp.s3, sp.outer))) false) := by
  unfold drawJob
  rw [if_neg (by rw [h.mark]; exact Bool.false_ne_true), h.bookJob (by decide) hb hl, h.mismatch]

theorem Listed.hasEntry : hasEntry u c = Machine.hasEntry s c := by
  unfold Machine.hasEntry
  rw [h.entries]

theorem Listed.apply (hb : bookIn u (7 - (φ + 1)) = some b) (hl : .clamp (7 - (φ + 1)) ∉ s.dlv.waiters)
    (he : Machine.hasEntry s (7 - (φ + 1)) = true) : applyJob u = some (mkJob .apply (7 - (φ + 1)) (some b.ticket.id)
      (.apply (if b.reason.isSome then .divert else .apply)) false) :=
  (bookJob_loaded (h.clamps 7) hb (by rw [h.waiters]; exact hl)).trans (if_pos (h.hasEntry.trans he))

theorem Listed.apply_none (he : Machine.hasEntry s (7 - (φ + 1)) = false) : applyJob u = none :=
  bookJob_none (h.clamps 7) fun _ _ _ => if_neg (by rw [h.hasEntry, he]; exact Bool.false_ne_true)

theorem Listed.release (hb : bookIn s (11 - (φ + 1)) = some b) (hl : .clamp (11 - (φ + 1)) ∉ s.dlv.waiters) :
    releaseJob u = some (mkJob .release (11 - (φ + 1)) (some b.ticket.id) .release (coolingFull s)) := by
  have hc : coolingFull u = coolingFull s := by
    unfold coolingFull
    rw [h.cooling]
  rw [← hc]
  exact h.bookJob (by decide) hb hl

theorem Listed.release_none (hb : bookIn s (11 - (φ + 1)) = none) : releaseJob u = none :=
  bookJob_none (h.clamps 11) fun b hb' _ => absurd ((h.book (by decide)).symm.trans hb') (by rw [hb]; nofun)

end

theorem hasEntry_iff : hasEntry s c = true ↔ ∃ e ∈ s.cover.entries, e.clamp = c := by
  simp [hasEntry]

/-! ## The jobs of the dwell (R48, R49) -/

/-- A job is in the list with its station, clamp, book and parameters. -/
def HasJob (t : State) (i : WorkItem) : Prop := ∃ j ∈ t.car.jobs, j.item = i

theorem FullBegun.has (h : FullBegun u t) (hj : stationJob u j.item.station = some j) : HasJob t j.item :=
  ⟨issuedAs u.clock (coverEmptyClosed u) j, by rw [h.jobs]; exact List.mem_map_of_mem (mem_fullList.2 hj),
    issuedAs_item _ _ j⟩

theorem FullBegun.of_mem (h : FullBegun u t) (hj : j ∈ t.car.jobs) :
    ∃ i ∈ fullList u, issuedAs u.clock (coverEmptyClosed u) i = j := by
  rw [h.jobs] at hj
  exact List.mem_map.1 hj

theorem FullBegun.hasNone (h : FullBegun u t) (hn : stationJob u st = none) (hj : j ∈ t.car.jobs) :
    j.item.station ≠ st := by
  obtain ⟨i, hi, rfl⟩ := h.of_mem hj
  rw [issuedAs_item]
  rintro rfl
  exact Option.some_ne_none _ ((mem_fullList.1 hi).symm.trans hn)

/-- Every job is ISSUED with its limit, but a release held back (R47, R49, R91). -/
theorem FullBegun.issued (h : FullBegun u t) (hj : j ∈ t.car.jobs) : j.status = .issued ∧ j.limit =
      (if j.item.station = .draw ∧ coverEmptyClosed u = true then .suspended else .running u.clock)
    ∨ j.status = .pending ∧ j.item.station = .release := by
  obtain ⟨i, hi, rfl⟩ := h.of_mem hj
  rcases (stationJob_built (mem_fullList.1 hi)).status with hb | ⟨hp, hs⟩
  · left
    have he : issuedAs u.clock (coverEmptyClosed u) i = { i with
      status := .issued
      limit := if coverEmptyClosed u && i.item.station == .draw then .suspended else .running u.clock } := if_pos hb
    have hdraw : (coverEmptyClosed u && i.item.station == .draw) = true
        ↔ i.item.station = .draw ∧ coverEmptyClosed u = true := by rw [Bool.and_eq_true, beq_iff_eq, and_comm]
    rw [he]
    exact ⟨rfl, if_congr hdraw rfl rfl⟩
  · right
    have he : issuedAs u.clock (coverEmptyClosed u) i = i := if_neg (by rw [hp]; decide)
    rw [he]
    exact ⟨hp, hs⟩

theorem FullBegun.draws (h : FullBegun u t) (hm : u.cover.drawMark = false) :
    t.cover.drawMark = true ↔ ∃ j ∈ t.car.jobs, j.item.station = .draw := by
  rw [h.mark, hm, Bool.false_or, workItems_station]
  refine ⟨fun ⟨i, hi, _, hs⟩ => ?_, fun ⟨j, hj, hs⟩ => ?_⟩
  · exact ⟨_, by rw [h.jobs]; exact List.mem_map_of_mem hi, (congrArg _ (issuedAs_item _ _ i)).trans hs⟩
  · obtain ⟨i, hi, rfl⟩ := h.of_mem hj
    rw [issuedAs_item] at hs
    rcases (stationJob_built (mem_fullList.1 hi)).status with hb | ⟨-, hr⟩
    · exact ⟨i, hi, hb, hs⟩
    · rw [hr] at hs
      cases hs

end

/-- Settles O40: the jobs of a full dwell, position by position, and the WORK that issues them. -/
theorem indexBeginsFullDwell : Obligations.IndexBeginsFullDwell := by
  intro s q φ book h hc hp hk hm place lost sound hbook
  obtain ⟨m, hmeq⟩ : ∃ m, m = slotHeard .drive s := ⟨_, rfl⟩
  have hbus : BusOnly s m := hmeq ▸ busOnly_heard .drive s
  obtain ⟨u, hu⟩ : ∃ u, u = openTimeCheck (indexed m) := ⟨_, rfl⟩
  have hl : Listed φ s u := hu ▸ listed_of_indexed hbus hk hp
  have hmk : LineKept s m := hmeq ▸ slotHeard_kept .drive s
  have huk : LineKept s u := hu ▸ openTimeCheck_kept
    (hmk.next ⟨rfl, rfl, rfl, rfl, rfl, rfl, rfl, rfl⟩ ⟨rfl, rfl, rfl, rfl, rfl, rfl⟩ rfl rfl)
  have hsame : ∃ v, u = { indexed m with car := { (indexed m).car with clamps := v } } := by
    obtain ⟨v, hv, -⟩ := openTimeCheck_clamps (s := indexed m) (c := 7 - (φ + 1))
      (clampAt_of_phase (by rw [hmeq]; exact hk) (by rw [hmeq]; show s.car.phase.map _ = _; rw [hp]; rfl) 7)
    exact ⟨v, hu.trans hv⟩
  obtain ⟨v, hv⟩ := hsame
  have hmill : stationJob u .mill
      = some (mkJob .mill (place 2) (some book.ticket.id) (.mill book.ticket.millDepth) false) :=
    hl.soundJob (by decide) hbook
  have hmem : mkJob .mill (place 2) (some book.ticket.id) (.mill book.ticket.millDepth) false ∈ fullList u :=
    mem_fullList_of .mill hmill
  have hne : workItems (fullList u) ≠ [] :=
    List.ne_nil_of_mem (List.mem_map.2 ⟨_, List.mem_filter.2 ⟨hmem, rfl⟩, rfl⟩)
  have hq := h.quiet
  obtain ⟨-, hcur⟩ := h.heardBus
  have hf : FullBegun u (endTransaction (beginDwell .full (fullList u) u)) := by
    refine beginDwell_begun ?_ ?_ hne
    · rw [hv, hmeq]
      exact ⟨hq.carousel, hq.trimmer, hq.cooling, hq.probe⟩
    · rw [hv, hmeq]
      exact hcur
  have hstate : (slotHeard .drive s).car.state = .indexing := hc
  have hexec : exec (.indexAnswer q .done ⟨false, true⟩) s
      = .next (endTransaction (beginDwell .full (fullList u) u)) := by
    have hdone : indexAnswered .done m = beginDwell .full (fullList u) u := by
      unfold indexAnswered
      rw [hmeq, hstate, ← hmeq]
      exact indexDone_full (s := m) (by rw [hmeq]; exact hm) (by rw [hmeq]; exact hk) hu
        (List.ne_nil_of_mem hmem)
    rw [exec_indexAnswer h.live, ← hdone, hmeq]
    exact congrArg _ (takeAnswer_final h rfl rfl)
  obtain ⟨t, ht⟩ : ∃ t, t = endTransaction (beginDwell .full (fullList u) u) := ⟨_, rfl⟩
  rw [← ht] at hf hexec
  have hclock : u.clock = s.clock := huk.tables.clock
  have hempty : coverEmptyClosed u = coverEmptyClosed s := by rw [hv, hmeq]; rfl
  have hout : u.busOut = [] := by rw [hv, hmeq]; rfl
  have htag : u.car.tag = s.car.tag := by rw [hv, hmeq]; rfl
  have hbuilt : ∀ j ∈ fullList u, j.status = .built ∨ j.status = .pending := fun j hj =>
    (stationJob_built (mem_fullList.1 hj)).status.imp_right And.left
  have hjob : ∀ {st p id x held}, stationJob u st = some (mkJob st (place p) id x held) →
      HasJob t ⟨st, place p, id, x⟩ := fun hj => hf.has (j := mkJob _ _ _ _ _) hj
  refine ⟨t, hexec, huk.trans hf.kept, ?_, hf.state, hf.dwell, ?_, htag ▸ hf.tag, ?_, ?_, fun j hj => ?_,
    hf.draws hl.mark, hf.fast, ?_⟩
  · rw [hf.phase, hv, hmeq]
    show s.car.phase.map _ = _
    rw [hp]
    rfl
  · rw [hf.worked, hv]
    rfl
  · rw [hf.line, hv, hmeq]
    rfl
  · rw [hf.out, hout, htag, hf.jobs, workItems_map _ _ hbuilt]
    rfl
  · have hi := hf.issued hj
    rwa [hclock, hempty] at hi
  · intro has hasNone
    have hno : ∀ {st}, stationJob u st = none → hasNone st := fun hn j hj => hf.hasNone hn hj
    refine ⟨fun k rest hb hin hr hq' => ?_, fun hb hin hr hz => ?_, fun hb => hno (hl.p0_busy hb), hjob hmill,
      fun b hb => hjob (hl.soundJob (by decide) hb), fun hn => ?_, fun b w hb hw => ?_, fun hn => ?_, fun b hb hlost => ?_,
      fun b hb hlost he => ?_, fun he => ?_, fun b hb => hjob (hl.soundJob (by decide) hb), fun hn => ?_,
      fun b hb hlost => ?_, fun hb => hno (hl.release_none hb)⟩
    · have hj := hl.p0_load hb hin hr hq'
      exact ⟨hjob (st := .load) hj, hf.reserved ⟨_, mem_fullList_of .load hj, rfl⟩⟩
    · refine hjob (st := .load) (hl.p0_learn hb hin ?_ hz)
      rcases hr with hr | hr
      · exact .inl hr
      · exact hm.symm.imp_right fun hrun => ⟨hrun, hr⟩
    · exact hno (hl.noSoundJob (by decide) fun b hb => absurd hb (hn b))
    · refine hjob (st := .side) (held := false) ((hl.soundJob (by decide) hb).trans ?_)
      simp only [hw]
      rfl
    · refine hno (hl.noSoundJob (by decide) fun b hb => ?_)
      simp only [hn b hb]
      rfl
    · have hj := hl.draw hb hlost
      refine ⟨fun hr => ?_, fun hr => ?_⟩
      · rw [hr] at hj
        exact hjob (st := .draw) hj
      · rw [if_pos (Option.isSome_iff_ne_none.2 hr), if_pos (Option.isSome_iff_ne_none.2 hr)] at hj
        exact hjob (st := .draw) hj
    · have hentry : hasEntry s (place 7) = true := hasEntry_iff.2 he
      intro late
      have hlate : Late s (place 7) b ↔ b.reason = none ∧ late := by
        unfold Late
        rw [glueOpen_iff]
        exact ⟨fun hx => hx.2.2, fun hx => ⟨hentry, hlost, hx⟩⟩
      have hintime : ¬Late s (place 7) b → bookIn u (place 7) = some b := fun hx =>
        (hl.intime fun b' hb' => Option.some.inj (hb.symm.trans hb') ▸ hx).trans hb
      refine ⟨fun hr hg => ?_, fun hr hg => ?_, fun hr => ?_⟩
      · have hj := hl.apply (hintime fun hx => hg (hlate.1 hx).2) hlost hentry
        rw [hr] at hj
        exact hjob (st := .apply) hj
      · have hb' := hl.late b hb (hlate.2 ⟨hr, hg⟩)
        refine ⟨hjob (st := .apply) (hl.apply hb' hlost hentry), ?_⟩
        unfold bookIn
        rw [hf.clamps]
        exact hb'
      · have hj := hl.apply (hintime fun hx => hr (hlate.1 hx).1) hlost hentry
        rw [if_pos (Option.isSome_iff_ne_none.2 hr)] at hj
        exact hjob (st := .apply) hj
    · refine hno (hl.apply_none (Bool.eq_false_iff.2 fun hx => ?_))
      obtain ⟨e, hmem, hclamp⟩ := hasEntry_iff.1 hx
      exact he e hmem hclamp
    · exact hno (hl.noSoundJob (by decide) fun b hb => absurd hb (hn b))
    · have hj := hl.release hb hlost
      refine ⟨_, by rw [hf.jobs]; exact List.mem_map_of_mem (mem_fullList_of .release hj), issuedAs_item _ _ _, ?_⟩
      have hfull : coolingFull s = true ↔ 40 ≤ s.dlv.cooling.length := decide_eq_true_iff
      rw [← hfull]
      cases hx : coolingFull s with
      | true => exact ⟨fun _ => rfl, fun _ => rfl⟩
      | false => exact ⟨fun hn => JobStatus.noConfusion hn, fun hn => Bool.noConfusion hn⟩

end Sys2Proof.Machine

/-! PROOFS. O47: what the owners make of a contact's change (10.4, 3.7, 5.4, 6.5 to 6.7, 7.2, 7.3, 8.6 to 8.8). -/

namespace Sys2Proof.Machine

section
variable {s t u v : State} {b : Book} {c : Fin 20} {r : BitVec 64} {i : Fin 64} {closing : Bool} {rest : List Book}

/-! ## The change as the owner sees it (R166, R169) -/

theorem HandsChange.reading (h : HandsChange s r i closing) :
    ((scanned r s).scan.contacts[i].closed && !(scanned r s).scan.contacts[i].uncertain) = closing := by
  have hmem : (i, closing) ∈ handedChanges false s.scan.contacts (scanPass false r (List.finRange 64) s.scan.contacts) := by
    rw [h.only]
    exact List.mem_singleton_self _
  obtain ⟨k, -, hk⟩ := List.mem_map.1 hmem
  obtain ⟨rfl, hc⟩ := Prod.mk.inj hk
  exact hc

/-! ## A block at the infeed (R57, R116) -/

theorem freshTest_of_not (h : s.line.state ≠ .running ∨ freshLoadCondition s = false) : freshTest s = s := by
  refine if_neg fun hx => ?_
  simp only [Bool.and_eq_true, beq_iff_eq] at hx
  rcases h with h | h
  · exact h hx.1.1.2
  · rw [h] at hx
    exact Bool.false_ne_true hx.2

theorem wakeTest_of_not (h : s.line.state ≠ .standby ∨ wakeCondition s = false) : wakeTest s = s := by
  refine if_neg fun hx => ?_
  rw [Bool.and_eq_true, beq_iff_eq] at hx
  rcases h with h | h
  · exact h hx.1
  · rw [h] at hx
    exact Bool.false_ne_true hx.2

theorem infeed_empty (h : s.tickets.queue = []) : contactChange 0 true s = s := by
  have hfresh : freshTest s = s := freshTest_of_not (.inr (by simp [freshLoadCondition, h]))
  show wakeTest (freshTest s) = s
  rw [hfresh]
  exact wakeTest_of_not (.inr (by simp [wakeCondition, h]))

/-- A block wakes a line in STANDBY with a ticket (R116). -/
theorem infeed_wakes (hs : s.line.state = .standby) (hq : s.tickets.queue ≠ []) (hp : inPresent s = true)
    (hc : s.glue.cond ≠ .atTemp) (hu : s.car.state ≠ .unhomed) : contactChange 0 true s = warmed s := by
  have hfresh : freshTest s = s := freshTest_of_not (.inl (by rw [hs]; nofun))
  have hwake : wakeCondition s = true := by simp [wakeCondition, hq, hp]
  have hcar : (warmed s).car.state ≠ .unhomed := by
    unfold warmed
    rw [enterState_car]
    exact hu
  have htold : tellCarousel (enterWarming s) = warmed s := by
    rw [enterWarming_cold hc]
    exact tellCarousel_warming (by rw [warmed_line]) hcar
  show wakeTest (freshTest s) = _
  rw [hfresh]
  exact (if_pos (by rw [hs, hwake]; rfl)).trans htold

/-- The load job of a fresh load dwell, as built (R57, R61). -/
def freshJob (s : State) (k : Ticket) (c : Fin 20) : Job := mkJob .load c none (.load k.blockId s.settings.loadWait) false

/-- The fresh load dwell has begun, before its WORK is handed over (R57). -/
def freshBegun (s : State) (k : Ticket) (c : Fin 20) : State := { s with
  car := { s.car with state := .dwelling, jobs := [freshJob s k c], dwell := .freshLoad, tag := s.car.tag + 1 }
  tickets := ⟨s.tickets.queue, true⟩
  line := { s.line with standbyTimer := none } }

theorem beginDwell_fresh (s : State) (k : Ticket) (c : Fin 20) : beginDwell .freshLoad [freshJob s k c] s
    = handOver (.work (s.car.tag + 1) [(freshJob s k c).item] false) (freshBegun s k c) := by
  have ht : (s.tickets.reserved || [freshJob s k c].any Job.openLoad) = true := Bool.or_true _
  unfold beginDwell
  simp only [ht]
  rfl

/-- A block begins a fresh load dwell on a standing carousel of a running line (R57). -/
theorem infeed_loads {k : Ticket} {l : List Ticket} (hs : s.line.state = .running) (hh : s.line.holds.any = false)
    (hc : s.car.state = .standing) (hw : s.car.worked = true) (hq : s.tickets.queue = k :: l) (hp : inPresent s = true)
    (h0 : clampAt s 0 = some c) (hb : bookIn s c = none) (hm : (clampRec s c).mark = .inUse) :
    BusWork (freshBegun s k c) (contactChange 0 true s) := by
  have hbook : (clampRec s c).book.isNone = true := Option.isNone_iff_eq_none.2 hb
  have hfresh : freshLoadCondition s = true := by simp [freshLoadCondition, hq, hp, h0, hbook, hm]
  have hjob : loadJob s c = some (freshJob s k c) := by simp [loadJob, hq, freshJob]
  have htest : freshTest s = beginDwell .freshLoad [freshJob s k c] s := by
    unfold freshTest
    simp only [hc, hw, hs, hh, hfresh, h0, Option.bind_some, hjob]
    rfl
  have hwork := handOver_busWork (.work (s.car.tag + 1) [(freshJob s k c).item] false) (freshBegun s k c)
  rw [← beginDwell_fresh] at hwork
  have hline : (beginDwell .freshLoad [freshJob s k c] s).line.state = .running := by
    rw [hwork.line]
    exact hs
  show BusWork _ (wakeTest (freshTest s))
  rw [htest, wakeTest_of_not (.inl (by rw [hline]; nofun))]
  exact hwork

/-! ## Holds (R90, R91, R107, R109, R111) -/

/-- The line with a hold taken in its state (R107). -/
structure Holding (h : Holds) (s t : State) : Prop where
  holds : (s.line.state = .running ∨ s.line.state = .draining) ∨ s.line.state = .held → t.line.holds = h
  moves : s.line.state = .running ∨ s.line.state = .draining →
    t.line.state = if s.car.state = .standing ∨ s.car.state = .unhomed then .held else s.line.state
  held  : s.line.state = .held → t.line.state = .held
  still : ¬(s.line.state = .running ∨ s.line.state = .draining) → s.line.state ≠ .held → t.line = s.line

theorem Holding.congr {h : Holds} (k : Holding h s t) (e : u.line = t.line) : Holding h s u :=
  ⟨fun x => by rw [e]; exact k.holds x, fun x => by rw [e]; exact k.moves x, fun x => by rw [e]; exact k.held x,
    fun x y => by rw [e]; exact k.still x y⟩

theorem lineHold_still (k : HoldCause) (h : ¬(s.line.state = .running ∨ s.line.state = .draining))
    (hh : s.line.state ≠ .held) : lineHold k s = s := by
  unfold lineHold
  cases hl : s.line.state with
  | running => exact absurd (.inl hl) h
  | draining => exact absurd (.inr hl) h
  | held => exact absurd hl hh
  | starting | parked | warming | standby | faulted => rfl

theorem lineHold_holding (k : HoldCause) (s : State) : Holding (s.line.holds.add k) s (lineHold k s)
    ∧ (lineHold k s).car = s.car := by
  by_cases hm : s.line.state = .running ∨ s.line.state = .draining
  · have hn : s.line.state ≠ .held := fun he => by rw [he] at hm; simp at hm
    by_cases hc : s.car.state = .standing ∨ s.car.state = .unhomed
    · rw [lineHold_atOnce k hm hc]
      refine ⟨⟨fun _ => ?_, fun _ => ?_, fun h => absurd h hn, fun h => absurd hm h⟩, enterHeld_car _⟩
      · rw [enterHeld_line]
      · rw [enterHeld_line, if_pos hc]
    · rw [lineHold_pending k hm hc]
      exact ⟨⟨fun _ => rfl, fun _ => (if_neg hc).symm, fun h => absurd h hn, fun h => absurd hm h⟩, rfl⟩
  · by_cases hh : s.line.state = .held
    · rw [lineHold_held k hh]
      exact ⟨⟨fun _ => rfl, fun h => absurd h hm, fun h => h, fun _ h => absurd hh h⟩, rfl⟩
    · rw [lineHold_still k hm hh]
      exact ⟨⟨fun h => absurd h (not_or.2 ⟨hm, hh⟩), fun h => absurd h hm, fun h => absurd h hh, fun _ _ => rfl⟩, rfl⟩

/-- A hold with its notice (R90, R109, R111). -/
structure HoldNoticed (k : HoldCause) (n : Notice) (x : BitVec 32) (s t : State) : Prop where
  holding : Holding (s.line.holds.add k) s t
  car     : t.car = s.car
  kept    : LineKept s t
  noticed : Noticed n x t

theorem lineHold_noticed (k : HoldCause) (n : Notice) (x : BitVec 32) (s : State) :
    HoldNoticed k n x s (raiseNotice n x (lineHold k s)) := by
  obtain ⟨hh, hc⟩ := lineHold_holding k s
  have hn := noticed_raiseNotice n x (lineHold k s)
  have hk := raiseNotice_kept n x (lineHold_kept k (.refl s))
  obtain ⟨y, hy⟩ := raiseNotice_host n x (lineHold k s)
  rw [hy] at hn hk ⊢
  exact ⟨hh.congr rfl, hc, hk, hn⟩

/-- The limit of a draw in flight replaced, as statement O47 has it (R91). -/
theorem drawLimit_eq (l : Limit) (s : State) : drawLimit l s = { s with car := { s.car with jobs := s.car.jobs.map fun j =>
    if j.item.station = .draw ∧ (j.status = .issued ∨ j.status = .busy) then { j with limit := l } else j } } := by
  have hf : (fun j : Job => if j.item.station == .draw then (if j.inFlight then { j with limit := l } else j) else j)
      = fun j => if j.item.station = .draw ∧ (j.status = .issued ∨ j.status = .busy) then { j with limit := l } else j := by
    funext j
    by_cases hs : j.item.station = .draw <;> simp [hs, Job.inFlight]
  unfold drawLimit updateJob
  rw [hf]

/-! ## A HALT that waits in HELD (R114) -/

theorem drainReleaseTest_waits (h : ¬(s.line.state = .held ∧ s.line.drainRelease = true ∧ resumeConditions s = true)) :
    drainReleaseTest s = s :=
  if_neg fun hx => h (by
    rw [Bool.and_eq_true, Bool.and_eq_true, beq_iff_eq] at hx
    exact ⟨hx.1.1, hx.1.2, hx.2⟩)

theorem drainReleaseTest_drains (h : s.line.state = .held ∧ s.line.drainRelease = true ∧ resumeConditions s = true) :
    drainReleaseTest s = tellCarousel (enterDraining s) := by
  obtain ⟨h₁, h₂, h₃⟩ := h
  exact if_pos (by rw [h₁, h₂, h₃]; rfl)

/-! ## The drop (R125, R126) -/

theorem clampRec_dropMoved (d : Fin 20) : clampRec (dropMoved c b s) d
    = if d = c then { clampRec s c with book := none } else clampRec s d := clampRec_setClamp c _ s d

/-- A drop confirmed while the dwell goes on, as statement O47 has it (R126). -/
structure Dropped (c : Fin 20) (b : Book) (s t : State) : Prop where
  emptied  : bookIn t c = none
  clamps   : ∀ d, d ≠ c → clampRec t d = clampRec s d
  watch    : t.dlv.dropWatch = .none
  cooling  : t.dlv.cooling = s.dlv.cooling ++ [{ b with coolEntry := some s.clock }]
  done     : t.dlv.done = s.dlv.done
  line     : t.line = s.line
  state    : t.car.state = .dwelling
  job      : ∀ j, jobAt s .release = some j → j.ended = false → overrunCount t .release = 0
    ∧ jobAt t .release = some { j with status := .done, limit := .suspended }

theorem dropEnded_other {k : Job} (hk : k ∈ s.car.jobs) (hne : k.item.station ≠ .release) : k ∈ (dropEnded s).car.jobs := by
  unfold dropEnded
  split_ifs
  · exact mem_endJob_of_ne .done hk hne
  · exact hk

theorem dropEnded_same (s : State) : (dropEnded s).line = s.line ∧ (dropEnded s).car.state = s.car.state
    ∧ (dropEnded s).car.clamps = s.car.clamps := by
  unfold dropEnded
  split_ifs <;> exact ⟨rfl, rfl, rfl⟩

theorem dropContact_drops {w : Time} (hw : s.dlv.dropWatch = .opened c w) (hb : bookIn s c = some b)
    (hd : s.car.state = .dwelling) (hgo : DwellGoesOn s .release) : Dropped c b s (dropContact s) := by
  obtain ⟨g, gc, x, hsend⟩ := dropConfirmed_of_dwelling hb hd
  obtain ⟨p, hp⟩ : ∃ p, p = dropMoved c b s := ⟨_, rfl⟩
  obtain ⟨t, ht⟩ : ∃ t, t = dropConfirmed c s := ⟨_, rfl⟩
  rw [← hp, ← ht] at hsend
  obtain ⟨hline, hstate, hclamps⟩ := dropEnded_same p
  have hwork := hsend.toBusWork
  obtain ⟨l, m, hcar, hsent⟩ := hwork.car
  have hopen : ∃ k ∈ t.car.jobs, k.ended = false := by
    obtain ⟨k, hk, hne, ho⟩ := hgo
    have hk' : k ∈ (dropEnded p).car.jobs := dropEnded_other (by rw [hp]; exact hk) hne
    obtain ⟨i, hi, -, -, he, -⟩ := jobSent_image hsent k hk'
    exact ⟨i, by rw [hcar]; exact hi, he.trans ho⟩
  have hcheck : dropContact s = t := by
    unfold dropContact
    rw [hw]
    simp only
    rw [← ht]
    exact dwellCheck_of_open hopen
  have hrec : ∀ d, clampRec t d = clampRec p d := fun d => by
    unfold clampRec
    rw [hcar]
    show (dropEnded p).car.clamps[d] = _
    rw [hclamps]
  have hjob : ∀ j, jobAt s .release = some j → jobAt p .release = some j := fun j hj => by rw [hp]; exact hj
  rw [hcheck]
  refine ⟨?_, fun d hd => ?_, ?_, ?_, ?_, ?_, ?_, fun j hj he => ?_⟩
  · rw [bookIn_eq, hrec, hp, clampRec_dropMoved, if_pos rfl]
  · rw [hrec, hp, clampRec_dropMoved, if_neg hd]
  · rw [hwork.dlv, hp]
    rfl
  · rw [hwork.dlv, hp]
    rfl
  · rw [hwork.dlv, hp]
    rfl
  · exact hwork.line.trans (hline.trans (by rw [hp]; rfl))
  · rw [hcar]
    exact hstate.trans (by rw [hp]; exact hd)
  · have hend := dropEnded_of_open (hjob j hj) he
    rw [hend] at hwork hcar
    refine ⟨?_, jobAt_sent hwork (jobAt_endJob (s := p) .done (hjob j hj)) nofun⟩
    unfold overrunCount
    rw [hcar]
    exact Vector.getElem_set_self _

theorem dropContact_early (h : ∀ c w, s.dlv.dropWatch ≠ .opened c w) : dropContact s
    = if releaseInFlight s = true then { s with dlv := { s.dlv with dropWatch := .early } } else s := by
  unfold dropContact
  cases hw : s.dlv.dropWatch with
  | opened c w => exact absurd hw (h c w)
  | none | early => rfl

/-! ## The pushes (R130) -/

theorem pushContact_other {g : Gate} (h : s.dlv.gate ≠ g) : pushContact g s = s :=
  if_neg (mt beq_iff_eq.1 h)

theorem pushContact_early {g : Gate} (h : s.dlv.gate = g) (hw : ∀ w, s.dlv.gateConfirm ≠ .window w) :
    pushContact g s = { s with dlv := { s.dlv with gateConfirm := .early } } := by
  unfold pushContact
  rw [if_pos (beq_iff_eq.2 h)]
  cases hc : s.dlv.gateConfirm with
  | window w => exact absurd hc (hw w)
  | none | early => rfl

theorem pushContact_window {g : Gate} {w : Time} (h : s.dlv.gate = g) (hw : s.dlv.gateConfirm = .window w) :
    pushContact g s = pushConfirmed s := by
  unfold pushContact
  rw [if_pos (beq_iff_eq.2 h), hw]

/-- The head leaves and the trimmer takes its book (R130, R139). -/
theorem pushConfirmed_takes (hg : s.dlv.gate = .infeedPush) (hq : s.dlv.cooling = b :: rest) : ∃ w x m y z,
    pushConfirmed s = headDecision (trimTake b w) ∧ (∀ n, present w n = present s n)
      ∧ w.dlv = { s.dlv with cooling := rest, headTimer := x, gate := .idle, gateConfirm := .none }
      ∧ w.trim = { s.trim with moveTime := m, settleTimer := y, stepTimer := z } := by
  obtain ⟨x, hx⟩ := removeHead_eq (s := s) (d := { s.dlv with gate := .idle, gateConfirm := .none }) rfl
  obtain ⟨-, -, m, y, z, htrim⟩ := roomGiven_kept s
  obtain ⟨l, hwork⟩ := roomGiven_work s
  obtain ⟨w, hw⟩ : ∃ w, w = { roomGiven s with
      dlv := { s.dlv with cooling := rest, headTimer := x, gate := .idle, gateConfirm := .none } } := ⟨_, rfl⟩
  have hrem : removeHead { s with dlv := { s.dlv with gate := .idle, gateConfirm := .none } } = w := by
    rw [hx, hw, hq]
    rfl
  refine ⟨w, x, m, y, z, ?_, fun n => ?_, by rw [hw], by rw [hw]; exact htrim⟩
  · unfold pushConfirmed
    rw [hg]
    simp only
    split
    · next b' _ hsome =>
      obtain ⟨rfl, -⟩ : b = b' ∧ _ := List.cons.inj (hq.symm.trans hsome)
      rw [hrem]
    · next hnone => exact absurd (hq.symm.trans hnone) (by simp)
  · rw [hw]
    exact hwork.present n

theorem trimRequest_dlv (k : ReqKind) (s : State) : (trimRequest k s).dlv = s.dlv := by
  unfold trimRequest
  split
  · exact (handRequest_busWork _ _ _).dlv
  · exact (trimFault_work _ _ _).dlv

theorem beginClamping_dlv (s : State) : (beginClamping s).dlv = s.dlv := trimRequest_dlv _ _

theorem positionDecision_dlv (s : State) : (positionDecision s).dlv = s.dlv := by
  unfold positionDecision
  split
  · rfl
  · exact (apply_ite State.dlv _ _ _).trans ((if_congr Iff.rfl (trimRequest_dlv _ _) (beginClamping_dlv _)).trans (ite_self _))

/-- The positioning decision has been made for the book inside (R140). -/
structure PositionDecided (b : Book) (s t : State) : Prop where
  state : t.trim.state ≠ .positioning
  dest  : t.trim.dest = s.trim.dest
  held  : ∃ x, t.trim.held = .inside { b with settleTime := x }

theorem positionDecision_decided (hb : s.trim.held = .inside b) (hp : present s .trimmer = true) :
    PositionDecided b s (positionDecision s) := by
  by_cases h : ∀ a, Rests (axisOf s.trim a) (bookTarget b a)
  · obtain ⟨v, hv⟩ : ∃ v, v = { s with trim := { s.trim with moveTime := none } } := ⟨_, rfl⟩
    have hvt : v.trim = { s.trim with moveTime := none } := by rw [hv]
    rw [positionDecision_rests hb h, ← hv]
    obtain ⟨-, -, y, ht⟩ := beginClamping_clamping (s := v) (by rw [hv]; exact hp)
    refine ⟨by rw [ht]; nofun, by rw [ht, hvt], some (trimSettle v.trim), ?_⟩
    rw [ht, hvt]
    show s.trim.held.map _ = _
    rw [hb]
    rfl
  · obtain ⟨v, hv⟩ : ∃ v, v = positioned b s := ⟨_, rfl⟩
    rw [positionDecision_moves hb hp (not_forall.1 h), ← hv]
    have hw := handRequest_busWork .trimmer (setAxesFor b s.trim) v
    obtain ⟨_, _, _, ht⟩ := hw.trim
    have hvt : v.trim = (positioned b s).trim := by rw [hv]
    refine ⟨?_, ?_, b.settleTime, ?_⟩
    all_goals rw [ht, hvt]
    · nofun
    · rfl
    · exact hb

/-- The book the trimmer has taken (R139). -/
structure BookTaken (b : Book) (s t : State) : Prop where
  dlv   : t.dlv = s.dlv
  lost  : s.trim.state = .faulted → t.trim.state = .faulted
    ∧ ∃ b', t.trim.held = .inside b' ∧ b'.ticket = b.ticket ∧ b'.reason = some (b.reason.getD .fault)
  taken : s.trim.state ≠ .faulted → present s .trimmer = true →
    t.trim.dest = (if b.ticket.sample then .sample else .good) ∧ (t.trim.state = .positioning ↔ s.trim.guardPause = true)
    ∧ ∃ b', t.trim.held = .inside b' ∧ b'.ticket = b.ticket ∧ b'.reason = b.reason ∧ b'.revibrate = some 0

/-- The book inside the trimmer, before the positioning decision (R139). -/
def takenIn (b : Book) (s : State) : State := { s with trim := { s.trim with
  state := .positioning
  held := .inside { b with revibrate := some 0 }
  dest := if b.ticket.sample then .sample else .good
  moveTime := none
  front := { s.trim.front with revibrate := 0 }
  foot := { s.trim.foot with revibrate := 0 }
  head := { s.trim.head with revibrate := 0 } } }

theorem trimTake_faulted (h : s.trim.state = .faulted) : trimTake b s = { s with trim := { s.trim with
    held := .inside { b with revibrate := some 0, reason := some (b.reason.getD .fault) } } } := by
  have he : trimTake b s = { s with trim := { s.trim with
      held := .inside (({ b with revibrate := some 0 } : Book).withReason .fault) } } := if_pos (beq_iff_eq.2 h)
  rw [he, withReason_eq]

theorem trimTake_free (h : s.trim.state ≠ .faulted) :
    trimTake b s = if s.trim.guardPause then takenIn b s else positionDecision (takenIn b s) :=
  if_neg (mt beq_iff_eq.1 h)

theorem trimTake_taken (b : Book) (s : State) : BookTaken b s (trimTake b s) := by
  by_cases hf : s.trim.state = .faulted
  · rw [trimTake_faulted hf]
    exact ⟨rfl, fun _ => ⟨hf, _, rfl, rfl, rfl⟩, fun h => absurd hf h⟩
  · rw [trimTake_free hf]
    obtain ⟨u, hu⟩ : ∃ u, u = takenIn b s := ⟨_, rfl⟩
    have hud : u.dlv = s.dlv := by rw [hu]; rfl
    have hut : u.trim = (takenIn b s).trim := by rw [hu]
    rw [← hu]
    cases hg : s.trim.guardPause with
    | true =>
      refine ⟨hud, fun h => absurd h hf, fun _ _ => ⟨?_, ?_, { b with revibrate := some 0 }, ?_, rfl, rfl, rfl⟩⟩
      · exact (congrArg Trimmer.dest hut).trans rfl
      · exact ⟨fun _ => hg, fun _ => (congrArg Trimmer.state hut).trans rfl⟩
      · exact (congrArg Trimmer.held hut).trans rfl
    | false =>
      refine ⟨(positionDecision_dlv u).trans hud, fun h => absurd h hf, fun _ hp => ?_⟩
      obtain ⟨state, dest, x, held⟩ := positionDecision_decided (s := u) (b := { b with revibrate := some 0 })
        (by rw [hut]; rfl) (by rw [hu]; exact hp)
      exact ⟨dest.trans (by rw [hut]; rfl), ⟨fun h => absurd h state, fun h => absurd (hg.symm.trans h) Bool.false_ne_true⟩, _, held, rfl, rfl, rfl⟩

/-- The infeed push confirmed, as statement O47 has it (R130, R139). -/
structure InfeedConfirmed (b : Book) (rest : List Book) (s t : State) : Prop where
  cooling : t.dlv.cooling = rest
  done    : t.dlv.done = s.dlv.done
  lost    : s.trim.state = .faulted → t.trim.state = .faulted
    ∧ ∃ b', t.trim.held = .inside b' ∧ b'.ticket = b.ticket ∧ b'.reason = some (b.reason.getD .fault)
  taken   : s.trim.state ≠ .faulted → present s .trimmer = true →
    t.trim.dest = (if b.ticket.sample then .sample else .good) ∧ (t.trim.state = .positioning ↔ s.trim.guardPause = true)
    ∧ ∃ b', t.trim.held = .inside b' ∧ b'.ticket = b.ticket ∧ b'.reason = b.reason ∧ b'.revibrate = some 0

theorem pushConfirmed_confirmed (hg : s.dlv.gate = .infeedPush) (hq : s.dlv.cooling = b :: rest) :
    InfeedConfirmed b rest s (pushConfirmed s) := by
  obtain ⟨w, x, m, y, z, he, hp, hd, ht⟩ := pushConfirmed_takes hg hq
  obtain ⟨dlv, lost, taken⟩ := trimTake_taken b w
  have hk := headDecision_kept (LineKept.refl (trimTake b w))
  obtain ⟨_, _, _, htrim⟩ := headDecision_trim (trimTake b w)
  have hws : w.trim.state = s.trim.state := by rw [ht]
  have hwg : w.trim.guardPause = s.trim.guardPause := by rw [ht]
  rw [hws] at lost taken
  rw [hwg, hp] at taken
  rw [he]
  refine ⟨hk.books.cooling.trans (by rw [dlv, hd]), hk.books.done.trans (by rw [dlv, hd]), fun h => ?_, fun h h' => ?_⟩
  · rw [htrim]
    exact lost h
  · rw [htrim]
    exact taken h h'

/-! ## The reject push (R130, R132, R134) -/

theorem nextReport_ready {n : Nat} {h x : HostLink} {f : HostFrame} (hr : h.doneReady = some n)
    (hn : nextReport h = some (f, x)) : x.doneReady = some n ∨ f = ⟨0x42, 0, leBytes 1 n⟩ := by
  unfold nextReport at hn
  split at hn
  · cases hn
    exact .inl hr
  · split at hn
    · cases hn
      exact .inl hr
    · rw [hr] at hn
      cases hn
      exact .inr rfl

theorem nextFrame_ready {n : Nat} {h x : HostLink} {f : HostFrame} (hr : h.doneReady = some n)
    (hn : nextFrame h = some (f, x)) : x.doneReady = some n ∨ f = ⟨0x42, 0, leBytes 1 n⟩ := by
  unfold nextFrame at hn
  split at hn
  · cases hn
    exact .inl hr
  · exact nextReport_ready hr hn
  · split at hn
    · cases hn
      exact .inl hr
    · exact nextReport_ready hr hn

/-- A DONE_READY that is raised stays in its latch until its frame begins. -/
theorem txPump_readyReported {n : Nat} (h : s.host.doneReady = some n) : ReadyReported n (txPump s) := by
  unfold txPump
  split
  · next f x _ hn =>
    rcases nextFrame_ready h hn with hx | rfl
    · exact .inl hx
    · exact .inr rfl
  · exact .inl h

theorem writeDone_ready {o : BookOutcome} (h : s.dlv.done.length = 0 ∨ s.dlv.done.length = 23) :
    ReadyReported (s.dlv.done.length + 1) (writeDone b o s) := by
  have hn : s.dlv.done.length + 1 = 1 ∨ s.dlv.done.length + 1 = 24 := by omega
  unfold writeDone
  simp only
  rw [if_pos hn]
  exact txPump_readyReported rfl

/-- The reject push confirmed with room in the done list, as statement O47 has it (R130, R132, R134). -/
structure RejectConfirmed (b : Book) (rest : List Book) (s t : State) : Prop where
  kept    : LineKept { s with dlv := t.dlv } t
  cooling : t.dlv.cooling = rest
  done    : t.dlv.done = s.dlv.done ++ [{ b with outTime := some s.clock, outcome := some .rejected }]
  ready   : s.dlv.done.length = 0 ∨ s.dlv.done.length = 23 → ReadyReported (s.dlv.done.length + 1) t

theorem pushConfirmed_rejected (hg : s.dlv.gate = .rejectPush) (hr : s.dlv.done.length < 32)
    (hq : s.dlv.cooling = b :: rest) : RejectConfirmed b rest s (pushConfirmed s) := by
  obtain ⟨kept, cooling, done⟩ := pushConfirmed_reject hg hr hq
  refine ⟨kept, cooling, done, fun hn => ?_⟩
  obtain ⟨u, hu⟩ : ∃ u, u = { s with dlv := { s.dlv with gate := .waitingRoom, gateConfirm := .none } } := ⟨_, rfl⟩
  have hd : u.dlv = { s.dlv with gate := .waitingRoom, gateConfirm := .none } := by rw [hu]
  have hroom : doneRoom u = true := decide_eq_true (by rw [hd]; exact hr)
  have hconf : pushConfirmed s = headDecision (writeHolder .cooling u) := by
    rw [hu] at hroom ⊢
    unfold pushConfirmed
    simp only [hg, writeOrWait, hroom, if_true]
  have hhead : (removeHead u).dlv.done = s.dlv.done := by
    obtain ⟨x, hx⟩ := removeHead_eq (s := u) (d := u.dlv) rfl
    rw [show removeHead u = _ from hx, hd]
  have hwrite : (writeHolder .cooling u).host = (writeDone b .rejected (removeHead u)).host := by
    have hcool : u.dlv.cooling = b :: rest := by rw [hd]; exact hq
    unfold writeHolder
    simp only [hcool]
  have hready := writeDone_ready (s := removeHead u) (b := b) (o := .rejected) (by rw [hhead]; exact hn)
  obtain ⟨g, c, hwork⟩ := headDecision_busWork (writeHolder .cooling u)
  rw [hhead] at hready
  unfold ReadyReported at hready ⊢
  rw [hconf, hwork.host]
  show (writeHolder .cooling u).host.doneReady = _ ∨ (writeHolder .cooling u).host.tx = _
  rw [hwrite]
  exact hready

theorem pushConfirmed_full (hg : s.dlv.gate = .rejectPush) (hr : 32 ≤ s.dlv.done.length) : pushConfirmed s = { s with
    dlv := { s.dlv with gate := .waitingRoom, gateConfirm := .none, waiters := s.dlv.waiters ++ [.cooling] } } := by
  have hroom : doneRoom { s with dlv := { s.dlv with gate := .waitingRoom, gateConfirm := .none } } = false :=
    decide_eq_false (Nat.not_lt.mpr hr)
  unfold pushConfirmed
  simp only [hg, writeOrWait, hroom]
  exact headDecision_waits (.inl nofun)

/-! ## The exits (R146) -/

theorem exitContact_other {e : Exit} (h : s.trim.dest ≠ e) : exitContact e s = s := if_neg (mt beq_iff_eq.1 h)

theorem exitContact_early {e : Exit} (h : s.trim.dest = e) (hw : ∀ w, s.trim.exitConfirm ≠ .window w) : exitContact e s
    = if ejectInFlight s = true then { s with trim := { s.trim with exitConfirm := .early } } else s := by
  unfold exitContact
  rw [if_pos (beq_iff_eq.2 h)]
  cases hc : s.trim.exitConfirm with
  | window w => exact absurd hc (hw w)
  | none | early => rfl

theorem exitContact_window {e : Exit} {w : Time} (h : s.trim.dest = e) (hw : s.trim.exitConfirm = .window w) :
    exitContact e s = exitConfirmed s := by
  unfold exitContact
  rw [if_pos (beq_iff_eq.2 h), hw]

theorem exitConfirmed_full (hs : s.trim.state = .eject) (hr : 32 ≤ s.dlv.done.length) : exitConfirmed s = { s with
    trim := { s.trim with exitConfirm := .none }, dlv := { s.dlv with waiters := s.dlv.waiters ++ [.trimmer] } } := by
  have hout := trimOut_full (s := { s with trim := { s.trim with exitConfirm := .none } }) hr
  unfold exitConfirmed
  rw [hout]
  refine if_neg fun h => ?_
  have hidle : s.trim.state = .idle := beq_iff_eq.1 h
  rw [hs] at hidle
  cases hidle

/-- The book has left by its exit, as statement O47 has it (R146). -/
structure ExitTaken (b : Book) (o : BookOutcome) (s t : State) : Prop extends WrittenOut b o s t where
  idle    : t.trim.state = .idle
  confirm : t.trim.exitConfirm = .none

theorem exitConfirmed_written (hh : s.trim.held = .out b) (hr : s.dlv.done.length < 32) (hs : s.trim.state = .eject) :
    ExitTaken b (exitOutcome s.trim.dest) s (exitConfirmed s) := by
  obtain ⟨u, hu⟩ : ∃ u, u = { s with trim := { s.trim with exitConfirm := .none } } := ⟨_, rfl⟩
  have hut : u.trim = { s.trim with exitConfirm := .none } := by rw [hu]
  have hud : u.dlv = s.dlv := by rw [hu]
  have huc : u.clock = s.clock := by rw [hu]
  obtain ⟨⟨held, done⟩, idle⟩ := trimOut_idle (s := u) (by rw [hut]; exact hh) (by rw [hud]; exact hr) (by rw [hut]; exact hs)
  have hconf : exitConfirmed s = afterTrimmer (trimOut u) := by rw [hu]; rfl
  rw [hconf]
  refine ⟨⟨held, done.trans (by rw [hud, hut, huc])⟩, idle, ?_⟩
  obtain ⟨y, hy⟩ := trimOut_room (s := u) (by rw [hut]; exact hh) (by rw [hud]; exact hr)
  have hafter : ∀ x : State, (afterTrimmer x).trim.exitConfirm = x.trim.exitConfirm := fun x => by
    unfold afterTrimmer
    split
    · obtain ⟨_, _, _, ht⟩ := headDecision_trim x
      rw [ht]
    · rfl
  rw [hafter, hy, hut]

end

/-- Frames sent change no item of a job list. -/
theorem jobSent_items {l l' : List Job} (h : List.Forall₂ JobSent l l') : l'.map (·.item) = l.map (·.item) := by
  induction h with
  | nil => rfl
  | cons hab _ ih => rw [List.map_cons, List.map_cons, hab.1, ih]

/-- The contacts of the carousel guards (R109, R114). -/
theorem contactChange_guard (n : Nat) (h : 16 ≤ n ∧ n ≤ 21) (closing : Bool) (s : State) :
    contactChange n closing s = if closing then drainReleaseTest s else guardOpened (Fin.ofNat 64 n) s := by
  obtain ⟨hl, hu⟩ := h
  interval_cases n <;> rfl

/-- Settles O47: each owner's part of one change of a contact. -/
theorem ownersTakeContactChanges : Obligations.OwnersTakeContactChanges := by
  intro r i closing s h u
  have hexec : exec (.scanEnd r) s = .next (contactChange i.val closing u) := exec_handsChange h
  have hread : (u.scan.contacts[i].closed && !u.scan.contacts[i].uncertain) = closing := h.reading
  obtain ⟨x, hx⟩ : ∃ x, u = { clearOut s with scan := x } := scanned_eq r s
  clear_value u
  intro written takes moves stands holding limited released
  have huk : LineKept { s with scan := u.scan } u := by
    rw [hx]
    exact clearOut_kept { s with scan := x }
  have hscan : ∀ {t}, exec (.scanEnd r) s = .next t → t.scan = u.scan := fun he => by
    have ht := Host.Outcome.next.inj (hexec.symm.trans he)
    rw [← ht]
    exact (contactChange_tables i.val closing (TablesKept.refl u)).scan
  have htakes : ∀ {p : State → Prop} {t}, exec (.scanEnd r) s = .next t → p t → takes p := fun he hp => ⟨_, he, hscan he, hp⟩
  have hline : u.line = s.line := by rw [hx]; rfl
  have hcar : u.car = s.car := by rw [hx]; rfl
  have hdlv : u.dlv = s.dlv := by rw [hx]; rfl
  have htrim : u.trim = s.trim := by rw [hx]; rfl
  have htickets : u.tickets = s.tickets := by rw [hx]; rfl
  have hglue : u.glue = s.glue := by rw [hx]; rfl
  have hsettings : u.settings = s.settings := by rw [hx]; rfl
  have hclock : u.clock = s.clock := by rw [hx]; rfl
  have hbus : u.bus = s.bus := by rw [hx]; rfl
  have hholding : ∀ {k n y t}, HoldNoticed k n y u t → holding (s.line.holds.add k) t
      ∧ LineKept { s with scan := u.scan } t ∧ t.car = s.car := fun hk => by
    obtain ⟨⟨holds, moved, held, still⟩, car, kept, -⟩ := hk
    rw [hline] at holds moved held still
    rw [hcar] at moved car
    exact ⟨⟨holds, moved, held, still⟩, huk.trans kept, car⟩
  have hreleased : ∀ v : State, v.line = s.line → resumeConditions v = resumeConditions u → LineKept u v →
      (EntryClear u → EntryClear v) → v.bus = u.bus →
      exec (.scanEnd r) s = .next (drainReleaseTest v) → released v := by
    intro v hvl hvr hvk hve hvb he
    refine ⟨fun hn => ?_, fun hd hc hl hp => ?_⟩
    · rw [he, drainReleaseTest_waits (by rw [hvl, hvr]; exact hn)]
    · rw [drainReleaseTest_drains (by rw [hvl, hvr]; exact hd)] at he
      have hload : anyLoaded v = true := (anyLoaded_of_kept (huk.trans hvk).clamps).trans hl
      have hpres : present v .drive = true := (present_of_bus (hvb.trans hbus) _).trans hp
      obtain ⟨kept, line, -⟩ := enterDraining_drainsOn_of_clear (hve hc) hload hpres
      refine htakes he ⟨by rw [line], by rw [line]; rfl, by rw [line]; rfl, (huk.trans hvk).trans kept⟩
  have hclampAt : ∀ p, clampAt u p = clampAt s p := fun p => by
    unfold clampAt
    rw [hcar]
  have hrec : ∀ d, clampRec u d = clampRec s d := fun d => by
    unfold clampRec
    rw [hcar]
  have hbook : ∀ d, bookIn u d = bookIn s d := fun d => congrArg Clamp.book (hrec d)
  have hpres : ∀ n, present u n = present s n := fun n => present_of_bus hbus n
  refine ⟨?infeed, ?drop, ?push, ?rejectEarly, ?reject, ?exit, ?exitEarly, ?empty, ?filled, ?jam, ?closed, ?low, ?coverJam,
    ?opened, ?paused, ?idle, ?trimJam⟩
  case infeed =>
    rintro rfl rfl
    have he : exec (.scanEnd r) s = .next (contactChange 0 true u) := hexec
    have hp : inPresent u = true := hread
    refine ⟨fun hq => ?_, fun hs hq hc hu => ?_, fun k rest c hs hh hc hw hq h0 hb hm => ?_⟩
    · rw [he, infeed_empty (by rw [htickets]; exact hq)]
    · rw [infeed_wakes (s := u) (by rw [hline]; exact hs) (by rw [htickets]; exact hq) hp (by rw [hglue]; exact hc)
        (by rw [hcar]; exact hu)] at he
      have hl := warmed_line u
      refine htakes he ⟨by rw [hl], by rw [hl, ← hclock]; rfl, by rw [hl]; rfl, by rw [hl]; rfl, ?_, ?_⟩
      · unfold warmed
        rw [enterState_glue, ← hsettings]
        rfl
      · unfold warmed
        rw [enterState_car]
        exact hcar
    · have hwork := infeed_loads (s := u) (by rw [hline]; exact hs) (by rw [hline]; exact hh) (by rw [hcar]; exact hc)
        (by rw [hcar]; exact hw) (by rw [htickets]; exact hq) hp ((hclampAt 0).trans h0) ((hbook c).trans hb)
        (by rw [hrec]; exact hm)
      obtain ⟨l, m, hc', hsent⟩ := hwork.car
      have hitems : l.map (·.item) = [(freshJob u k c).item] := jobSent_items hsent
      refine htakes he ⟨by rw [hc']; rfl, by rw [hc']; rfl, ?_, ?_, ?_, ?_, ?_⟩
      · rw [hc', ← hcar]
        rfl
      · rw [hc', ← hsettings]
        exact hitems
      · rw [hwork.tickets, ← htickets]
        rfl
      · rw [hwork.line, ← hline]
        rfl
      · rw [hc', ← hcar]
        rfl
  case drop =>
    rintro rfl rfl
    have he : exec (.scanEnd r) s = .next (dropContact u) := hexec
    refine ⟨fun c w b hw hb hd hgo => ?_, fun hw => ?_⟩
    · obtain ⟨emptied, clamps, watch, cooling, done, line, state, job⟩ := dropContact_drops (s := u) (by rw [hdlv]; exact hw)
        ((hbook c).trans hb) (by rw [hcar]; exact hd) (by rw [hx]; exact hgo)
      refine htakes he ⟨emptied, fun d hd => (clamps d hd).trans (hrec d), watch, ?_, done.trans (by rw [hdlv]), line.trans hline,
        state, fun j hj => job j (by rw [hx]; exact hj)⟩
      rw [cooling, hdlv, hclock]
    · have hr : releaseInFlight u = releaseInFlight s := by rw [hx]; rfl
      rw [he, dropContact_early (by rw [hdlv]; exact hw), hr, hdlv]
  case push =>
    rintro rfl rfl
    have he : exec (.scanEnd r) s = .next (pushContact .infeedPush u) := hexec
    refine ⟨fun hg => ?_, fun hg hw => ?_, fun w b rest hg hw hq => ?_⟩
    · rw [he, pushContact_other (by rw [hdlv]; exact hg)]
    · rw [he, pushContact_early (by rw [hdlv]; exact hg) (by rw [hdlv]; exact hw), hdlv]
    · rw [pushContact_window (s := u) (by rw [hdlv]; exact hg) (by rw [hdlv]; exact hw)] at he
      obtain ⟨cooling, done, lost, taken⟩ := pushConfirmed_confirmed (s := u) (by rw [hdlv]; exact hg) (by rw [hdlv]; exact hq)
      rw [htrim] at lost taken
      rw [hpres] at taken
      exact htakes he ⟨cooling, done.trans (by rw [hdlv]), lost, taken⟩
  case rejectEarly =>
    rintro rfl rfl
    have he : exec (.scanEnd r) s = .next (pushContact .rejectPush u) := hexec
    refine ⟨fun hg => ?_, fun hg hw => ?_⟩
    · rw [he, pushContact_other (by rw [hdlv]; exact hg)]
    · rw [he, pushContact_early (by rw [hdlv]; exact hg) (by rw [hdlv]; exact hw), hdlv]
  case reject =>
    rintro rfl rfl w b rest hg hw hq
    have he : exec (.scanEnd r) s = .next (pushContact .rejectPush u) := hexec
    rw [pushContact_window (s := u) (by rw [hdlv]; exact hg) (by rw [hdlv]; exact hw)] at he
    refine ⟨fun hr => ?_, fun hr => ?_⟩
    · obtain ⟨kept, cooling, done, ready⟩ := pushConfirmed_rejected (s := u) (by rw [hdlv]; exact hg)
        (by rw [hdlv]; exact hr) (by rw [hdlv]; exact hq)
      rw [hdlv] at done ready
      rw [hclock] at done
      obtain ⟨t, ht⟩ : ∃ t, t = pushConfirmed u := ⟨_, rfl⟩
      rw [← ht] at kept cooling done ready he
      refine htakes he ⟨cooling, ?_, ?_, ready⟩
      · have hs : LineKept { s with scan := u.scan, dlv := t.dlv } { u with dlv := t.dlv } := by
          rw [hx]
          exact clearOut_kept { s with scan := x, dlv := t.dlv }
        exact hs.trans kept
      · rw [done]
        show _ = s.dlv.done ++ [{ b with outTime := some s.clock, outcome := some (if b.reason = none then _ else _) }]
        rw [ite_self]
    · rw [pushConfirmed_full (s := u) (by rw [hdlv]; exact hg) (by rw [hdlv]; exact hr)] at he
      exact htakes he (by rw [hdlv])
  case exit =>
    intro hi hc hd w b hw hh hs
    obtain ⟨e, hedef⟩ : ∃ e : Exit, e = if i = 4 then .good else .sample := ⟨_, rfl⟩
    have hout : exitOutcome e = if i = 4 then .good else .sample := by
      rw [hedef, apply_ite exitOutcome]
      rfl
    have he : exec (.scanEnd r) s = .next (exitContact e u) := by
      subst hc hedef
      rcases hi with rfl | rfl <;> exact hexec
    rw [← hedef] at hd
    rw [exitContact_window (s := u) (by rw [htrim]; exact hd) (by rw [htrim]; exact hw)] at he
    refine ⟨fun hr => ?_, fun hr => ?_⟩
    · obtain ⟨⟨held, done⟩, idle, confirm⟩ := exitConfirmed_written (s := u) (by rw [htrim]; exact hh) (by rw [hdlv]; exact hr)
        (by rw [htrim]; exact hs)
      refine htakes he ⟨held, idle, confirm, ?_⟩
      rw [done, hdlv, htrim, hd, hout, hclock]
      rfl
    · rw [exitConfirmed_full (s := u) (by rw [htrim]; exact hs) (by rw [hdlv]; exact hr)] at he
      exact htakes he ⟨by rw [htrim], by rw [hdlv]⟩
  case exitEarly =>
    intro hi hc here
    have he : exec (.scanEnd r) s = .next (exitContact (if i = 4 then .good else .sample) u) := by
      subst hc
      rcases hi with rfl | rfl <;> exact hexec
    have hf : ejectInFlight u = ejectInFlight s := by rw [hx]; rfl
    refine ⟨fun hd => ?_, fun hd hw => ?_⟩
    · rw [he, exitContact_other (by rw [htrim]; exact hd)]
    · rw [he, exitContact_early (by rw [htrim]; exact hd) (by rw [htrim]; exact hw), hf, htrim]
  case empty =>
    rintro rfl rfl
    have he : exec (.scanEnd r) s
        = .next (drawLimit .suspended (raiseNotice .coverEmpty 4 (lineHold .coverEmpty u))) := hexec
    have hn := lineHold_noticed .coverEmpty .coverEmpty 4 u
    obtain ⟨hh, hk, hc⟩ := hholding hn
    obtain ⟨v, hv⟩ : ∃ v, v = raiseNotice .coverEmpty 4 (lineHold .coverEmpty u) := ⟨_, rfl⟩
    rw [← hv] at he hn hh hk hc
    have hkd : LineKept v (drawLimit .suspended v) := updateJob_kept _ _ (.refl v)
    rw [drawLimit_eq, hc] at he
    rw [drawLimit_eq, hc] at hkd
    exact htakes he ⟨noticed_of_host hn.noticed rfl, rfl, hh, hk.trans hkd⟩
  case filled =>
    rintro rfl rfl
    have he : exec (.scanEnd r) s = .next (drainReleaseTest (drawLimit (.running s.clock) u)) := by
      rw [← hclock]
      exact hexec
    have hkd : LineKept u (drawLimit (.running s.clock) u) := updateJob_kept _ _ (.refl u)
    rw [drawLimit_eq, hcar] at he hkd
    exact hreleased (limited (.running s.clock)) hline rfl hkd (fun k => ⟨k.guards, k.covers, k.band, k.heat⟩) rfl he
  case jam =>
    rintro rfl rfl
    have he : exec (.scanEnd r) s = .next (raiseNotice .infeedSequence 24 (lineHold .infeedSequence u)) := hexec
    have hn := lineHold_noticed .infeedSequence .infeedSequence 24 u
    obtain ⟨hh, hk, hc⟩ := hholding hn
    exact htakes he ⟨hn.noticed, hc, hh, hk⟩
  case closed =>
    rintro hl hu rfl
    have he := hexec.trans (congrArg _ (contactChange_guard i.val ⟨Fin.le_def.1 hl, Fin.le_def.1 hu⟩ true u))
    exact hreleased u hline rfl (.refl u) id rfl he
  case low =>
    rintro rfl rfl
    have he : exec (.scanEnd r) s = .next (raiseNotice .coverLow 4 u) := hexec
    exact htakes he ⟨noticed_raiseNotice _ _ _, raiseNotice_host _ _ _⟩
  case coverJam =>
    rintro rfl rfl
    have he : exec (.scanEnd r) s = .next (raiseNotice .coverJam 4 (lineFault .coverJam u)) := hexec
    have hk := raiseNotice_kept .coverJam 4 (lineFault_kept .coverJam (LineKept.refl u))
    have hn := noticed_raiseNotice .coverJam 4 (lineFault .coverJam u)
    obtain ⟨y, hy⟩ := raiseNotice_host .coverJam 4 (lineFault .coverJam u)
    have hf := lineFault_faulted .coverJam u
    rw [hy] at he hk hn
    exact htakes he ⟨hn, huk.trans hk, hf.congr hline.symm rfl rfl rfl⟩
  case opened =>
    rintro hl hu rfl
    have hi : Fin.ofNat 64 i.val = i := Fin.ext (Nat.mod_eq_of_lt i.isLt)
    have he := hexec.trans (congrArg _ ((contactChange_guard i.val ⟨Fin.le_def.1 hl, Fin.le_def.1 hu⟩ false u).trans
      (if_neg Bool.false_ne_true)))
    rw [hi] at he
    refine ⟨fun hr hd hh => ?_, fun hm => ?_⟩
    · have hno : ¬(moving u || u.line.state == .held) = true := by
        rw [hline.symm] at hr hd hh
        simp [moving, hr, hd, hh]
      rw [he]
      exact congrArg _ (if_neg hno)
    · have hyes : (moving u || u.line.state == .held) = true := by
        unfold moving
        rw [hline]
        rcases hm with (hm | hm) | hm <;> rw [hm] <;> rfl
      have hgo : guardOpened i u = raiseNotice .guardOpen (BitVec.ofNat 32 i.val) (lineHold .guardOpen u) := if_pos hyes
      rw [hgo] at he
      have hn := lineHold_noticed .guardOpen .guardOpen (BitVec.ofNat 32 i.val) u
      obtain ⟨hh, hk, hc⟩ := hholding hn
      exact htakes he ⟨hn.noticed, hc, hh, hk⟩
  case paused =>
    rintro rfl rfl
    have he : exec (.scanEnd r) s = .next { u with trim := { u.trim with guardPause := true } } := hexec
    rw [he, htrim]
  case idle =>
    rintro rfl rfl hs
    have he : exec (.scanEnd r) s = .next (guardResumed u) := hexec
    have hgo : guardResumed u = unpaused u := by
      rw [guardResumed_eq]
      rcases hs with hs | hs <;> rw [show (unpaused u).trim.state = _ from (congrArg Trimmer.state htrim).trans hs]
    rw [he, hgo, unpaused, htrim]
  case trimJam =>
    rintro rfl rfl
    have he : exec (.scanEnd r) s = .next (raiseNotice .trimmerFault 25 (trimFault .trimmerFault true u)) := hexec
    have hn := noticed_raiseNotice .trimmerFault 25 (trimFault .trimmerFault true u)
    obtain ⟨y, hy⟩ := raiseNotice_host .trimmerFault 25 (trimFault .trimmerFault true u)
    have hw := trimFault_work .trimmerFault true u
    rw [hy] at he hn
    exact htakes he ⟨hn, hw.faulted, trimFault_cause _ _ _, hw.line.trans hline⟩

end Sys2Proof.Machine

/-! PROOFS. The end of a dwell and the index decision (R53, R54, R105 to R107, R114 to R116). -/

namespace Sys2Proof.Machine

section
variable {s t u w x y : State} {c d : Fin 20} {b : Book} {again : State → State} {l : Line}

/-! ## What the end of a dwell leaves alone (R53) -/

/-- Clamps, queue and books stand, a full dwell has set the worked mark, and a book dropped since then counts with them. -/
structure DwellOver (w t : State) : Prop where
  tables : TablesKept w t
  queue  : t.tickets.queue = w.tickets.queue
  clamps : t.car.clamps = w.car.clamps
  books  : DeliveryKept w t
  worked : t.car.worked = (w.car.worked || w.car.dwell == .full)
  phase  : t.car.phase = w.car.phase
  known  : t.car.phaseKnown = w.car.phaseKnown
  drive  : present t .drive = present w .drive

theorem DwellOver.book (h : DwellOver w t) (d : Fin 20) : bookIn t d = bookIn w d := by
  unfold bookIn
  rw [h.clamps]

theorem DwellOver.record (h : DwellOver w t) (d : Fin 20) : clampRec t d = clampRec w d := by
  unfold clampRec
  rw [h.clamps]

theorem DwellOver.clampAt (h : DwellOver w t) (p : Fin 20) : clampAt t p = Machine.clampAt w p := by
  unfold Machine.clampAt
  rw [h.phase, h.known]

theorem DwellOver.loaded (h : DwellOver w t) : anyLoaded t = anyLoaded w := anyLoaded_of_clamps h.clamps

theorem DwellOver.wake (h : DwellOver w t) : wakeCondition t = wakeCondition w := by
  unfold wakeCondition inPresent contactClosed
  rw [h.queue, h.tables.scan]

theorem DwellOver.next (h : DwellOver w t) (ht : TablesKept t u) (hq : u.tickets.queue = t.tickets.queue)
    (hd : DeliveryKept t u) (hc : ∃ z j k n m g, u.car = { t.car with
      state := z, jobs := j, dwell := k, tag := n, moveTimer := m, diverts := g })
    (hp : present u .drive = present t .drive) : DwellOver w u := by
  obtain ⟨z, j, k, n, m, g, hc⟩ := hc
  exact ⟨h.tables.trans ht, hq.trans h.queue, by rw [hc]; exact h.clamps, h.books.trans hd, by rw [hc]; exact h.worked,
    by rw [hc]; exact h.phase, by rw [hc]; exact h.known, hp.trans h.drive⟩

theorem DwellOver.busWork (h : DwellOver w t) (k : BusWork t u) : DwellOver w u := by
  obtain ⟨j, m, hc, -⟩ := k.car
  exact h.next k.tables (by rw [k.tickets]) k.lineKept.books ⟨t.car.state, j, t.car.dwell, t.car.tag, m, t.car.diverts, hc⟩
    (k.present _)

theorem DwellOver.lineMoved (h : DwellOver w t) (k : LineMoved t u) : DwellOver w u := by
  obtain ⟨_, _, _, _, _, _, rfl⟩ := k
  exact h.next ⟨rfl, rfl, rfl, rfl, rfl, rfl, rfl, rfl⟩ rfl ⟨rfl, rfl, rfl, rfl, rfl, rfl⟩ ⟨_, _, _, _, _, _, rfl⟩ rfl

theorem DwellOver.carState (h : DwellOver w t) (z : CarState) : DwellOver w (setCarState z t) :=
  h.next ⟨rfl, rfl, rfl, rfl, rfl, rfl, rfl, rfl⟩ rfl ⟨rfl, rfl, rfl, rfl, rfl, rfl⟩
    ⟨_, _, _, _, _, _, rfl⟩ rfl

theorem DwellOver.line (h : DwellOver w t) (l : Line) : DwellOver w { t with line := l } :=
  h.next ⟨rfl, rfl, rfl, rfl, rfl, rfl, rfl, rfl⟩ rfl ⟨rfl, rfl, rfl, rfl, rfl, rfl⟩ ⟨_, _, _, _, _, _, rfl⟩ rfl

/-- The dwell is over for the bus and the worked mark is set. -/
def dwellSlowed (s : State) : State := setWorked (s.car.worked || s.car.dwell == .full) (slowPolls s)

theorem carDwellEnd_eq (again : State → State) (s : State) :
    carDwellEnd again s = carDecide again true false (lineDwellEnd (dwellSlowed s)) := by
  unfold carDwellEnd dwellSlowed slowPolls
  split <;> rfl

theorem dwellSlowed_eq (s : State) : ∃ b, b.fast = false ∧ b.nodes = s.bus.nodes ∧ dwellSlowed s = { s with
    bus := b, car := { s.car with worked := s.car.worked || s.car.dwell == .full } } := by
  unfold dwellSlowed slowPolls
  split
  · exact ⟨{ s.bus with fast := false, pollBase := s.bus.lastPoll }, rfl, rfl, rfl⟩
  · next h => exact ⟨s.bus, Bool.not_eq_true _ ▸ h, rfl, rfl⟩

theorem dwellSlowed_over (s : State) : DwellOver s (dwellSlowed s) := by
  obtain ⟨b, -, hb, he⟩ := dwellSlowed_eq s
  rw [he]
  exact ⟨⟨rfl, rfl, rfl, rfl, rfl, rfl, rfl, rfl⟩, rfl, rfl, ⟨rfl, rfl, rfl, rfl, rfl, rfl⟩, rfl, rfl, rfl, by
    unfold present nodeRec; rw [← hb]⟩

/-! ## The index decision of a carousel that does not go on (R54, R57) -/

theorem carDecide_stands (newly test : Bool) (h : moving s = false ∨ s.line.holds.any = true) :
    carDecide again newly test s = carStood again newly test (setCarState .standing s) := by
  refine if_pos ?_
  rcases h with h | h <;> rw [h]
  · rfl
  · exact Bool.or_true _

theorem carStood_other (newly test : Bool) (h : s.line.state ≠ .running) (h' : s.line.state ≠ .draining) :
    carStood again newly test s = s := by
  unfold carStood
  split
  · next e => exact absurd e h
  · next e => exact absurd e h'
  · rfl

theorem moving_iff : moving s = true ↔ s.line.state = .running ∨ s.line.state = .draining := by simp [moving]

theorem moving_of_not (h : s.line.state ≠ .running) (h' : s.line.state ≠ .draining) : moving s = false := by
  simp [moving, h, h']

/-- A carousel told of the end of its dwell in another state stands (R54). -/
theorem carDecide_other (newly test : Bool) (h : s.line.state ≠ .running) (h' : s.line.state ≠ .draining) :
    carDecide again newly test s = setCarState .standing s := by
  rw [carDecide_stands newly test (.inl (moving_of_not h h'))]
  exact carStood_other newly test h h'

/-! ## Holds, parking and the halt mark at the end of a dwell (R105, R107, R114, R115) -/

theorem carDwellEnd_other (h : (dwellSlowed s).line.state ≠ .running) (h' : (dwellSlowed s).line.state ≠ .draining) :
    carDwellEnd again s = setCarState .standing (dwellSlowed s) := by
  have hl : lineDwellEnd (dwellSlowed s) = dwellSlowed s := by
    unfold lineDwellEnd
    split
    · next e => exact absurd e h
    · next e => exact absurd e h'
    · rfl
  rw [carDwellEnd_eq, hl]
  exact carDecide_other true false h h'

theorem lineDwellEnd_holds (hm : x.line.state = .running ∨ x.line.state = .draining) (hh : x.line.holds.any = true)
    (hp : ¬(x.line.state = .draining ∧ x.line.park = true ∧ anyLoaded x = false)) : lineDwellEnd x = enterHeld x := by
  unfold lineDwellEnd
  rcases hm with hm | hm
  · simp only [hm, hh, if_true]
  · have hno : ¬(x.line.park && !anyLoaded x) = true := fun k => by
      rw [Bool.and_eq_true, Bool.not_eq_true'] at k
      exact hp ⟨hm, k⟩
    simp only [hm, hh, if_true]
    exact if_neg hno

/-- A pending hold takes effect (R107). -/
theorem carDwellEnd_holds (hx : x = dwellSlowed s) (hm : x.line.state = .running ∨ x.line.state = .draining)
    (hh : x.line.holds.any = true) (hp : ¬(x.line.state = .draining ∧ x.line.park = true ∧ anyLoaded x = false)) :
    carDwellEnd again s = setCarState .standing (enterHeld x) := by
  have hl : (enterHeld x).line.state = .held := by rw [enterHeld_line]
  rw [carDwellEnd_eq, ← hx, lineDwellEnd_holds hm hh hp]
  exact carDecide_other true false (by rw [hl]; nofun) (by rw [hl]; nofun)

theorem not_loadedAt (h : anyLoaded s = false) (c : Fin 20) : loadedAt s c = false :=
  Bool.eq_false_iff.2 fun k => absurd (anyLoaded_iff.2 ⟨c, k⟩) (by rw [h]; exact Bool.false_ne_true)

/-- With no clamp loaded and no work for an index the carousel stands (R54). -/
theorem carDecide_empty (newly test : Bool) (hn : anyLoaded s = false) (hw : indexWork s = false) :
    carDecide again newly test s = carStood again newly test (setCarState .standing s) := by
  unfold carDecide
  simp only [not_loadedAt hn, hw]
  split
  · rfl
  · split <;> rfl

theorem not_indexWork_draining (hd : s.line.state = .draining) (hn : anyLoaded s = false) : indexWork s = false := by
  simp [indexWork, hn, hd]

/-- An empty DRAINING line is parked, held or left for STANDBY (R107, R115). -/
theorem carStood_drained (newly test : Bool) (hd : s.line.state = .draining) (hn : anyLoaded s = false) :
    carStood again newly test s = if s.line.park then enterParked s
      else if s.line.holds.any then enterHeld s else again (enterStandby s) := by
  unfold carStood
  simp only [hd, hn]
  rfl

theorem carDecide_drained (newly test : Bool) (hd : s.line.state = .draining) (hn : anyLoaded s = false) :
    carDecide again newly test s = if s.line.park then enterParked (setCarState .standing s)
      else if s.line.holds.any then enterHeld (setCarState .standing s)
      else again (enterStandby (setCarState .standing s)) := by
  rw [carDecide_empty newly test hn (not_indexWork_draining hd hn)]
  exact carStood_drained (s := setCarState .standing s) newly test hd hn

/-- An empty DRAINING line with the park mark is parked (R115). -/
theorem carDwellEnd_parks (hx : x = dwellSlowed s) (hd : x.line.state = .draining) (hp : x.line.park = true)
    (hn : anyLoaded x = false) : carDwellEnd again s = enterParked (setCarState .standing x) := by
  have hl : lineDwellEnd x = x := by
    unfold lineDwellEnd
    simp only [hd, hp, hn]
    split <;> rfl
  rw [carDwellEnd_eq, ← hx, hl, carDecide_drained true false hd hn, if_pos hp]

/-- The tests of the entry into DRAINING while the carousel dwells act later (R105). -/
theorem enterDraining_dwelling (hc : x.car.state = .dwelling) : ∃ y, enterDraining x = y ∧ LineMoved x y
    ∧ Tested .draining (drainingLine x) { Holds.empty with
      guardOpen := anyGuardOpen x, coverEmpty := coverEmptyClosed x, glueTemp := potOut x && anyUnrejected x } x y := by
  obtain ⟨v, hv, he⟩ := enterDraining_eq x
  have hcar : v.car = x.car := hv.car
  have hat : holdsAtOnce v = false := by simp [holdsAtOnce, hcar, hc]
  have hstand : (v.car.state == CarState.standing) = false := by rw [hcar, hc]; rfl
  have heq : enterDraining x = v := by
    rw [he, hat, hstand]
    simp
  exact ⟨v, heq, heq ▸ enterDraining_moved (.refl x), hv⟩

theorem lineDwellEnd_halts (hr : x.line.state = .running) (hh : x.line.holds.any = false) (hm : x.line.halt = true) :
    lineDwellEnd x = enterDraining x := by
  unfold lineDwellEnd
  simp only [hr, hh, hm]
  rfl

/-- The halt mark puts a line whose guards or covers are out into HELD (R105, R114). -/
theorem carDwellEnd_blocked (hx : x = dwellSlowed s) (hc : x.car.state = .dwelling) (hr : x.line.state = .running)
    (hh : x.line.holds.any = false) (hm : x.line.halt = true)
    (hb : anyGuardOpen x = true ∨ coverEmptyClosed x = true) : ∃ y, carDwellEnd again s = enterHeld (setCarState .standing y)
      ∧ LineMoved x y ∧ y.line.state = .draining ∧ y.line.holds.guardOpen = anyGuardOpen x
      ∧ y.line.holds.coverEmpty = coverEmptyClosed x := by
  obtain ⟨y, hy, hmov, htest⟩ := enterDraining_dwelling hc
  have hany : y.line.holds.any = true := by
    rw [htest.line]
    rcases hb with hb | hb <;> simp [Holds.any, hb]
  have hstate : y.line.state = .draining := by rw [htest.line]
  refine ⟨y, ?_, hmov, hstate, by rw [htest.line], by rw [htest.line]⟩
  rw [carDwellEnd_eq, ← hx, lineDwellEnd_halts hr hh hm, hy, carDecide_stands true false (.inr hany)]
  have hpark : y.line.park = false := by rw [htest.line]
  have hstand : (setCarState .standing y).line.state = .draining := hstate
  have hholds : (setCarState .standing y).line.holds.any = true := hany
  cases hl : anyLoaded (setCarState .standing y) with
  | true =>
    unfold carStood
    simp only [hstand, hl, hholds, if_true]
  | false =>
    have hno : ¬(setCarState .standing y).line.park = true := fun h => Bool.false_ne_true (hpark.symm.trans h)
    rw [carStood_drained true false hstand hl, if_neg hno, if_pos hholds]

/-! ## A line that goes on (R54, R105, R106, R114, R116) -/

/-- The line as a dwell's end leaves it without a hold: RUNNING, or DRAINING with no mark (R53, R114). -/
structure GoesOnAfter (w y : State) (l : LineState) : Prop where
  kept   : DwellOver w y
  state  : y.car.state = .dwelling
  moves  : l = .running ∨ l = .draining
  line   : y.line.state = l
  holds  : y.line.holds.any = false
  halt   : y.line.halt = false
  park   : l = .draining → y.line.park = false
  fast   : y.bus.fast = false
  tag    : y.car.tag = w.car.tag
  cond   : y.glue.cond = w.glue.cond
  told   : ∀ again, carDwellEnd again w = carDecide again true false y

theorem goesOnAfter_same (hc : w.car.state = .dwelling) (hr : w.line.state = .running ∨ w.line.state = .draining)
    (hh : w.line.holds.any = false) (hm : w.line.halt = false) (hp : w.line.state = .draining → w.line.park = false) :
    GoesOnAfter w (dwellSlowed w) w.line.state := by
  obtain ⟨b, hf, -, he⟩ := dwellSlowed_eq w
  have hover := dwellSlowed_over w
  have htold : ∀ again, carDwellEnd again w = carDecide again true false (dwellSlowed w) := fun again => by
    have hl : (dwellSlowed w).line = w.line := by rw [he]
    have hend : lineDwellEnd (dwellSlowed w) = dwellSlowed w := by
      unfold lineDwellEnd
      rw [hl]
      rcases hr with hr | hr <;> simp only [hr, hh, hm] <;> rfl
    rw [carDwellEnd_eq, hend]
  refine ⟨hover, ?_, hr, ?_, ?_, ?_, fun h => ?_, ?_, ?_, ?_, htold⟩
  all_goals rw [he]
  · exact hc
  · exact hh
  · exact hm
  · exact hp h
  · exact hf

theorem goesOnAfter_halt (hc : w.car.state = .dwelling) (hr : w.line.state = .running) (hh : w.line.holds.any = false)
    (hm : w.line.halt = true) (hclear : EntryClear w) : ∃ y, GoesOnAfter w y .draining := by
  obtain ⟨b, hf, -, he⟩ := dwellSlowed_eq w
  obtain ⟨x, hx⟩ : ∃ x, x = dwellSlowed w := ⟨_, rfl⟩
  rw [← hx] at he
  obtain ⟨y, hy, hmov, htest⟩ := enterDraining_dwelling (x := x) (by rw [he]; exact hc)
  have hxc : EntryClear x := by rw [he]; exact ⟨hclear.guards, hclear.covers, hclear.band, hclear.heat⟩
  obtain ⟨hg, hcov, hp⟩ := entryClear_iff.1 hxc
  have hline := htest.line
  rw [hg, hcov, hp] at hline
  have hcar : y.car = x.car := htest.car
  have hcond : y.glue.cond = x.glue.cond := by
    obtain ⟨_, _, _, _, _, _, rfl⟩ := hmov
    rfl
  refine ⟨y, (hx ▸ dwellSlowed_over w).lineMoved hmov, ?_, .inr rfl, by rw [hline], by rw [hline]; rfl, by rw [hline],
    fun _ => by rw [hline], ?_, ?_, ?_, fun again => ?_⟩
  · rw [hcar, he]
    exact hc
  · rw [hmov.bus, he]
    exact hf
  · rw [hcar, he]
  · rw [hcond, he]
  · rw [carDwellEnd_eq, ← hx, lineDwellEnd_halts (by rw [he]; exact hr) (by rw [he]; exact hh) (by rw [he]; exact hm), hy]

/-! ## Frames sent while no dwell is in progress, and jobs that wait for room (R49, R124, R155) -/

/-- Frames sent begin a cadence in a dwell only, and hold no job back. -/
structure Paced (s t : State) : Prop where
  state : t.car.state = s.car.state
  fast  : s.car.state ≠ .dwelling → t.bus.fast = s.bus.fast
  jobs  : (∀ j ∈ s.car.jobs, j.status ≠ .pending) → ∀ j ∈ t.car.jobs, j.status ≠ .pending

theorem Paced.refl (s : State) : Paced s s := ⟨rfl, fun _ => rfl, fun h => h⟩

theorem Paced.trans (h : Paced s t) (k : Paced t u) : Paced s u :=
  ⟨k.state.trans h.state, fun hs => (k.fast (by rw [h.state]; exact hs)).trans (h.fast hs), fun hj => k.jobs (h.jobs hj)⟩

theorem takeFrom_fast {b' b : Bus} {f : Frame} {r : Rotation} (h : b.takeFrom r = some (f, b')) : b'.fast = b.fast := by
  cases r with
  | trimmer | cooling | probe =>
    simp only [Bus.takeFrom] at h
    split at h
    · cases h
      rfl
    · cases h

theorem grant_fast {b b' : Bus} {f : Frame} (h : b.grant = some (f, b')) : b'.fast = b.fast := by
  unfold Bus.grant at h
  split at h
  · cases h
    rfl
  · obtain ⟨r, -, hr⟩ := List.exists_of_findSome?_eq_some h
    exact takeFrom_fast hr

theorem issueJob_not_pending {l : List Station} {now : Time} {e : Bool} {j : Job} (h : j.status ≠ .pending) :
    (issueJob l now e j).status ≠ .pending := by
  unfold issueJob
  split
  · nofun
  · exact h

theorem sendWork_paced (g : Byte) (items : List WorkItem) (a : Bool) (s : State) : Paced s (sendWork g items a s) := by
  refine ⟨rfl, fun hs => ?_, fun hj => ?_⟩
  · have hlive : dwellLive s g = false := by
      unfold dwellLive
      rw [beq_eq_false_iff_ne.2 hs]
      rfl
    unfold sendWork
    simp only [hlive]
    exact Bool.or_false _
  · unfold sendWork
    simp only
    split
    · intro j hm
      obtain ⟨i, hi, rfl⟩ := List.mem_map.1 hm
      exact issueJob_not_pending (hj i hi)
    · exact hj

theorem startLimit_paced (k : ReqKind) (s : State) : Paced s (startLimit k s) := by
  cases k <;> exact ⟨rfl, fun _ => rfl, fun h => h⟩

theorem sendFrame_paced (f : Frame) (s : State) : Paced s (sendFrame f s) := by
  cases f with
  | work g items a => exact sendWork_paced g items a s
  | poll | abortAll | abortJob st | abortTrimmer => exact ⟨rfl, fun _ => rfl, fun h => h⟩
  | req r =>
    have hl : Paced s (if r.seq.isNone then startLimit r.kind s else s) := by
      split
      · exact startLimit_paced _ _
      · exact .refl s
    exact hl.trans ⟨rfl, fun _ => rfl, fun h => h⟩

theorem pump_paced (n : Nat) (s : State) : Paced s (pump n s) := by
  induction n generalizing s with
  | zero => exact .refl s
  | succ n ih =>
    unfold pump
    split
    · next f b _ hg =>
      have hb : Paced s { s with bus := b } := ⟨rfl, fun _ => grant_fast hg, fun h => h⟩
      exact (hb.trans (sendFrame_paced f _)).trans (ih _)
    · exact .refl s

theorem enqueue_fast (f : Frame) (b : Bus) : (b.enqueue f).fast = b.fast := by
  unfold Bus.enqueue
  split <;> rfl

theorem handOver_paced (f : Frame) (s : State) : Paced s (handOver f s) := by
  have hb : Paced s { s with bus := s.bus.enqueue f } := ⟨rfl, fun _ => enqueue_fast f s.bus, fun h => h⟩
  exact hb.trans (pump_paced _ _)

/-! ## What the index decision begins (R48, R54) -/

/-- INDEX has been handed over (R54). -/
structure IndexBegun (w y t : State) : Prop where
  kept  : DwellOver w t
  state : t.car.state = .indexing
  line  : t.line = { y.line with standbyTimer := none }
  fast  : t.bus.fast = false
  asked : Asked t.bus .drive .index

/-- A release dwell has begun for the book at P11 (R54, R124). -/
structure ReleaseBegun (w y : State) (d : Fin 20) (b : Book) (t : State) : Prop where
  kept  : DwellOver w t
  state : t.car.state = .dwelling
  dwell : t.car.dwell = .release
  tag   : t.car.tag = w.car.tag + 1
  line  : t.line = { y.line with standbyTimer := none }
  jobs  : ∃ k, t.car.jobs = [k] ∧ k.item = ⟨.release, d, some b.ticket.id, .release⟩ ∧ k.releaseDone = false
    ∧ (k.status = .pending ↔ 40 ≤ w.dlv.cooling.length)
  sent  : w.dlv.cooling.length < 40 → Heading (.work (w.car.tag + 1) [⟨.release, d, some b.ticket.id, .release⟩] false)
    (.work (w.car.tag + 1) [⟨.release, d, some b.ticket.id, .release⟩]) t

section
variable {ls : LineState} (g : GoesOnAfter w y ls)
include g

theorem GoesOnAfter.moving : moving y = true := moving_iff.2 (by rw [g.line]; exact g.moves)

theorem GoesOnAfter.decide : carDwellEnd again w = match clampAt y 11 with
    | none => carStood again true false (setCarState .standing y)
    | some c =>
      if loadedAt y c then match releaseJob y with
        | some j => beginDwell .release [j] y
        | none => carStood again true false (setCarState .standing y)
      else if indexWork y then sendIndex y else carStood again true false (setCarState .standing y) := by
  have hgo : ¬(!Machine.moving y || y.line.holds.any) = true := by
    rw [g.moving, g.holds]
    exact Bool.false_ne_true
  rw [g.told again]
  exact if_neg hgo

theorem GoesOnAfter.index (hc : clampAt y 11 = some c) (hl : loadedAt y c = false) (hi : indexWork y = true)
    (hd : present w .drive = true) : IndexBegun w y (carDwellEnd again w) := by
  obtain ⟨z, hz⟩ : ∃ z, z = stopStandby { y with car := { y.car with state := .indexing, moveTimer := none } } := ⟨_, rfl⟩
  have hzd : present z .drive = true := by rw [hz]; exact g.kept.drive.trans hd
  have he : carDwellEnd again w = handRequest .drive .index z := by
    rw [g.decide]
    simp only [hc, hl, hi]
    rw [hz] at hzd ⊢
    exact if_pos hzd
  have hk : DwellOver w z := by
    rw [hz]
    exact g.kept.next ⟨rfl, rfl, rfl, rfl, rfl, rfl, rfl, rfl⟩ rfl ⟨rfl, rfl, rfl, rfl, rfl, rfl⟩ ⟨_, _, _, _, _, _, rfl⟩ rfl
  have hzs : z.car.state = .indexing := by rw [hz]; rfl
  have hw := handRequest_busWork .drive .index z
  have hp : Paced z (handRequest .drive .index z) := handOver_paced _ _
  rw [he]
  refine ⟨hk.busWork hw, hp.state.trans hzs, hw.line.trans (by rw [hz]; rfl), ?_, handRequest_asked _ _ _⟩
  rw [hp.fast (by rw [hzs]; nofun), hz]
  exact g.fast

/-- A book at P11 begins a release dwell (R54). -/
theorem GoesOnAfter.release (hc : clampAt y 11 = some d) (hb : bookIn y d = some b) (hl : .clamp d ∉ y.dlv.waiters) :
    ReleaseBegun w y d b (carDwellEnd again w) := by
  have hload : loadedAt y d = true := Option.isSome_iff_exists.2 ⟨b, hb⟩
  obtain ⟨j, hj⟩ : ∃ j, j = mkJob .release d (some b.ticket.id) .release (coolingFull y) := ⟨_, rfl⟩
  have hjob : releaseJob y = some j := (bookJob_loaded hc hb hl).trans (congrArg some hj.symm)
  have hitem : j.item = ⟨.release, d, some b.ticket.id, .release⟩ := by rw [hj]; rfl
  have hdone : j.releaseDone = false := by rw [hj]; rfl
  have hcool : y.dlv.cooling = w.dlv.cooling := g.kept.books.cooling
  have hfull : coolingFull y = true ↔ 40 ≤ w.dlv.cooling.length := by
    unfold coolingFull
    rw [hcool]
    exact decide_eq_true_iff
  have he : carDwellEnd again w = beginDwell .release [j] y := by
    rw [g.decide]
    simp only [hc, hload, hjob]
    rfl
  obtain ⟨z, hz⟩ : ∃ z, z = stopStandby { y with
      car := { y.car with state := .dwelling, jobs := [j], dwell := .release, tag := y.car.tag + 1 }
      tickets := { y.tickets with reserved := y.tickets.reserved || [j].any Job.openLoad } } := ⟨_, rfl⟩
  have hk : DwellOver w z := by
    rw [hz]
    exact g.kept.next ⟨rfl, rfl, rfl, rfl, rfl, rfl, rfl, rfl⟩ rfl ⟨rfl, rfl, rfl, rfl, rfl, rfl⟩ ⟨_, _, _, _, _, _, rfl⟩ rfl
  have hzc : z.car = { y.car with state := .dwelling, jobs := [j], dwell := .release, tag := y.car.tag + 1 } := by
    rw [hz]
    rfl
  have hzl : z.line = { y.line with standbyTimer := none } := by rw [hz]; rfl
  have hztag : z.car.tag = w.car.tag + 1 := by rw [hzc, ← g.tag]
  rw [he]
  cases hf : coolingFull y with
  | true =>
    have hst : j.status = .pending := by rw [hj, hf]; rfl
    have hbegin : beginDwell .release [j] y = z := by
      have hno : workItems [j] = [] := by simp [workItems, hst]
      unfold beginDwell
      rw [hno, hz]
    rw [hbegin]
    have h40 := hfull.1 hf
    exact ⟨hk, by rw [hzc], by rw [hzc], hztag, hzl, ⟨j, by rw [hzc], hitem, hdone, fun _ => h40, fun _ => hst⟩,
      fun h => absurd h (Nat.not_lt.mpr h40)⟩
  | false =>
    have hst : j.status = .built := by rw [hj, hf]; rfl
    have hbegin : beginDwell .release [j] y = handOver (.work (w.car.tag + 1) [j.item] false) z := by
      have hone : workItems [j] = [j.item] := by simp [workItems, hst]
      unfold beginDwell
      rw [hone, ← hz, ← hztag]
    have h40 : ¬40 ≤ w.dlv.cooling.length := fun h => Bool.false_ne_true (hf.symm.trans (hfull.2 h))
    have hw := handOver_busWork (.work (w.car.tag + 1) [j.item] false) z
    have hp := handOver_paced (.work (w.car.tag + 1) [j.item] false) z
    have hhead := handOver_heading_self (f := .work (w.car.tag + 1) [j.item] false) rfl z
    rw [← hbegin] at hw hp hhead
    obtain ⟨l, m, hcar, hsent⟩ := hw.car
    rw [hzc] at hsent hcar
    obtain ⟨k, rest, hjk, hrest, rfl⟩ := List.forall₂_cons_left_iff.1 hsent
    obtain rfl := List.forall₂_nil_left_iff.1 hrest
    obtain ⟨hki, hkd, -, -⟩ := hjk
    have hnp : k.status ≠ .pending := by
      refine hp.jobs (fun i hi => ?_) k (by rw [hcar]; exact List.mem_cons_self)
      rw [hzc] at hi
      obtain rfl := List.mem_singleton.1 hi
      rw [hst]
      nofun
    refine ⟨hk.busWork hw, by rw [hcar], by rw [hcar], by rw [hcar, ← g.tag], hw.line.trans hzl,
      ⟨k, by rw [hcar], hki.trans hitem, hkd.trans hdone, fun h => absurd h hnp, fun h => absurd h h40⟩, fun _ => ?_⟩
    rw [← hitem]
    exact hhead

/-- With a clamp loaded a carousel that does not go on stands (R54). -/
theorem GoesOnAfter.stood (hl : anyLoaded y = true) (newly test : Bool) (ht : test = false) :
    carStood again newly test (setCarState .standing y) = setCarState .standing y := by
  have hload : anyLoaded (setCarState .standing y) = true := hl
  have hh : (setCarState .standing y).line.holds.any = false := g.holds
  have hs : (setCarState .standing y).line.state = ls := g.line
  rw [ht]
  unfold carStood
  rcases g.moves with hm | hm
  · simp only [hs.trans hm, hh, hload, Bool.not_true, Bool.and_false, Bool.false_and]
    rfl
  · simp only [hs.trans hm, hh, hload]
    rfl

/-- A lost record at P11 makes the carousel stand (R54). -/
theorem GoesOnAfter.lost (hc : clampAt y 11 = some d) (hb : bookIn y d ≠ none) (hl : .clamp d ∈ y.dlv.waiters) :
    carDwellEnd again w = setCarState .standing y := by
  have hload : loadedAt y d = true := Option.isSome_iff_ne_none.2 hb
  have hjob : releaseJob y = none := bookJob_none hc fun _ _ h => absurd hl h
  rw [g.decide]
  simp only [hc, hload, hjob, if_true]
  exact g.stood (anyLoaded_iff.2 ⟨d, hload⟩) true false rfl

/-- An empty RUNNING line: an unusable clamp is moved away from P0, or the standby timer starts (R54, R106). -/
theorem GoesOnAfter.empty (hr : ls = .running) (hn : anyLoaded y = false) (hi : indexWork y = false) :
    carDwellEnd again w = startStandby (setCarState .standing y) := by
  have hload : anyLoaded (setCarState .standing y) = false := hn
  have hh : (setCarState .standing y).line.holds.any = false := g.holds
  have hs : (setCarState .standing y).line.state = .running := g.line.trans hr
  have hstand : carStood again true false (setCarState .standing y) = startStandby (setCarState .standing y) := by
    unfold carStood
    simp only [hs, hh, hload]
    rfl
  rw [g.told again, carDecide_empty true false hn hi, hstand]

/-- An empty DRAINING line is left for STANDBY (R115). -/
theorem GoesOnAfter.drained (hd : ls = .draining) (hn : anyLoaded y = false) :
    carDwellEnd again w = again (enterStandby (setCarState .standing y)) := by
  have hno : ¬y.line.park = true := by rw [g.park hd]; exact Bool.false_ne_true
  have hh : ¬y.line.holds.any = true := by rw [g.holds]; exact Bool.false_ne_true
  rw [g.told again, carDecide_drained true false (g.line.trans hd) hn, if_neg hno, if_neg hh]

theorem GoesOnAfter.standing : DwellOver w (setCarState .standing y) := g.kept.carState .standing

theorem GoesOnAfter.asleep (hd : ls = .draining) (hn : anyLoaded y = false) (hw : wakeCondition w = false) :
    carDwellEnd (carTold tellFuel) w = stoodBy (setCarState .standing y)
      ∧ DwellOver w (stoodBy (setCarState .standing y)) := by
  have hwake : wakeCondition (setCarState .standing y) = false := g.standing.wake.trans hw
  refine ⟨?_, g.standing.lineMoved (enterState_moved .standby ((LineMoved.refl _).line _))⟩
  rw [g.drained hd hn, enterStandby_of_asleep hwake]
  exact tellCarousel_standby (by rw [stoodBy_line])

theorem GoesOnAfter.woken (hd : ls = .draining) (hn : anyLoaded y = false) (hw : wakeCondition w = true)
    (hc : w.glue.cond ≠ .atTemp) : carDwellEnd (carTold tellFuel) w = warmed (stoodBy (setCarState .standing y))
      ∧ DwellOver w (warmed (stoodBy (setCarState .standing y))) := by
  have hk := g.standing
  have hwake : wakeCondition (setCarState .standing y) = true := hk.wake.trans hw
  obtain ⟨z, hz⟩ : ∃ z, z = stoodBy (setCarState .standing y) := ⟨_, rfl⟩
  have hcold : z.glue.cond ≠ .atTemp := by
    rw [hz, stoodBy_glue]
    show y.glue.cond ≠ _
    rw [g.cond]
    exact hc
  have hmov : LineMoved (setCarState .standing y) z := hz ▸ enterState_moved .standby ((LineMoved.refl _).line _)
  have hcar : (warmed z).car.state = .standing := ((warmed_moved z).carState.trans hmov.carState).trans rfl
  rw [← hz]
  refine ⟨?_, (hk.lineMoved hmov).lineMoved (warmed_moved z)⟩
  rw [g.drained hd hn, enterStandby_of_wake hwake, ← hz, enterWarming_cold hcold]
  exact tellCarousel_warming (by rw [warmed_line]) (by rw [hcar]; nofun)

end

end

end Sys2Proof.Machine

/-! PROOFS. The last job of a dwell (R51, R53, R125, R126). -/

namespace Sys2Proof.Machine

section
variable {s t u v w : State} {st : Station} {j : Job} {tag : Byte} {slot : Nat} {a d : Fin 20} {b : Book} {e : JobStatus}

/-! ## What a job's quiet end leaves alone -/

/-- Tables, queue, line and the other clamps stand, and the job's clamp stays loaded or empty. -/
structure JobWork (a : Fin 20) (s t : State) : Prop where
  tables : TablesKept s t
  books  : DeliveryKept s t
  queue  : t.tickets.queue = s.tickets.queue
  recs   : ∀ d, d ≠ a → clampRec t d = clampRec s d
  left   : bookIn t a = none ↔ bookIn s a = none
  line   : t.line = s.line
  cond   : s.glue.cond ≠ .atTemp → t.glue.cond ≠ .atTemp
  clear  : EntryClear s → EntryClear t
  car    : ∃ c l v g m, t.car = { s.car with clamps := c, jobs := l, overruns := v, diverts := g, moveTimer := m }
  drive  : present t .drive = present s .drive

theorem JobWork.trans (h : JobWork a s t) (k : JobWork a t u) : JobWork a s u where
  tables := h.tables.trans k.tables
  books := h.books.trans k.books
  queue := k.queue.trans h.queue
  recs d hd := (k.recs d hd).trans (h.recs d hd)
  left := k.left.trans h.left
  line := k.line.trans h.line
  cond hc := k.cond (h.cond hc)
  clear hc := k.clear (h.clear hc)
  car := by
    obtain ⟨_, _, _, _, _, hc⟩ := h.car
    obtain ⟨_, _, _, _, _, kc⟩ := k.car
    exact ⟨_, _, _, _, _, by rw [kc, hc]⟩
  drive := k.drive.trans h.drive

theorem entryClear_of_same (hs : t.scan = s.scan) (hg : t.glue = s.glue) (hw : t.settings = s.settings) (h : EntryClear s) :
    EntryClear t := by
  obtain ⟨h₁, h₂, h₃, h₄⟩ := h
  refine ⟨?_, ?_, ?_, ?_⟩
  · unfold anyGuardOpen guardOpen at h₁ ⊢
    rw [hs]
    exact h₁
  · unfold coverEmptyClosed contactClosed at h₂ ⊢
    rw [hs]
    exact h₂
  · rw [hg]
    exact h₃
  · rw [hg, hw]
    exact h₄

/-- A change that does not touch the clamps and the pot. -/
theorem JobWork.of_kept (a : Fin 20) (h : LineKept s t) (hl : t.line = s.line) (hg : t.glue = s.glue)
    (hc : ∃ l v g m, t.car = { s.car with jobs := l, overruns := v, diverts := g, moveTimer := m })
    (hp : present t .drive = present s .drive) : JobWork a s t where
  tables := h.tables
  books := h.books
  queue := h.queue
  recs d _ := by
    obtain ⟨_, _, _, _, hc⟩ := hc
    exact clampRec_of_clamps (by rw [hc]) d
  left := by
    obtain ⟨_, _, _, _, hc⟩ := hc
    rw [bookIn_eq, bookIn_eq, clampRec_of_clamps (s := s) (by rw [hc])]
  line := hl
  cond hn := by rw [hg]; exact hn
  clear := entryClear_of_same h.tables.scan hg h.tables.settings
  car := by
    obtain ⟨_, _, _, _, hc⟩ := hc
    exact ⟨_, _, _, _, _, hc⟩
  drive := hp

/-- The job's clamp changed without a change of its loading. -/
theorem jobWork_setClamp {k : Clamp} (hk : k.book = none ↔ bookIn s a = none) : JobWork a s (setClamp a k s) where
  tables := ⟨rfl, rfl, rfl, rfl, rfl, rfl, rfl, rfl⟩
  books := ⟨rfl, rfl, rfl, rfl, rfl, rfl⟩
  queue := rfl
  recs d hd := (clampRec_setClamp a k s d).trans (if_neg hd)
  left := by
    rw [bookIn_eq, clampRec_setClamp, if_pos rfl]
    exact hk
  line := rfl
  cond := id
  clear := entryClear_of_same rfl rfl rfl
  car := ⟨_, _, _, _, _, rfl⟩
  drive := rfl

theorem jobWork_mapBook (a : Fin 20) (f : Book → Book) (s : State) : JobWork a s (mapBook a f s) :=
  jobWork_setClamp (k := { clampRec s a with book := (bookIn s a).map f }) Option.map_eq_none_iff

theorem jobWork_setReason (a : Fin 20) (r : RejectReason) (s : State) : JobWork a s (setReason a r s) :=
  (setReason_eq a r s).symm ▸ jobWork_mapBook a _ s

theorem present_slotHeard_drive (st : Station) (s : State) :
    present (slotHeard (stationNode st) s) .drive = present s .drive := by
  have hne : NodeId.drive ≠ stationNode st := by cases st <;> nofun
  have hrec : nodeRec (slotHeard (stationNode st) s) .drive = nodeRec s .drive :=
    (nodeRec_setNode (clearOut s) _ _ _).trans (if_neg hne)
  unfold present
  rw [hrec]

theorem jobTaken_work (a : Fin 20) (st : Station) (e : JobStatus) (s : State) : JobWork a s (jobTaken st e s) :=
  .of_kept a (jobTaken_kept st e s) rfl rfl ⟨_, _, _, _, rfl⟩ (present_slotHeard_drive st s)

/-! ## The quiet endings of the jobs (R51, R65, R87) -/

/-- The station's job has ended and nothing else that the dwell's end looks at has changed. -/
structure JobEnds (st : Station) (a : Fin 20) (s u : State) : Prop where
  work  : JobWork a s u
  jobs  : ∃ e, (e = .done ∨ e = .failed ∨ e = .aborted) ∧ u.car.jobs = (jobTaken st e s).car.jobs

theorem JobEnds.next (h : JobEnds st a s t) (k : JobWork a t u) (hj : u.car.jobs = t.car.jobs) : JobEnds st a s u :=
  ⟨h.work.trans k, by
    obtain ⟨e, he, hjobs⟩ := h.jobs
    exact ⟨e, he, hj.trans hjobs⟩⟩

theorem jobEnds_taken (a : Fin 20) (st : Station) (he : e = .done ∨ e = .failed ∨ e = .aborted) (s : State) :
    JobEnds st a s (jobTaken st e s) := ⟨jobTaken_work a st e s, e, he, rfl⟩

theorem JobEnds.setReason (h : JobEnds st a s t) (r : RejectReason) : JobEnds st a s (setReason a r t) := by
  obtain ⟨v, hv⟩ := setReason_clamps a r t
  exact h.next (jobWork_setReason a r t) (by rw [hv])

theorem JobEnds.mapBook (h : JobEnds st a s t) (f : Book → Book) : JobEnds st a s (mapBook a f t) :=
  h.next (jobWork_mapBook a f t) rfl

theorem JobEnds.cover (h : JobEnds st a s t) (c : CoverUnit) : JobEnds st a s { t with cover := c } :=
  h.next (.of_kept a ⟨⟨rfl, rfl, rfl, rfl, rfl, rfl, rfl, rfl⟩, ⟨rfl, rfl, rfl, rfl, rfl, rfl⟩, .ofEq rfl, rfl⟩ rfl rfl
    ⟨_, _, _, _, rfl⟩ rfl) rfl

theorem JobEnds.host (h : JobEnds st a s t) (x : HostLink) : JobEnds st a s { t with host := x } :=
  h.next (.of_kept a (.ofHost ⟨x, rfl⟩) rfl rfl ⟨_, _, _, _, rfl⟩ rfl) rfl

theorem JobEnds.reservation (h : JobEnds st a s t) : JobEnds st a s (dropReservation t) :=
  h.next (.of_kept a (dropReservation_kept (.refl _)) rfl rfl ⟨_, _, _, _, rfl⟩ rfl) rfl

theorem coverSequence_quiet {id : TicketId} {l : List Attempt} (h : l = [] ∨ t.cover.mismatch < 2) :
    coverSequence id l t = t := by
  unfold coverSequence
  refine if_neg fun hc => ?_
  rw [Bool.and_eq_true, Bool.not_eq_true', List.isEmpty_eq_false_iff, beq_iff_eq] at hc
  obtain ⟨hl, hm⟩ := hc
  rcases h with h | h
  · exact hl h
  · omega

/-- A draw's end that leaves the count below 2 (R86 to R88). -/
theorem coverSequence_setReason {id : TicketId} {l : List Attempt} {r : RejectReason}
    (h : l = [] ∨ t.cover.mismatch < 2) : coverSequence id l (setReason a r t) = setReason a r t := by
  obtain ⟨v, hv⟩ := setReason_clamps a r t
  exact coverSequence_quiet (by rw [hv]; exact h)

section
variable (h : AnswersJob s st j tag slot)
include h

/-- The quiet endings of a draw (R86 to R88). -/
theorem draw_ends {x : JobAnswer} (hst : st = .draw) (hq : (∃ l, x = .failed l ∧ (l = [] ∨ countAttempts s.cover.mismatch l < 2))
      ∨ ∃ f e n c l, j.item.params = .draw f e n c ∧ x = .done (.draw l) ∧ l ≠ [] ∧ l.length ≤ n
        ∧ countAttempts s.cover.mismatch l < 2) :
    JobEnds st j.item.clamp s (takeStatus [(st, x)] st (slotHeard (stationNode st) s)) := by
  subst hst
  have hcounted : ∀ e l, (e = .done ∨ e = .failed ∨ e = .aborted) → JobEnds .draw j.item.clamp s (drawCounted e l s) :=
    fun e l he => (jobEnds_taken j.item.clamp .draw he s).cover _
  rcases hq with ⟨l, rfl, hl⟩ | ⟨f, e, n, c, l, hp, rfl, hne, hlen, hl⟩
  · rw [(takeStatus_failed h l).trans (jobFailed_draw h l), coverSequence_setReason (t := drawCounted .failed l s) hl]
    exact (hcounted .failed l (.inr (.inl rfl))).setReason _
  · obtain ⟨last, hlast⟩ : ∃ last, l.getLast? = some last := ⟨_, List.getLast?_eq_some_getLast hne⟩
    rw [show stationNode .draw = .cover from rfl, takeStatus_draw h hp hlast hlen]
    have hk := hcounted .done l (.inl rfl)
    cases f with
    | divert =>
      rw [coverSequence_quiet (t := drawOutcome .divert last j (drawCounted .done l s)) (.inr hl)]
      exact hk
    | keep =>
      unfold drawOutcome
      dsimp only
      split
      · rw [coverSequence_quiet (.inr hl)]
        exact hk.cover _
      · rw [coverSequence_setReason (t := drawCounted .done l s) (.inr hl)]
        exact hk.setReason _

/-- A FAILED load (R66). -/
theorem loadFailed_ends (hst : st = .load) (l : List Attempt) :
    JobEnds st j.item.clamp s (takeStatus [(st, .failed l)] st (slotHeard (stationNode st) s)) := by
  subst hst
  have hfail : jobFailed l j (slotHeard .loader s) = if j.openLoad then dropReservation (jobTaken .load .failed s)
      else jobTaken .load .failed s := by
    simp only [jobFailed, station_of_jobAt h.job]
    rfl
  have hk := jobEnds_taken j.item.clamp .load (e := .failed) (.inr (.inl rfl)) s
  rw [(takeStatus_failed h l).trans hfail]
  split
  · exact hk.reservation
  · exact hk

/-- A load's DONE without a book, and a gap reading (R44, R64, R66). -/
theorem loadDone_ends (hst : st = .load) {x : JobAnswer}
    (hq : ((∃ b w, j.item.params = .load b w) ∧ (x = .done .noBlock
        ∨ s.car.diverts < 2 ∧ (x = .done .unreadable ∨ ∃ i, x = .done (.mismatch i))))
      ∨ (j.item.params = .learn ∧ ∃ g, x = .done (.gap g))) :
    JobEnds st j.item.clamp s (takeStatus [(st, x)] st (slotHeard (stationNode st) s)) := by
  subst hst
  have hk := jobEnds_taken j.item.clamp .load (e := .done) (.inl rfl) s
  have hdiv : s.car.diverts < 2 → JobEnds .load j.item.clamp s (loadDiverted (jobTaken .load .done s)) := fun hlt => by
    rw [loadDiverted_below hlt]
    exact ⟨.of_kept _ (noBook_kept .done _ s) rfl rfl ⟨_, _, _, _, rfl⟩ (present_slotHeard_drive .load s), .done, .inl rfl, rfl⟩
  rcases hq with ⟨⟨i, w, hp⟩, hx⟩ | ⟨hp, g, rfl⟩
  · have hfit : ∀ r, (r = .noBlock ∨ r = .unreadable ∨ ∃ i, r = .mismatch i) → loadResultFits j.item.params r = true := by
      rw [hp]
      rintro r (rfl | rfl | ⟨i, rfl⟩) <;> rfl
    rcases hx with rfl | ⟨hlt, rfl | ⟨i, rfl⟩⟩
    · rw [show stationNode .load = .loader from rfl, takeStatus_load h (hfit _ (.inl rfl))]
      exact hk.reservation
    · rw [show stationNode .load = .loader from rfl, takeStatus_load h (hfit _ (.inr (.inl rfl)))]
      exact hdiv hlt
    · rw [show stationNode .load = .loader from rfl, takeStatus_load h (hfit _ (.inr (.inr ⟨i, rfl⟩)))]
      exact hdiv hlt
  · have hfit : loadResultFits j.item.params (.gap g) = true := by rw [hp]; rfl
    rw [show stationNode .load = .loader from rfl, takeStatus_load h hfit]
    obtain ⟨x, hx⟩ := learned_eq g j.item.clamp (jobTaken .load .done s)
    show JobEnds .load j.item.clamp s (learned g j.item.clamp (jobTaken .load .done s))
    rw [hx]
    refine (hk.next (jobWork_setClamp ?_) rfl).host x
    rw [learnedClamp_book]
    rfl

/-- NO_BLOCK changes no clamp (R66). -/
theorem noBlock_clamps (hst : st = .load) (hq : EndsQuietly s j (.done .noBlock)) :
    (takeStatus [(st, .done .noBlock)] st (slotHeard (stationNode st) s)).car.clamps = s.car.clamps := by
  subst hst
  unfold EndsQuietly at hq
  rw [station_of_jobAt h.job] at hq
  have hfit : loadResultFits j.item.params .noBlock = true := by
    rcases hq with ⟨l, hl⟩ | ⟨⟨i, w, hp⟩, -⟩ | ⟨-, g, hg⟩
    · cases hl
    · rw [hp]
      rfl
    · cases hg
  rw [show stationNode .load = .loader from rfl, takeStatus_load h hfit]
  rfl

/-- The DONE and the FAILED of the stations that hold no books back (R69 to R72, R94, R97). -/
theorem station_ends (hst : st ≠ .load ∧ st ≠ .draw ∧ st ≠ .release) {x : JobAnswer}
    (hq : (∃ r, x = .done r) ∨ ∃ l, x = .failed l) :
    JobEnds st j.item.clamp s (takeStatus [(st, x)] st (slotHeard (stationNode st) s)) := by
  obtain ⟨hl, hd, hr⟩ := hst
  have hj := station_of_jobAt h.job
  rcases hq with ⟨r, rfl⟩ | ⟨l, rfl⟩
  · rw [takeStatus_done h]
    have hk := jobEnds_taken j.item.clamp st (e := .done) (.inl rfl) s
    by_cases ha : st = .apply
    · subst ha
      have hc := hk.cover { s.cover with entries := s.cover.entries.drop 1 }
      simp only [jobDone, hj]
      split
      · split
        · next b hb => exact hc.next (jobWork_setClamp (iff_of_false nofun fun hn => absurd (hb.symm.trans hn) nofun)) rfl
        · exact hc
      · exact hc
    · have hone : st = .mill ∨ st = .side ∨ st = .nip ∨ st = .spine := by cases st <;> simp_all
      rw [jobDone_station hj hone]
      exact hk.mapBook _
  · rw [takeStatus_failed h]
    have hone : st = .mill ∨ st = .spine ∨ st = .side ∨ st = .nip ∨ st = .apply := by cases st <;> simp_all
    rw [jobFailed_station hj hone]
    exact ((jobEnds_taken j.item.clamp st (e := .failed) (.inr (.inl rfl)) s).cover _).setReason _

/-- A FAILED release after none (R51, R125). -/
theorem releaseFailed_ends (hst : st = .release) (l : List Attempt) (hc : overrunCount s .release = 0) :
    JobEnds st j.item.clamp s (takeStatus [(st, .failed l)] st (slotHeard (stationNode st) s)) := by
  subst hst
  rw [takeStatus_failed h, jobFailed_release (station_of_jobAt h.job)]
  have hcount : overrunCount (releaseFailed (slotHeard .release s)) .release = 0 := by
    rw [overrunCount, releaseFailed_car]
    exact hc
  rw [show discardEarly (endJob .release .failed (slotHeard (stationNode .release) s))
    = releaseFailed (slotHeard .release s) from rfl, stationOverrun_first hcount]
  have hkept := (slotHeard_kept .release s).trans (releaseFailed_kept 1 (slotHeard .release s))
  rw [releaseFailed_eq] at hkept ⊢
  exact ⟨.of_kept _ hkept rfl rfl ⟨_, _, _, _, rfl⟩ (present_slotHeard_drive .release s), .failed, .inr (.inl rfl), rfl⟩

/-- Every quiet ending. -/
theorem quiet_ends {x : JobAnswer} (hq : EndsQuietly s j x) :
    JobEnds st j.item.clamp s (takeStatus [(st, x)] st (slotHeard (stationNode st) s)) := by
  unfold EndsQuietly at hq
  rw [station_of_jobAt h.job] at hq
  cases st with
  | load =>
    rcases hq with ⟨l, rfl⟩ | hq | hq
    · exact loadFailed_ends h rfl l
    · exact loadDone_ends h rfl (.inl hq)
    · exact loadDone_ends h rfl (.inr hq)
  | draw => exact draw_ends h rfl hq
  | release =>
    obtain ⟨⟨l, rfl⟩, hc⟩ := hq
    exact releaseFailed_ends h rfl l hc
  | mill | spine | side | apply | nip => exact station_ends h ⟨nofun, nofun, nofun⟩ hq

end

/-! ## GLUE's temperature in its band (R76 to R78) -/

/-- A reading in its band holds nothing, and makes no pot AT_TEMP. -/
theorem glueReading_work (a : Fin 20) {n : Nat} (h : outOfBandOf (some n) s.settings.workTemp = false) :
    JobWork a s (glueReading n s) ∧ (glueReading n s).car = s.car ∧ (glueReading n s).bus = s.bus := by
  obtain ⟨g, hg⟩ : ∃ g, g = { potAfterReading s.clock n s.settings.workTemp s.glue with reading := some n } := ⟨_, rfl⟩
  have hfam : g.family = s.glue.family := hg ▸ potAfterReading_family _ _ _ _
  have htarget : g.target = s.glue.target := by
    rw [hg]
    unfold potAfterReading
    split_ifs <;> rfl
  have hread : g.reading = some n := by rw [hg]
  have hcond : s.glue.cond ≠ .atTemp → g.cond ≠ .atTemp := fun hc => by
    rw [hg]
    unfold potAfterReading
    split_ifs
    · nofun
    · exact hc
    · nofun
  have heq : glueReading n s = { s with glue := if g.target.isWorking then { g with outOfBand := false } else g } := by
    unfold glueReading
    rw [← hg]
    unfold testBand
    dsimp only
    rw [hread, h]
    split <;> rfl
  obtain ⟨q, hq⟩ : ∃ q, q = if g.target.isWorking then { g with outOfBand := false } else g := ⟨_, rfl⟩
  have hqs : q.family = g.family ∧ q.target = g.target ∧ q.reading = g.reading ∧ q.cond = g.cond
      ∧ (g.target.isWorking = true → q.outOfBand = false) := by
    rw [hq]
    split
    · exact ⟨rfl, rfl, rfl, rfl, fun _ => rfl⟩
    · next hno => exact ⟨rfl, rfl, rfl, rfl, fun hy => absurd hy hno⟩
  obtain ⟨qf, qt, qr, qc, qo⟩ := hqs
  rw [heq, ← hq]
  refine ⟨⟨⟨rfl, rfl, rfl, qf.trans hfam, rfl, rfl, rfl, rfl⟩, ⟨rfl, rfl, rfl, rfl, rfl, rfl⟩, rfl, fun _ _ => rfl, .rfl, rfl,
    fun hc => by rw [show ({ s with glue := q } : State).glue.cond = _ from qc]; exact hcond hc, fun hc => ?_,
    ⟨_, _, _, _, _, rfl⟩, rfl⟩, rfl, rfl⟩
  refine ⟨hc.guards, hc.covers, fun ht => ?_, fun _ => ?_⟩
  · exact qo (qt ▸ ht)
  · show outOfBandOf q.reading s.settings.workTemp = false
    rw [qr, hread]
    exact h

theorem slotTemp_work (a : Fin 20) (n : NodeId) {temp : Option Nat}
    (h : ∀ x, temp = some x → outOfBandOf (some x) s.settings.workTemp = false) :
    JobWork a s (slotTemp n temp s) ∧ (slotTemp n temp s).car = s.car ∧ (slotTemp n temp s).bus = s.bus := by
  have hsame : JobWork a s s ∧ s.car = s.car ∧ s.bus = s.bus :=
    ⟨.of_kept a (.refl s) rfl rfl ⟨_, _, _, _, rfl⟩ rfl, rfl, rfl⟩
  unfold slotTemp
  split
  · next x => exact glueReading_work a (h x rfl)
  · exact hsame

/-! ## The closing of a dwell by its last job (R53) -/

/-- The state in which a dwell ends by its last job, seen from the state before the command; the clamp `out` has been
emptied. -/
structure DwellClosing (v s w : State) (a : Fin 20) (out : Option (Fin 20)) : Prop where
  view    : ∃ x o, v = { s with scan := x, busOut := o }
  state   : w.car.state = .dwelling
  ended   : ∀ k ∈ w.car.jobs, k.ended = true
  tables  : TablesKept v w
  queue   : w.tickets.queue = s.tickets.queue
  recs    : ∀ d, d ≠ a → out ≠ some d → clampRec w d = clampRec s d
  books   : out = none → DeliveryKept s w
  waiters : w.dlv.waiters = s.dlv.waiters
  left    : ∀ d, bookIn w d ≠ none ↔ bookIn s d ≠ none ∧ out ≠ some d
  line    : w.line = s.line
  cond    : s.glue.cond ≠ .atTemp → w.glue.cond ≠ .atTemp
  clear   : EntryClear v → EntryClear w
  car     : ∃ c l u g m, w.car = { s.car with clamps := c, jobs := l, overruns := u, diverts := g, moveTimer := m }
  drive   : present w .drive = present s .drive

theorem JobWork.closing (h : JobWork a s w) (hd : s.car.state = .dwelling) (he : ∀ k ∈ w.car.jobs, k.ended = true) :
    DwellClosing s s w a none where
  view := ⟨s.scan, s.busOut, rfl⟩
  state := by
    obtain ⟨_, _, _, _, _, hc⟩ := h.car
    rw [hc]
    exact hd
  ended := he
  tables := h.tables
  queue := h.queue
  recs d hda _ := h.recs d hda
  books _ := h.books
  waiters := h.books.waiters
  left d := by
    have hiff : bookIn w d = none ↔ bookIn s d = none := by
      by_cases hda : d = a
      · rw [hda]
        exact h.left
      · rw [bookIn_eq, h.recs d hda, bookIn_eq]
    rw [ne_eq, hiff]
    exact ⟨fun hn => ⟨hn, nofun⟩, And.left⟩
  line := h.line
  cond := h.cond
  clear := h.clear
  car := h.car
  drive := h.drive

theorem DwellClosing.dwellCheck {out : Option (Fin 20)} (h : DwellClosing v s w a out) :
    dwellCheck w = carDwellEnd (carTold tellFuel) w := by
  have hall : w.car.jobs.all Job.ended = true := List.all_eq_true.2 h.ended
  refine if_pos ?_
  rw [h.state, hall]
  rfl

theorem ended_endJob (he : e = .done ∨ e = .failed ∨ e = .aborted) (h : LastOpen s st) :
    ∀ k ∈ (endJob st e s).car.jobs, k.ended = true := by
  intro k hk
  obtain ⟨i, hi, rfl⟩ := List.mem_map.1 hk
  rcases h i hi with hst | hen
  · have hst' : (i.item.station == st) = true := beq_iff_eq.2 hst
    rw [hst', if_pos rfl]
    rcases he with rfl | rfl | rfl <;> rfl
  · split
    · rcases he with rfl | rfl | rfl <;> rfl
    · exact hen

/-- The slot of a POLL round in which the dwell ended closes (R153). -/
def SlotLeft (s t : State) : Prop := t = s ∨ t = slotClosed s

/-- The last job ends by its node's answer (R50, R53). -/
theorem closing_answer (h : AnswersJob s st j tag slot) (hl : LastOpen s st) {x : JobAnswer} (hq : EndsQuietly s j x)
    {temp : Option Nat} (ht : ∀ n, temp = some n → outOfBandOf (some n) s.settings.workTemp = false) :
    ∃ w, DwellClosing s s w j.item.clamp none ∧ (st = .load → x = .done .noBlock → w.car.clamps = s.car.clamps)
      ∧ ∃ t, exec (.slotAnswer (stationNode st) [(st, x)] temp ⟨false, true⟩) s = .next t
        ∧ SlotLeft (carDwellEnd (carTold tellFuel) w) t := by
  obtain ⟨u, hu⟩ : ∃ u, u = takeStatus [(st, x)] st (slotHeard (stationNode st) s) := ⟨_, rfl⟩
  have hends := hu ▸ quiet_ends h hq
  obtain ⟨e, he, hjobs⟩ := hends.jobs
  have halone : Alone u st := (h.alone'.endJob e).of_jobs hjobs
  have htake : takeJobs tag (stationNode st) [(st, x)] (slotHeard (stationNode st) s) = u :=
    (takeJobs_alone (s := slotHeard (stationNode st) s) h.tag h.alone' (by rw [← hu]; exact halone)).trans hu.symm
  have htab := hends.work.tables
  obtain ⟨hwork, hcar, hbus⟩ := slotTemp_work (s := u) j.item.clamp (stationNode st) (temp := temp)
    (fun n hn => by rw [htab.settings]; exact ht n hn)
  obtain ⟨w, hw⟩ : ∃ w, w = slotTemp (stationNode st) temp u := ⟨_, rfl⟩
  rw [← hw] at hwork hcar
  have hclose : DwellClosing s s w j.item.clamp none := (hends.work.trans hwork).closing h.dwelling (by
    rw [hcar, hjobs]
    exact ended_endJob (s := slotHeard (stationNode st) s) he hl)
  refine ⟨w, hclose, fun hst hx => ?_, slotClosed (dwellCheck w), ?_, .inr (congrArg slotClosed hclose.dwellCheck)⟩
  · subst hx
    rw [hcar, hu]
    exact noBlock_clamps h hst hq
  · rw [exec_slotAnswer h, htake, ← hw]

/-- The last job ends by its limit (R51). -/
theorem closing_overrun {n : Time} (hlive : s.pins.inReset = false) (hd : s.car.state = .dwelling) (hl : LastOpen s st)
    (hj : jobAt s st = some j) (hf : j.inFlight = true) (hlim : j.limit = .running n) (hlate : 3000 ≤ (s.clock - n).toNat)
    (hc : overrunCount s st = 0) : ∃ w, DwellClosing s s w j.item.clamp none
      ∧ exec (.jobOverrun st) s = .next (carDwellEnd (carTold tellFuel) w) := by
  have hsent : j.status = .issued ∨ j.status = .busy := by simpa [Job.inFlight] using hf
  have hover : jobOverdue s.clock j = true := (jobOverdue_iff _ _).2 ⟨hsent, n, hlim, hlate⟩
  have hbus := abortStation_busWork st (clearOut s)
  obtain ⟨p, hp⟩ : ∃ p, p = abortStation st (clearOut s) := ⟨_, rfl⟩
  rw [← hp] at hbus
  obtain ⟨l, m, hcar, hjobs⟩ := hbus.car
  have hlast : LastOpen p st := by
    intro k hk
    rw [hcar] at hk
    obtain ⟨i, hi, hitem, -, hended, -⟩ := jobSent_origin hjobs k hk
    rcases hl i hi with hst | hen
    · exact .inl (by rw [hitem]; exact hst)
    · exact .inr (hended.trans hen)
  have hclear : LineKept s (clearOut s) :=
    ⟨⟨rfl, rfl, rfl, rfl, rfl, rfl, rfl, rfl⟩, ⟨rfl, rfl, rfl, rfl, rfl, rfl⟩, .ofEq rfl, rfl⟩
  have hcleared : JobWork j.item.clamp s p := .of_kept _ (hclear.trans hbus.lineKept) hbus.line hbus.glue ⟨l, _, _, m, hcar⟩ (hbus.present _)
  have hend : JobWork j.item.clamp s (endJob st .aborted p) := hcleared.trans
    (.of_kept _ (endJob_kept _ _ (.refl p)) rfl rfl ⟨_, _, _, _, rfl⟩ rfl)
  obtain ⟨q, hq⟩ : ∃ q, q = overrunTaken j st (clearOut s) := ⟨_, rfl⟩
  have hover' : overrunEnded st (clearOut s) = endJob st .aborted p := by rw [hp]; rfl
  have htaken : JobWork j.item.clamp s q ∧ q.car.jobs = (endJob st .aborted p).car.jobs
      ∧ q.car.overruns = s.car.overruns := by
    have hov : (endJob st .aborted p).car.overruns = s.car.overruns := by
      show p.car.overruns = _
      rw [hcar]
      rfl
    have hreason : ∀ u, JobWork j.item.clamp s u → u.car = (endJob st .aborted p).car →
        JobWork j.item.clamp s (setReason j.item.clamp .station u)
          ∧ (setReason j.item.clamp .station u).car.jobs = (endJob st .aborted p).car.jobs
          ∧ (setReason j.item.clamp .station u).car.overruns = s.car.overruns := fun u hu huc => by
      obtain ⟨v, hv⟩ := setReason_clamps j.item.clamp .station u
      refine ⟨hu.trans (jobWork_setReason _ _ _), ?_, ?_⟩
      · rw [hv, ← huc]
      · rw [hv, ← hov, ← huc]
    rw [hq]
    unfold overrunTaken
    rw [hover']
    cases st with
    | load =>
      dsimp only
      split
      · exact ⟨hend.trans (.of_kept _ (dropReservation_kept (.refl _)) rfl rfl ⟨_, _, _, _, rfl⟩ rfl), rfl, hov⟩
      · exact ⟨hend, rfl, hov⟩
    | apply =>
      exact hreason _ (hend.trans (.of_kept _ (removeEntry_kept (.refl _)) rfl rfl ⟨_, _, _, _, rfl⟩ rfl)) rfl
    | release =>
      have hd := discardEarly_eq (endJob .release .aborted p)
      exact hreason _ (hend.trans (.of_kept _ (discardEarly_kept (.refl _)) (by rw [hd]) (by rw [hd])
        ⟨_, _, _, _, by rw [hd]⟩ (by rw [hd]; rfl))) (by rw [hd])
    | mill | spine | side | draw | nip => exact hreason _ hend rfl
  obtain ⟨hwork, hqjobs, hqov⟩ := htaken
  have hcount : overrunCount q st = 0 := by
    rw [overrunCount, hqov]
    exact hc
  have hfinal : jobOverran j (clearOut s) = setOverrun st 1 q := by
    rw [jobOverran_eq (station_of_jobAt hj), ← hq, stationOverrun_first hcount]
  have hclose : DwellClosing s s (setOverrun st 1 q) j.item.clamp none :=
    (hwork.trans (.of_kept _ (setOverrun_kept _ _ (.refl q)) rfl rfl ⟨_, _, _, _, rfl⟩ rfl)).closing hd (by
      show ∀ k ∈ q.car.jobs, _
      rw [hqjobs]
      exact ended_endJob (.inr (.inr rfl)) hlast)
  refine ⟨_, hclose, ?_⟩
  rw [exec_jobOverrun hlive hd hj, if_pos hover, hfinal, hclose.dwellCheck]

/-- A drop behind other books in the cooling queue is its move and its job's end alone (R126). -/
theorem dropConfirmed_cooled (hb : bookIn s d = some b) (hd : s.car.state = .dwelling) (hc : s.dlv.cooling ≠ [])
    (hj : jobAt s .release = some j) (he : j.ended = false) :
    dropConfirmed d s = setOverrun .release 0 (endJob .release .done (dropMoved d b s)) := by
  obtain ⟨v, hv⟩ : ∃ v, v = setOverrun .release 0 (endJob .release .done (dropMoved d b s)) := ⟨_, rfl⟩
  have hjob : (match jobAt (dropMoved d b s) .release with
      | some j => if j.ended then dropMoved d b s else setOverrun .release 0 (endJob .release .done (dropMoved d b s))
      | none => dropMoved d b s) = v := by
    have hat : jobAt (dropMoved d b s) .release = some j := hj
    rw [hv, hat]
    exact if_neg (by rw [he]; exact Bool.false_ne_true)
  have hstate : v.car.state = .dwelling := by rw [hv]; exact hd
  have hre : redecide false v = v := redecide_of_undecided false (.inl (by rw [hstate]; nofun))
  have hdrop : dropConfirmed d s = if s.dlv.cooling.isEmpty then headDecision (startHeadTimer (redecide false v))
      else redecide false v := by
    rw [← hjob]
    unfold dropConfirmed
    simp only [hb]
    rfl
  rw [hdrop, List.isEmpty_eq_false_iff.2 hc, hre, ← hv]
  rfl

/-- The last job ends by the confirm of its drop (R53, R126). -/
theorem closing_drops {p : State} (hv : ∃ x o, v = { s with scan := x, busOut := o }) (h : JobWork d v p)
    (hd : s.car.state = .dwelling) (hb : bookIn p d = some b) (hj : jobAt p .release = some j) (he : j.ended = false)
    (hl : LastOpen p .release) (hc : s.dlv.cooling ≠ []) : DwellClosing v s (dropConfirmed d p) d (some d) := by
  have hview := hv
  obtain ⟨x, o, hv⟩ := hv
  obtain ⟨_, _, _, _, _, hcar⟩ := h.car
  have hvcar : v.car = s.car := by rw [hv]
  have hvdlv : v.dlv = s.dlv := by rw [hv]
  have hpd : p.car.state = .dwelling := by
    rw [hcar, hvcar]
    exact hd
  have hpc : p.dlv.cooling ≠ [] := by
    rw [h.books.cooling, hvdlv]
    exact hc
  have hbooks : ∀ d, bookIn v d = bookIn s d := fun d => by rw [bookIn, hvcar, bookIn]
  rw [dropConfirmed_cooled hb hpd hpc hj he]
  obtain ⟨q, hq⟩ : ∃ q, q = dropMoved d b p := ⟨_, rfl⟩
  rw [← hq]
  have hrec : ∀ i, clampRec q i = if i = d then { clampRec p d with book := none } else clampRec p i := fun i => by
    rw [hq]
    exact clampRec_dropMoved i
  have hqlast : LastOpen q .release := by rw [hq]; exact hl
  have hsame : q.tickets = p.tickets ∧ q.dlv.waiters = p.dlv.waiters ∧ q.line = p.line ∧ q.glue = p.glue ∧ q.scan = p.scan
      ∧ q.settings = p.settings ∧ q.car = { p.car with clamps := q.car.clamps } ∧ q.bus = p.bus := by
    rw [hq]
    exact ⟨rfl, rfl, rfl, rfl, rfl, rfl, rfl, rfl⟩
  obtain ⟨htk, hwait, hline, hglue, hscan, hset, hqcar, hqbus⟩ := hsame
  exact {
    view := hview
    state := by
      show q.car.state = _
      rw [hqcar]
      exact hpd
    ended := ended_endJob (.inl rfl) hqlast
    tables := h.tables.trans ((hq ▸ dropMoved_tables d b p : TablesKept p q).trans ⟨rfl, rfl, rfl, rfl, rfl, rfl, rfl, rfl⟩)
    queue := (congrArg TicketUnit.queue htk).trans (h.queue.trans (by rw [hv]))
    recs := fun i hi _ => (hrec i).trans ((if_neg hi).trans ((h.recs i hi).trans (clampRec_of_clamps (by rw [hvcar]) i)))
    books := nofun
    waiters := hwait.trans (h.books.waiters.trans (by rw [hvdlv]))
    left := fun i => by
      show bookIn q i ≠ none ↔ _
      rw [bookIn_eq, hrec]
      by_cases hi : i = d
      · rw [if_pos hi, hi]
        exact ⟨fun hn => absurd rfl hn, fun hn => absurd rfl hn.2⟩
      · rw [if_neg hi, h.recs i hi, ← bookIn_eq, hbooks]
        exact ⟨fun hn => ⟨hn, fun e => hi (Option.some.inj e).symm⟩, And.left⟩
    line := hline.trans (h.line.trans (by rw [hv]))
    cond := fun hn => by
      show q.glue.cond ≠ _
      rw [hglue]
      exact h.cond (by rw [hv]; exact hn)
    clear := fun hcl => entryClear_of_same hscan hglue hset (h.clear hcl)
    car := ⟨q.car.clamps, _, _, _, _, by
      show ({ (endJob .release .done q).car with overruns := _ } : Carousel) = _
      unfold endJob updateJob
      simp only
      rw [hqcar, hcar, hvcar]⟩
    drive := by
      show present q .drive = _
      unfold present nodeRec
      rw [hqbus]
      exact h.drive.trans (by rw [hv]; rfl) }

/-- The drop was early and RELEASE's DONE confirms it (R125, R126). -/
theorem closing_earlyDrop (h : AnswersJob s .release j tag slot) (hl : LastOpen s .release)
    (hw : s.dlv.dropWatch = .early) (hb : bookIn s j.item.clamp = some b) (hc : s.dlv.cooling ≠ []) (r : JobResult) :
    ∃ w, DwellClosing s s w j.item.clamp (some j.item.clamp)
      ∧ ∃ t, exec (.slotAnswer .release [(.release, .done r)] none ⟨false, true⟩) s = .next t
        ∧ SlotLeft (carDwellEnd (carTold tellFuel) w) t := by
  have hb' : bookIn (slotHeard .release s) j.item.clamp = some b := hb
  obtain ⟨m, hm⟩ : ∃ m, m = releaseStamped j.item.clamp b (slotHeard .release s) := ⟨_, rfl⟩
  have hu := (takeStatus_done h r).trans ((jobDone_release (station_of_jobAt h.job) r _).trans
    ((releaseAnswered_eq hb').trans (if_pos hw)))
  rw [← hm] at hu
  have hmb : bookIn m j.item.clamp = some { b with releaseTime := some s.clock } := by
    rw [hm, bookIn_eq, clampRec_releaseStamped, if_pos rfl]
    rfl
  have hheard : JobWork j.item.clamp s (slotHeard .release s) :=
    .of_kept _ (slotHeard_kept .release s) rfl rfl ⟨_, _, _, _, rfl⟩ (present_slotHeard_drive .release s)
  have hupdate : JobWork j.item.clamp (slotHeard .release s) (updateJob .release releaseTaken (slotHeard .release s)) :=
    .of_kept _ ⟨⟨rfl, rfl, rfl, rfl, rfl, rfl, rfl, rfl⟩, ⟨rfl, rfl, rfl, rfl, rfl, rfl⟩, .ofEq rfl, rfl⟩ rfl rfl
      ⟨_, _, _, _, rfl⟩ rfl
  have hstamp : JobWork j.item.clamp s m := by
    rw [hm]
    exact (hheard.trans hupdate).trans (jobWork_setClamp (iff_of_false nofun fun hn => absurd (hb.symm.trans hn) nofun))
  have hjob : jobAt m .release = some (releaseTaken j) := by
    rw [hm]
    exact jobAt_updateJob (s := slotHeard .release s) (f := releaseTaken) (fun _ => rfl) h.job
  have hlast : LastOpen m .release := by
    rw [hm]
    intro k hk
    obtain ⟨i, hi, rfl⟩ := List.mem_map.1 hk
    rcases hl i hi with hst | hen
    · exact .inl (by split <;> exact hst)
    · split
      · next hst => exact .inl (beq_iff_eq.1 hst)
      · exact .inr hen
  have hclose := closing_drops ⟨s.scan, s.busOut, rfl⟩ hstamp h.dwelling hmb hjob rfl hlast hc
  exact ⟨_, hclose, _, exec_release h hu, .inr (congrArg slotClosed hclose.dwellCheck)⟩

/-- The drop is confirmed by its contact (R126, R165). -/
theorem closing_drop {r : BitVec 64} {n : Time} (h : HandsChange s r 1 true) (hd : s.car.state = .dwelling)
    (hl : LastOpen s .release) (hj : jobAt s .release = some j) (he : j.ended = false)
    (hw : s.dlv.dropWatch = .opened d n) (hb : bookIn s d = some b) (hc : s.dlv.cooling ≠ []) :
    ∃ w, DwellClosing (scanned r s) s w d (some d) ∧ exec (.scanEnd r) s = .next (carDwellEnd (carTold tellFuel) w) := by
  have hexec : exec (.scanEnd r) s = .next (dropContact (scanned r s)) := exec_handsChange h
  obtain ⟨x, hx⟩ := scanned_eq r s
  obtain ⟨v, hv⟩ : ∃ v, v = scanned r s := ⟨_, rfl⟩
  rw [← hv] at hexec hx ⊢
  have hself : JobWork d v v := .of_kept _ (.refl v) rfl rfl ⟨_, _, _, _, rfl⟩ rfl
  have hclose : DwellClosing v s (dropConfirmed d v) d (some d) :=
    closing_drops ⟨x, [], hx⟩ hself hd (by rw [hx]; exact hb) (by rw [hx]; exact hj) he (by rw [hx]; exact hl) hc
  have hvw : v.dlv.dropWatch = .opened d n := by rw [hx]; exact hw
  refine ⟨_, hclose, hexec.trans (congrArg _ ?_)⟩
  unfold dropContact
  simp only [hvw]
  exact hclose.dwellCheck

/-- The state whose contacts the end of a dwell sees: a scan's changes are taken before (R165). -/
def dwellView (c : Instr) (s : State) : State :=
  match c with
  | .scanEnd r => scanned r s
  | _ => s

/-- Every ending of a dwell by its last job (R53). -/
theorem endsDwell_closing {c : Instr} {out : Option (Fin 20)} (h : EndsDwell s c a out) :
    ∃ w, DwellClosing (dwellView c s) s w a out
      ∧ (∀ x, c = .slotAnswer .loader [(.load, .done .noBlock)] x ⟨false, true⟩ →
        out = none ∧ dwellView c s = s ∧ w.car.clamps = s.car.clamps)
      ∧ ∃ t, exec c s = .next t ∧ SlotLeft (carDwellEnd (carTold tellFuel) w) t := by
  cases h with
  | answer h hl hq ht =>
    obtain ⟨w, hw, hno, t, he, hs⟩ := closing_answer h hl hq ht
    refine ⟨w, hw, fun x hx => ⟨rfl, rfl, ?_⟩, t, he, hs⟩
    injection hx with _ hjobs
    injection hjobs with hjob
    injection hjob with hst ha
    exact hno hst ha
  | overrun hlive hd hl hj hf hlim hlate hc =>
    obtain ⟨w, hw, he⟩ := closing_overrun hlive hd hl hj hf hlim hlate hc
    exact ⟨w, hw, nofun, _, he, .inl rfl⟩
  | earlyDrop h hl hw hb hc =>
    obtain ⟨w, hw, t, he, hs⟩ := closing_earlyDrop h hl hw hb hc _
    exact ⟨w, hw, nofun, t, he, hs⟩
  | drop h hd hl hj hen hw hb hc =>
    obtain ⟨w, hw, he⟩ := closing_drop h hd hl hj hen hw hb hc
    exact ⟨w, hw, nofun, _, he, .inl rfl⟩

/-! ## The state behind the closed slot (R153) -/

theorem slotClosed_left (s : State) : ∃ x, slotClosed s = { s with bus := { s.bus with current := x } }
    ∧ ∀ n k, Asked s.bus n k → Asked { s.bus with current := x } n k := by
  unfold slotClosed
  split
  · next g m hc =>
    refine ⟨_, rfl, fun n k hask => ?_⟩
    rcases hask with hq | ⟨q, g', m', hr⟩ | hw
    · exact .inl hq
    · rw [hc] at hr
      cases hr
    · exact .inr (.inr hw)
  · exact ⟨s.bus.current, rfl, fun _ _ => id⟩

theorem SlotLeft.eq (h : SlotLeft s t) : ∃ x, t = { s with bus := { s.bus with current := x } }
    ∧ ∀ n k, Asked s.bus n k → Asked { s.bus with current := x } n k := by
  rcases h with rfl | rfl
  · exact ⟨t.bus.current, rfl, fun _ _ => id⟩
  · exact slotClosed_left s

theorem DwellOver.slotLeft (h : DwellOver w t) (x : Option Transaction) :
    DwellOver w { t with bus := { t.bus with current := x } } :=
  h.next ⟨rfl, rfl, rfl, rfl, rfl, rfl, rfl, rfl⟩ rfl ⟨rfl, rfl, rfl, rfl, rfl, rfl⟩ ⟨_, _, _, _, _, _, rfl⟩ rfl

/-! ## What the end of the dwell finds (R53, R54) -/

section
variable {out : Option (Fin 20)} (h : DwellClosing v s w a out)
include h

theorem DwellClosing.clampAt (p : Fin 20) : clampAt w p = Machine.clampAt s p := by
  obtain ⟨_, _, _, _, _, hc⟩ := h.car
  unfold Machine.clampAt
  rw [hc]

theorem DwellClosing.anyLoaded : anyLoaded w = true ↔ ∃ d, bookIn s d ≠ none ∧ out ≠ some d := by
  rw [anyLoaded_iff]
  refine exists_congr fun d => ?_
  rw [← h.left d, Option.isSome_iff_ne_none]

theorem DwellClosing.noneLoaded (hn : ∀ d, ¬(bookIn s d ≠ none ∧ out ≠ some d)) : Machine.anyLoaded w = false :=
  Bool.eq_false_iff.2 fun hl => by
    obtain ⟨d, hd⟩ := h.anyLoaded.1 hl
    exact hn d hd

theorem DwellClosing.wake : wakeCondition w = wakeCondition v := by
  obtain ⟨x, o, hv⟩ := h.view
  have hq : w.tickets.queue = v.tickets.queue := h.queue.trans (by rw [hv])
  unfold wakeCondition inPresent contactClosed
  rw [hq, h.tables.scan]

theorem DwellClosing.guards : anyGuardOpen w = anyGuardOpen v := by
  unfold anyGuardOpen guardOpen
  rw [h.tables.scan]

theorem DwellClosing.covers : coverEmptyClosed w = coverEmptyClosed v := by
  unfold coverEmptyClosed contactClosed
  rw [h.tables.scan]

theorem DwellClosing.clock : w.clock = s.clock := by
  obtain ⟨x, o, hv⟩ := h.view
  exact h.tables.clock.trans (by rw [hv])

theorem DwellClosing.settings : w.settings = s.settings := by
  obtain ⟨x, o, hv⟩ := h.view
  exact h.tables.settings.trans (by rw [hv])

/-- What every end of a dwell keeps, as statement O39 has it. -/
theorem DwellClosing.kept (k : DwellOver w t) : TablesKept v t ∧ t.tickets.queue = s.tickets.queue
    ∧ (∀ d, d ≠ a → out ≠ some d → clampRec t d = clampRec s d) ∧ (out = none → DeliveryKept s t)
    ∧ (∀ d, out = some d → bookIn t d = none) ∧ t.car.worked = (s.car.worked || s.car.dwell == .full)
    ∧ t.car.phase = s.car.phase ∧ t.car.phaseKnown = s.car.phaseKnown := by
  obtain ⟨_, _, _, _, _, hc⟩ := h.car
  refine ⟨h.tables.trans k.tables, k.queue.trans h.queue, fun d hd ho => (k.record d).trans (h.recs d hd ho),
    fun ho => (h.books ho).trans k.books, fun d ho => ?_, k.worked.trans (by rw [hc]), k.phase.trans (by rw [hc]),
    k.known.trans (by rw [hc])⟩
  rw [k.book]
  by_contra hb
  exact ((h.left d).1 hb).2 ho

/-- A line that goes on in RUNNING (R54). -/
theorem DwellClosing.runs (hr : s.line.state = .running) (hm : s.line.halt = false) (hh : ¬s.line.holds.any = true) :
    GoesOnAfter w (dwellSlowed w) .running := by
  have hl := h.line
  have hw : w.line.state = .running := by rw [hl]; exact hr
  exact hw ▸ goesOnAfter_same h.state (.inl hw) (by rw [hl]; exact Bool.not_eq_true _ ▸ hh) (by rw [hl]; exact hm)
    (fun hd => absurd (hw.symm.trans hd) nofun)

/-- A line that goes on in DRAINING, with its entry of the same event (R54, R105, R114). -/
theorem DwellClosing.drains (hd : (s.line.state = .draining ∧ s.line.park = false ∧ s.line.halt = false ∧ ¬s.line.holds.any = true)
    ∨ (s.line.state = .running ∧ s.line.halt = true ∧ ¬s.line.holds.any = true) ∧ EntryClear v) :
    ∃ y, GoesOnAfter w y .draining := by
  have hl := h.line
  rcases hd with ⟨hd, hp, hm, hh⟩ | ⟨⟨hr, hm, hh⟩, hclear⟩
  · have hw : w.line.state = .draining := by rw [hl]; exact hd
    exact ⟨_, hw ▸ goesOnAfter_same h.state (.inr hw) (by rw [hl]; exact Bool.not_eq_true _ ▸ hh) (by rw [hl]; exact hm)
      (fun _ => by rw [hl]; exact hp)⟩
  · exact goesOnAfter_halt h.state (by rw [hl]; exact hr) (by rw [hl]; exact Bool.not_eq_true _ ▸ hh) (by rw [hl]; exact hm)
      (h.clear hclear)

end

end

end Sys2Proof.Machine

/-! PROOFS. O39: the end of a dwell (R53, R54, R105 to R107, R114 to R116). -/

namespace Sys2Proof.Machine

section
variable {s t u v w y : State} {a d : Fin 20} {out : Option (Fin 20)} {ls : LineState}

/-! ## The index decision of an empty RUNNING line (R54) -/

theorem indexWork_empty_iff (hr : y.line.state = .running) (hn : anyLoaded y = false) : indexWork y = true ↔
    y.tickets.queue ≠ [] ∧ ∃ e, clampAt y 0 = some e ∧ (clampRec y e).mark ≠ .inUse
      ∧ ∃ d, d ≠ e ∧ (clampRec y d).mark = .inUse ∧ bookIn y d = none := by
  have hsearch : ∀ e, ((List.finRange 20).any fun d => d != e && (clampRec y d).mark == .inUse && (clampRec y d).book.isNone) = true
      ↔ ∃ d, d ≠ e ∧ (clampRec y d).mark = .inUse ∧ bookIn y d = none := fun e => by
    rw [List.any_eq_true]
    refine exists_congr fun d => ?_
    simp [bookIn_eq, and_assoc]
  unfold indexWork
  rw [hn, hr]
  cases hc : clampAt y 0 with
  | none => simp
  | some e =>
    simp only [Bool.false_or, beq_self_eq_true, Bool.true_and, Bool.and_eq_true, bne_iff_ne, hsearch]
    simp

/-- The clamp at P0, the marks and the books are the same at both ends of the decision. -/
theorem DwellClosing.shifts_iff (h : DwellClosing v s w a out) (k : DwellOver w t) (g : DwellOver w y)
    (hr : y.line.state = .running) (hn : Machine.anyLoaded y = false) :
    (s.tickets.queue ≠ [] ∧ ∃ e, Machine.clampAt s 0 = some e ∧ (clampRec t e).mark ≠ .inUse
      ∧ ∃ d, d ≠ e ∧ (clampRec t d).mark = .inUse ∧ bookIn t d = none) ↔ indexWork y = true := by
  rw [indexWork_empty_iff hr hn]
  simp only [g.queue, h.queue, g.clampAt, h.clampAt, g.record, k.record, g.book, k.book]

/-! ## The clauses of the statement, before the slot closes -/

/-- The carousel stands after the dwell (R54). -/
def Stands (t : State) : Prop := t.car.state = .standing ∧ t.bus.fast = false

theorem stands_of_moved (h : y.bus.fast = false) (k : LineMoved (setCarState .standing y) t) : Stands t :=
  ⟨k.carState, (congrArg Bus.fast k.bus).trans h⟩

theorem dwellSlowed_line (w : State) : (dwellSlowed w).line = w.line := by
  obtain ⟨b, -, -, he⟩ := dwellSlowed_eq w
  rw [he]

theorem dwellSlowed_fast (w : State) : (dwellSlowed w).bus.fast = false := by
  obtain ⟨b, hf, -, he⟩ := dwellSlowed_eq w
  rw [he]
  exact hf

section
variable (h : DwellClosing v s w a out)
include h

theorem DwellClosing.slowedLine : (dwellSlowed w).line = s.line := (dwellSlowed_line w).trans h.line

theorem DwellClosing.slowedLoaded (hn : ¬∀ d, ¬(bookIn s d ≠ none ∧ out ≠ some d)) :
    Machine.anyLoaded (dwellSlowed w) = true := by
  rw [(dwellSlowed_over w).loaded]
  exact h.anyLoaded.2 (not_forall_not.1 hn)

/-- A pending hold (R107). -/
theorem DwellClosing.heldOver (hm : s.line.state = .running ∨ s.line.state = .draining) (hh : s.line.holds.any = true)
    (hp : ¬(s.line.state = .draining ∧ s.line.park = true ∧ ∀ d, ¬(bookIn s d ≠ none ∧ out ≠ some d)))
    (hu : u = carDwellEnd (carTold tellFuel) w) : DwellOver w u ∧ Stands u ∧ u.line.state = .held
      ∧ u.line.holds = s.line.holds ∧ u.line.halt = false ∧ u.line.park = false ∧ u.line.standbyTimer = none
      ∧ u.line.returnState = if s.line.state = .draining ∨ s.line.halt = true then .draining else .running := by
  obtain ⟨x, hx⟩ : ∃ x, x = dwellSlowed w := ⟨_, rfl⟩
  have hl : x.line = s.line := hx ▸ h.slowedLine
  have hend := carDwellEnd_holds (again := carTold tellFuel) hx (by rw [hl]; exact hm) (by rw [hl]; exact hh)
    (fun ⟨hd, hk, hn⟩ => hp ⟨by rw [← hl]; exact hd, by rw [← hl]; exact hk, fun d hb => by
      rw [hx] at hn
      exact Bool.false_ne_true (hn.symm.trans (h.slowedLoaded fun hall => hall d hb))⟩)
  have hline : u.line = (enterHeld x).line := by rw [hu, hend]; rfl
  have hmov := enterHeld_moved (.refl x)
  rw [enterHeld_line, hl] at hline
  refine ⟨?_, ⟨by rw [hu, hend]; rfl, ?_⟩, ?_⟩
  · rw [hu, hend]
    exact ((hx ▸ dwellSlowed_over w).lineMoved hmov).carState .standing
  · rw [hu, hend]
    exact (congrArg Bus.fast hmov.bus).trans (hx ▸ dwellSlowed_fast w)
  · rw [hline]
    refine ⟨rfl, rfl, rfl, rfl, rfl, ?_⟩
    exact if_congr (by simp) rfl rfl

/-- The park mark with no clamp loaded (R115). -/
theorem DwellClosing.parkedOver (hd : s.line.state = .draining) (hp : s.line.park = true)
    (hn : ∀ d, ¬(bookIn s d ≠ none ∧ out ≠ some d)) (hu : u = carDwellEnd (carTold tellFuel) w) : DwellOver w u
      ∧ Stands u ∧ u.line.state = .parked ∧ u.line.holds.any = false ∧ u.line.park = false ∧ u.glue.target = .off := by
  have hl := h.slowedLine
  have hend := carDwellEnd_parks (again := carTold tellFuel) (s := w) rfl (by rw [hl]; exact hd) (by rw [hl]; exact hp)
    ((dwellSlowed_over w).loaded.trans (h.noneLoaded hn))
  have hmov := enterParked_moved (.refl (setCarState .standing (dwellSlowed w)))
  obtain ⟨x, hx⟩ := enterParked_host (setCarState .standing (dwellSlowed w))
  rw [hu, hend]
  refine ⟨((dwellSlowed_over w).carState .standing).lineMoved hmov, stands_of_moved (dwellSlowed_fast w) hmov, ?_⟩
  rw [hx]
  exact ⟨rfl, rfl, rfl, rfl⟩

/-- The halt mark with a guard open or the covers out (R105, R114). -/
theorem DwellClosing.blockedOver (hr : s.line.state = .running) (hm : s.line.halt = true) (hh : ¬s.line.holds.any = true)
    (hb : anyGuardOpen v = true ∨ coverEmptyClosed v = true) (hu : u = carDwellEnd (carTold tellFuel) w) : DwellOver w u
      ∧ Stands u ∧ u.line.state = .held ∧ u.line.returnState = .draining ∧ u.line.halt = false
      ∧ u.line.holds.guardOpen = anyGuardOpen v ∧ u.line.holds.coverEmpty = coverEmptyClosed v := by
  obtain ⟨x, hx⟩ : ∃ x, x = dwellSlowed w := ⟨_, rfl⟩
  have hl : x.line = s.line := hx ▸ h.slowedLine
  have hover : DwellOver w x := hx ▸ dwellSlowed_over w
  have hg : anyGuardOpen x = anyGuardOpen v := by
    rw [← h.guards]
    unfold anyGuardOpen guardOpen
    rw [hover.tables.scan]
  have hc : coverEmptyClosed x = coverEmptyClosed v := by
    rw [← h.covers]
    unfold coverEmptyClosed contactClosed
    rw [hover.tables.scan]
  have hstate : x.car.state = .dwelling := by
    obtain ⟨b, -, -, he⟩ := dwellSlowed_eq w
    rw [hx, he]
    exact h.state
  obtain ⟨z, hend, hmov, hz, hzg, hzc⟩ := carDwellEnd_blocked (again := carTold tellFuel) hx hstate (by rw [hl]; exact hr)
    (by rw [hl]; exact Bool.not_eq_true _ ▸ hh) (by rw [hl]; exact hm) (by rw [hg, hc]; exact hb)
  have hheld := enterHeld_moved (.refl (setCarState .standing z))
  rw [hu, hend]
  refine ⟨((hover.lineMoved hmov).carState .standing).lineMoved hheld, stands_of_moved ?_ hheld, ?_⟩
  · exact (congrArg Bus.fast hmov.bus).trans (hx ▸ dwellSlowed_fast w)
  · rw [enterHeld_line]
    refine ⟨rfl, ?_, rfl, hzg.trans hg, hzc.trans hc⟩
    exact if_pos (by rw [show (setCarState .standing z).line.state = _ from hz]; rfl)

/-- An empty DRAINING line is left for STANDBY (R115). -/
theorem DwellClosing.standbyOver (g : GoesOnAfter w y .draining) (hn : ∀ d, ¬(bookIn s d ≠ none ∧ out ≠ some d))
    (hw : wakeCondition v = false) (hu : u = carDwellEnd (carTold tellFuel) w) : DwellOver w u ∧ Stands u
      ∧ u.line.state = .standby ∧ u.line.halt = false ∧ u.line.standbyTimer = none
      ∧ u.line.parkTimer = some (s.clock, s.settings.parkDelay * 1000)
      ∧ u.glue.target = .standby (s.settings.workTemp - s.settings.standbyDrop) := by
  obtain ⟨hend, hover⟩ := g.asleep rfl (g.kept.loaded.trans (h.noneLoaded hn)) (h.wake.trans hw)
  have hmov : LineMoved (setCarState .standing y) (stoodBy (setCarState .standing y)) :=
    enterState_moved .standby ((LineMoved.refl _).line _)
  have hclock : y.clock = s.clock := g.kept.tables.clock.trans h.clock
  have hset : y.settings = s.settings := g.kept.tables.settings.trans h.settings
  rw [hu, hend]
  refine ⟨hover, stands_of_moved g.fast hmov, ?_⟩
  rw [stoodBy_line, stoodBy_glue, ← hclock, ← hset]
  exact ⟨rfl, rfl, rfl, rfl, rfl⟩

/-- On the wake condition it is left for WARMING (R115, R116). -/
theorem DwellClosing.warmingOver (g : GoesOnAfter w y .draining) (hn : ∀ d, ¬(bookIn s d ≠ none ∧ out ≠ some d))
    (hw : wakeCondition v = true) (hc : s.glue.cond ≠ .atTemp) (hu : u = carDwellEnd (carTold tellFuel) w) : DwellOver w u
      ∧ Stands u ∧ u.line.state = .warming ∧ u.line.warmTimer = some s.clock ∧ u.line.parkTimer = none
      ∧ u.glue.target = .working s.settings.workTemp := by
  obtain ⟨hend, hover⟩ := g.woken rfl (g.kept.loaded.trans (h.noneLoaded hn)) (h.wake.trans hw) (h.cond hc)
  obtain ⟨z, hz⟩ : ∃ z, z = stoodBy (setCarState .standing y) := ⟨_, rfl⟩
  have hmov : LineMoved (setCarState .standing y) z := hz ▸ enterState_moved .standby ((LineMoved.refl _).line _)
  rw [← hz] at hend hover
  have hback : DwellOver w z := g.standing.lineMoved hmov
  have hclock : z.clock = s.clock := hback.tables.clock.trans h.clock
  have hset : z.settings = s.settings := hback.tables.settings.trans h.settings
  rw [hu, hend]
  refine ⟨hover, stands_of_moved g.fast (hmov.trans (warmed_moved z)), ?_⟩
  rw [warmed_line, warmed_target, ← hclock, hset]
  exact ⟨rfl, rfl, rfl, rfl⟩

/-- Any other line is left as it is (R54). -/
theorem DwellClosing.stillOver (hr : s.line.state ≠ .running) (hd : s.line.state ≠ .draining)
    (hu : u = carDwellEnd (carTold tellFuel) w) : DwellOver w u ∧ Stands u ∧ u.line = s.line := by
  have hl := h.slowedLine
  have hend := carDwellEnd_other (again := carTold tellFuel) (s := w) (by rw [hl]; exact hr) (by rw [hl]; exact hd)
  rw [hu, hend]
  exact ⟨(dwellSlowed_over w).carState .standing, ⟨rfl, dwellSlowed_fast w⟩, hl⟩

/-- Loaded clamps that leave P11 free begin an index (R54). -/
theorem DwellClosing.indexOver (g : GoesOnAfter w y ls) (hsome : ∃ d, bookIn s d ≠ none ∧ out ≠ some d)
    (hat : Machine.clampAt s 11 ≠ none)
    (hfree : ∀ d, ¬(Machine.clampAt s 11 = some d ∧ bookIn s d ≠ none ∧ out ≠ some d)) (hd : present s .drive = true)
    (hu : u = carDwellEnd (carTold tellFuel) w) : IndexBegun w y u := by
  obtain ⟨c, hc⟩ := Option.ne_none_iff_exists'.1 hat
  have hload : Machine.anyLoaded y = true := g.kept.loaded.trans (h.anyLoaded.2 hsome)
  rw [hu]
  refine g.index ((g.kept.clampAt 11).trans ((h.clampAt 11).trans hc)) ?_ ?_ (h.drive.trans hd)
  · rw [Bool.eq_false_iff]
    intro hk
    have hb : bookIn y c ≠ none := Option.isSome_iff_ne_none.1 hk
    rw [g.kept.book] at hb
    exact hfree c ⟨hc, (h.left c).1 hb⟩
  · unfold indexWork
    rw [hload]
    rfl

/-- A lost record at P11 makes the carousel stand (R54). -/
theorem DwellClosing.lostOver (g : GoesOnAfter w y ls) (hc : Machine.clampAt s 11 = some d)
    (hb : bookIn s d ≠ none ∧ out ≠ some d) (hw : .clamp d ∈ s.dlv.waiters)
    (hu : u = carDwellEnd (carTold tellFuel) w) : DwellOver w u ∧ Stands u ∧ u.line = y.line := by
  have hend := g.lost (again := carTold tellFuel) ((g.kept.clampAt 11).trans ((h.clampAt 11).trans hc))
    (by rw [g.kept.book]; exact (h.left d).2 hb) (by rw [g.kept.books.waiters, h.waiters]; exact hw)
  rw [hu, hend]
  exact ⟨g.standing, ⟨rfl, g.fast⟩, rfl⟩

/-- A book at P11 begins a release dwell (R54, R124). -/
theorem DwellClosing.releaseOver (g : GoesOnAfter w y ls) (hc : Machine.clampAt s 11 = some d)
    (hb : bookIn s d ≠ none ∧ out ≠ some d) (hw : .clamp d ∉ s.dlv.waiters)
    (hu : u = carDwellEnd (carTold tellFuel) w) : ∃ b, bookIn w d = some b ∧ ReleaseBegun w y d b u := by
  obtain ⟨b, hbook⟩ := Option.ne_none_iff_exists'.1 ((h.left d).2 hb)
  refine ⟨b, hbook, hu ▸ g.release ((g.kept.clampAt 11).trans ((h.clampAt 11).trans hc)) ((g.kept.book d).trans hbook) ?_⟩
  rw [g.kept.books.waiters, h.waiters]
  exact hw

/-- An empty RUNNING line moves an unusable clamp away from P0, or stands and starts its standby timer (R54, R106). -/
theorem DwellClosing.emptyOver (g : GoesOnAfter w y .running) (hn : ∀ d, ¬(bookIn s d ≠ none ∧ out ≠ some d))
    (hat : Machine.clampAt s 11 ≠ none) (hd : present s .drive = true)
    (hu : u = carDwellEnd (carTold tellFuel) w) : (indexWork y = true ∧ IndexBegun w y u)
      ∨ (indexWork y = false ∧ DwellOver w u ∧ Stands u
        ∧ u.line = { y.line with standbyTimer := some (s.clock, s.settings.standbyDelay * 1000) }) := by
  obtain ⟨c, hc⟩ := Option.ne_none_iff_exists'.1 hat
  have hempty : Machine.anyLoaded y = false := g.kept.loaded.trans (h.noneLoaded hn)
  cases hi : indexWork y with
  | true =>
    exact .inl ⟨rfl, hu ▸ g.index ((g.kept.clampAt 11).trans ((h.clampAt 11).trans hc)) (not_loadedAt hempty c) hi
      (h.drive.trans hd)⟩
  | false =>
    have hclock : y.clock = s.clock := g.kept.tables.clock.trans h.clock
    have hset : y.settings = s.settings := g.kept.tables.settings.trans h.settings
    refine .inr ⟨rfl, ?_⟩
    rw [hu, g.empty rfl hempty hi, ← hclock, ← hset]
    exact ⟨g.standing.lineMoved (startStandby_moved (.refl _)), ⟨rfl, g.fast⟩, rfl⟩

end

/-! ## LOADED at the end of a dwell (R54, R63) -/

/-- The new book gives the next index its work. -/
theorem loaded_indexes {j : Job} {tag : Byte} {slot wait : Nat} {block : Identity} {gap : BitVec 16} {tk : Ticket}
    {rest : List Ticket} (h : AnswersJob s .load j tag slot) (hl : LastOpen s .load) (hp : j.item.params = .load block wait)
    (hq : s.tickets.queue = tk :: rest) (hb : bookIn s j.item.clamp = none) (hr : s.line.state = .running)
    (hm : s.line.halt = false) (hh : s.line.holds.any = false) (hat : clampAt s 11 = some d) (hne : d ≠ j.item.clamp)
    (hbd : bookIn s d = none) (hd : present s .drive = true) : ∃ w t, TablesKept s w ∧ w.tickets.queue = rest
      ∧ bookIn w j.item.clamp ≠ none ∧ w.car.worked = s.car.worked ∧ w.car.dwell = s.car.dwell
      ∧ w.line.state = .running
      ∧ exec (.slotAnswer .loader [(.load, .done (.loaded gap))] none ⟨false, true⟩) s = .next (slotClosed t)
      ∧ IndexBegun w (dwellSlowed w) t := by
  obtain ⟨v, hv⟩ : ∃ v, v = jobTaken .load .done s := ⟨_, rfl⟩
  have hfit : loadResultFits j.item.params (.loaded gap) = true := by rw [hp]; rfl
  have hvq : v.tickets.queue = tk :: rest := by rw [hv]; exact hq
  have hvb : bookIn v j.item.clamp = none := by rw [hv]; exact hb
  have hdone : takeStatus [(.load, .done (.loaded gap))] .load (slotHeard .loader s)
      = afterRemoval (rest.length + 1) (bookLoaded gap tk rest j v) := by
    rw [takeStatus_load h hfit, ← hv]
    exact loadedResult_eq hvq hvb
  obtain ⟨x, hx⟩ := afterRemoval_host (rest.length + 1) (bookLoaded gap tk rest j v)
  obtain ⟨w, hw⟩ : ∃ w, w = afterRemoval (rest.length + 1) (bookLoaded gap tk rest j v) := ⟨_, rfl⟩
  rw [← hw] at hdone hx
  have hrec : ∀ i, clampRec w i = if i = j.item.clamp then { clampRec v j.item.clamp with book := some (loadedBook tk
      v.profiles[tk.profile].fields j.item.clamp gap (clampRec v j.item.clamp).zero v.clock) } else clampRec v i := by
    rw [hx]
    exact fun i => clampRec_setClamp _ _ _ i
  have hjobs : w.car.jobs = (jobTaken .load .done s).car.jobs := by
    rw [hx, hv]
    rfl
  have hdwell : w.car.state = .dwelling := by rw [hx, hv]; exact h.dwelling
  have hline : w.line = s.line := by rw [hx, hv]; rfl
  have halone : Alone w .load := (h.alone'.endJob .done).of_jobs hjobs
  have htake : takeJobs tag .loader [(.load, .done (.loaded gap))] (slotHeard .loader s) = w :=
    (takeJobs_alone (s := slotHeard .loader s) h.tag h.alone' (by
      show Alone (takeStatus _ .load (slotHeard .loader s)) .load
      rw [hdone]
      exact halone)).trans hdone
  have hended : w.car.jobs.all Job.ended = true := List.all_eq_true.2 (by
    rw [hjobs]
    exact ended_endJob (s := slotHeard .loader s) (.inl rfl) hl)
  have hcheck : dwellCheck w = carDwellEnd (carTold tellFuel) w := if_pos (by rw [hdwell, hended]; rfl)
  have hrun : w.line.state = .running := by rw [hline]; exact hr
  have g : GoesOnAfter w (dwellSlowed w) .running := hrun ▸ goesOnAfter_same hdwell (.inl hrun)
    (by rw [hline]; exact hh) (by rw [hline]; exact hm) (fun hdr => absurd (hrun.symm.trans hdr) nofun)
  have hbook : bookIn w j.item.clamp ≠ none := by
    rw [bookIn_eq, hrec, if_pos rfl]
    nofun
  have hfree : bookIn w d = none := by
    rw [bookIn_eq, hrec, if_neg hne, hv]
    exact hbd
  have hload : anyLoaded (dwellSlowed w) = true := by
    rw [g.kept.loaded]
    exact anyLoaded_iff.2 ⟨_, Option.isSome_iff_ne_none.2 hbook⟩
  have hindex : IndexBegun w (dwellSlowed w) (carDwellEnd (carTold tellFuel) w) := by
    refine g.index (c := d) ((g.kept.clampAt 11).trans ?_) ?_ ?_ ?_
    · rw [hx, hv]
      exact hat
    · show (bookIn (dwellSlowed w) d).isSome = false
      rw [g.kept.book, hfree]
      rfl
    · unfold indexWork
      rw [hload]
      rfl
    · rw [hx, hv]
      exact (present_slotHeard_drive .load s).trans hd
  refine ⟨w, carDwellEnd (carTold tellFuel) w, ?_, ?_, hbook, ?_, ?_, hrun, ?_, hindex⟩
  · rw [hx, hv]
    exact ⟨rfl, rfl, rfl, rfl, rfl, rfl, rfl, rfl⟩
  · rw [hx]
    rfl
  · rw [hx, hv]
    rfl
  · rw [hx, hv]
    rfl
  · have hexec := exec_slotAnswer h [(.load, .done (.loaded gap))] none
    rw [show stationNode .load = .loader from rfl, htake, slotTemp_none, hcheck] at hexec
    exact hexec

end

/-- Settles O39: every ending of a dwell leaves a state in which the last job has ended and the line is as it was; from
there the dwell's end goes by the line's pending marks and the index decision. -/
theorem dwellEndIndexes : Obligations.DwellEndIndexes := by
  unfold Obligations.DwellEndIndexes
  refine ⟨?ends, ?loaded⟩
  case ends =>
    intro s c at_ out hend v left draining held blocked halts drains runs atGate ends stands indexes shifts
    obtain ⟨w, h, hno, t, hexec, hslot⟩ := endsDwell_closing hend
    have hview : dwellView c s = v := rfl
    rw [hview] at h hno
    obtain ⟨u, hu⟩ : ∃ u, u = carDwellEnd (carTold tellFuel) w := ⟨_, rfl⟩
    rw [← hu] at hslot
    obtain ⟨x, rfl, hask⟩ := hslot.eq
    have hends : ∀ p : State → Prop, DwellOver w u → p { u with bus := { u.bus with current := x } } → ends p := by
      intro p hover hp
      have hk := hover.slotLeft x
      obtain ⟨h₁, h₂, h₃, h₄, h₅, h₆, h₇, h₈⟩ := h.kept hk
      refine ⟨_, hexec, h₁, h₂, h₃, h₄, h₅, fun y hy => ?_, h₆, h₇, h₈, hp⟩
      obtain ⟨hout, hv, hclamps⟩ := hno y hy
      have hc := hk.clamps.trans hclamps
      exact ⟨⟨hv ▸ h₁, h₄ hout, .ofEq hc, h₂⟩, hc⟩
    have hgoes : drains ∨ runs → ∃ y ls, GoesOnAfter w y ls ∧ (drains → ls = .draining) ∧ (runs → ls = .running) := by
      rintro (hd | hr)
      · obtain ⟨y, g⟩ := h.drains hd
        refine ⟨y, _, g, fun _ => rfl, fun ⟨hr, hm, _⟩ => ?_⟩
        rcases hd with ⟨hdr, -⟩ | ⟨⟨-, hm', -⟩, -⟩
        · exact absurd (hr.symm.trans hdr) nofun
        · exact absurd (hm.symm.trans hm') nofun
      · obtain ⟨hr, hm, hh⟩ := hr
        refine ⟨_, _, h.runs hr hm hh, fun hd => ?_, fun _ => rfl⟩
        rcases hd with ⟨hdr, -⟩ | ⟨⟨-, hm', -⟩, -⟩
        · exact absurd (hr.symm.trans hdr) nofun
        · exact absurd (hm.symm.trans hm') nofun
    have hindexes : ∀ y, IndexBegun w y u → indexes { u with bus := { u.bus with current := x } } := fun y k =>
      ⟨k.state, by rw [show ({ u with bus := { u.bus with current := x } } : State).line = u.line from rfl, k.line],
        k.fast, hask _ _ k.asked⟩
    refine ⟨fun hm hh hp => ?_, fun hd hp hn => ?_, fun hhalt hb => ?_, fun hd hn hw => ?_, fun hd hn hw hc => ?_,
      fun hgo => ?_, fun hr hn hat hd => ?_, fun hr hd => ?_⟩
    · obtain ⟨hover, hs, hl⟩ := h.heldOver hm hh hp hu
      exact hends _ hover ⟨hs, hl⟩
    · obtain ⟨hover, hs, hl⟩ := h.parkedOver hd hp hn hu
      exact hends _ hover ⟨hs, hl⟩
    · obtain ⟨hr, hm, hh⟩ := hhalt
      obtain ⟨hover, hs, hl⟩ := h.blockedOver hr hm hh hb hu
      exact hends _ hover ⟨hs, hl⟩
    · obtain ⟨y, g⟩ := h.drains hd
      obtain ⟨hover, hs, hl⟩ := h.standbyOver g hn hw hu
      exact hends _ hover ⟨hs, hl⟩
    · obtain ⟨y, g⟩ := h.drains hd
      obtain ⟨hover, hs, hl⟩ := h.warmingOver g hn hw hc hu
      exact hends _ hover ⟨hs, hl⟩
    · obtain ⟨y, ls, g, hdl, hrl⟩ := hgoes hgo
      have hmoving : ∀ l : Line, l.halt = y.line.halt → l.holds = y.line.holds → l.state = y.line.state →
          l.halt = false ∧ l.holds.any = false ∧ (drains → l.state = .draining) ∧ (runs → l.state = .running) :=
        fun l h₁ h₂ h₃ => ⟨h₁.trans g.halt, by rw [h₂]; exact g.holds, fun hd => h₃.trans (g.line.trans (hdl hd)),
          fun hr => h₃.trans (g.line.trans (hrl hr))⟩
      refine ⟨fun hsome hat hfree hd => ?_, fun d hg hw => ?_, fun d hg ho hw => ?_⟩
      · have k := h.indexOver g hsome hat hfree hd hu
        exact hends _ k.kept ⟨hindexes y k, hmoving _ (by rw [k.line]) (by rw [k.line]) (by rw [k.line])⟩
      · obtain ⟨hover, hs, hl⟩ := h.lostOver g hg.1 hg.2 hw hu
        exact hends _ hover ⟨hs, hmoving _ (by rw [hl]) (by rw [hl]) (by rw [hl])⟩
      · obtain ⟨b, hb, k⟩ := h.releaseOver g hg.1 hg.2 hw hu
        obtain ⟨i, hi, hitem, hrd, hst⟩ := k.jobs
        have hcool : w.dlv.cooling = s.dlv.cooling := (h.books ho).cooling
        have htag : w.car.tag = s.car.tag := by
          obtain ⟨_, _, _, _, _, hc⟩ := h.car
          rw [hc]
        have hsent := k.sent
        rw [hcool] at hst hsent
        rw [htag, ← hitem] at hsent
        refine hends _ k.kept ⟨hmoving _ (by rw [k.line]) (by rw [k.line]) (by rw [k.line]), by rw [k.line], k.state, k.dwell,
          by rw [k.tag, htag], i, b, hi, (k.kept.book d).trans hb, hitem, hrd, hst, hsent⟩
    · obtain ⟨hrun, hm, hh⟩ := hr
      have g := h.runs hrun hm hh
      have hempty : anyLoaded (dwellSlowed w) = false := g.kept.loaded.trans (h.noneLoaded hn)
      have hshift : DwellOver w u → (shifts { u with bus := { u.bus with current := x } } ↔ indexWork (dwellSlowed w) = true) :=
        fun hover => h.shifts_iff (hover.slotLeft x) g.kept g.line hempty
      rcases h.emptyOver g hn hat hd hu with ⟨hi, k⟩ | ⟨hi, hover, hs, hl⟩
      · refine hends _ k.kept ⟨?_, fun _ => hindexes _ k, fun hns => absurd ((hshift k.kept).2 hi) hns⟩
        rw [show ({ u with bus := { u.bus with current := x } } : State).line = u.line from rfl, k.line]
        exact g.line
      · refine hends _ hover ⟨?_, fun hsh => ?_, fun _ => ⟨hs, ?_⟩⟩
        · rw [show ({ u with bus := { u.bus with current := x } } : State).line = u.line from rfl, hl]
          exact g.line
        · exact absurd ((hshift hover).1 hsh) (by rw [hi]; exact Bool.false_ne_true)
        · rw [show ({ u with bus := { u.bus with current := x } } : State).line = u.line from rfl, hl]
    · obtain ⟨hover, hs, hl⟩ := h.stillOver hr hd hu
      exact hends _ hover ⟨hs, hl⟩
  case loaded =>
    intro s j tag slot block wait gap d tk rest h hl hp hq hb hr hm hh hat hne hbd hd
    obtain ⟨w, t, htab, hqueue, hbook, hwk, hdw, hrun, hexec, k⟩ :=
      loaded_indexes (gap := gap) h hl hp hq hb hr hm hh hat hne hbd hd
    obtain ⟨x, hx, hask⟩ := slotClosed_left t
    rw [hx] at hexec
    have hover := k.kept.slotLeft x
    have hl : ({ t with bus := { t.bus with current := x } } : State).line = _ := k.line
    refine ⟨_, hexec, htab.trans hover.tables, ?_, k.state, ?_, by rw [hover.book]; exact hbook, hover.queue.trans hqueue,
      by rw [hl], hask _ _ k.asked⟩
    · rw [hl]
      exact (congrArg Line.state (dwellSlowed_line w)).trans hrun
    · rw [hover.worked, hwk, hdw]

end Sys2Proof.Machine
